-- ==== Sys2Proof/Word.lean ====
section
/-! DEFINITION. Word.lean: the byte of the trunk, the 32-bit number of a finding value, and the tables of fixed size. -/

namespace Sys2Proof

/-- One byte of a frame (R193). -/
abbrev Byte := BitVec 8

/-- One value of a finding, a 32-bit number (R158). -/
abbrev Word32 := BitVec 32

/-- A table of exactly `n` numbered places: stream slots, turbine records, item slots and the like. -/
abbrev Tab (α : Type) (n : Nat) := Vector α n

/-- A turbine 1 to 24, held as its place 0 to 23 in a table (R20). -/
abbrev Tid := Fin 24

/-- A Stream Table slot 0 to 191 (R1). -/
abbrev SlotId := Fin 192

/-- A band set 0 to 31 (R65). -/
abbrev SetId := Fin 32

/-- A maintenance item slot 0 to 95 (R140). -/
abbrev ItemId := Fin 96

/-- A position 0 to 120 of the store image (R148). -/
abbrev RecordPos := Fin 121

end Sys2Proof
end

