-- ==== Sys2Proof/Syntax.lean ====
section
/-! DEFINITION. Syntax.lean: the commands the part takes, one constructor for each row of spec/opcode_table.json, with
what each brings from outside. Parameters of the management commands stand as the frame carries them (R194), unchecked:
the Command Unit's checks are part of each command's meaning. -/

namespace Sys2Proof

/-- A link port: Port U faces the turbines, Port D the farm controller (chapter 11). -/
inductive Port where
  | u
  | d
  deriving DecidableEq, Repr

/-- The three time counters of a turbine (R135). -/
inductive TimeCounter where
  | run
  | ice
  | curtailed
  deriving DecidableEq, Repr

/-- Where a command came from: the port it arrived on and the tag the farm controller chose (chapter 12). -/
structure Origin where
  port : Port
  tag  : Nat
  deriving DecidableEq, Repr

/-- A record as the external store holds it: the bytes of its contents and its 16-bit check (R148; entry 48). -/
structure RawRecord where
  contents : List Byte
  check    : BitVec 16
  deriving DecidableEq, Repr

/-- What a record of the external store holds after a write that did not verify or was interrupted: its old contents,
the new ones, or a mix of the two that does not check good (R153, R157; entry 15). -/
inductive TornRecord where
  | old
  | new
  | mixed (held : RawRecord)
  deriving DecidableEq, Repr

/-- How the store answers the write and read-back of one record (R151, R153). -/
inductive WriteResult where
  | verified
  | failed (left : TornRecord)
  deriving DecidableEq, Repr

/-- A stream entry as LOAD STREAM carries it: 18 bytes, slot first (R194). -/
structure RawEntry where
  slot           : Nat
  source         : Nat
  channel        : Nat
  kind           : Nat
  role           : Nat
  phase          : Nat
  bandSet        : Nat
  scale          : Nat
  pulses         : Nat
  edges          : Nat
  markerPresent  : Nat
  markerPolarity : Nat
  spacing        : Nat
  disposition    : Nat
  thinN          : Nat
  silence        : Nat
  deriving DecidableEq, Repr

/-- The five settings of a band set as LOAD BANDSET carries them, its entry 0 (R65, R194). -/
structure RawSetSettings where
  revolutions : Nat
  persistence : Nat
  report      : Nat
  postscale   : Nat
  skip        : Nat
  deriving DecidableEq, Repr

/-- One band as LOAD BANDSET carries it, 14 bytes (R65, R194). -/
structure RawBand where
  kind         : Nat
  lower        : Nat
  upper        : Nat
  alert        : Nat
  alarm        : Nat
  iceSensitive : Nat
  deriving DecidableEq, Repr

/-- One pair of limits as LOAD LIMITS carries it (R95, R194). -/
structure RawLimit where
  voltage : Nat
  current : Nat
  deriving DecidableEq, Repr

/-- The condition link bytes of LOAD ITEM, without the spare byte (R140, R194). -/
structure RawLink where
  bandSet : Nat
  grade   : Nat
  pullIn  : Nat
  deriving DecidableEq, Repr

/-- The fields of LOAD ITEM after its slot (R143, R194). `linkPresent` is the link-present byte; `link` holds the link
bytes, which follow only where that byte is 1. -/
structure RawItem where
  turbine     : Nat
  label       : Nat
  basis       : Nat
  interval    : Nat
  lead        : Nat
  margin      : Nat
  current     : Nat
  point       : Nat
  linkPresent : Nat
  link        : Option RawLink
  deriving DecidableEq, Repr

/-- The commands of the block, one constructor for each row of the opcode table. -/
inductive Instr where
  /-- RESET_ASSERT (R172); `torn` is what a store write in progress leaves in its record (R157). -/
  | resetAssert (torn : TornRecord)
  /-- RESET_RELEASE (R173): power-on, with the value on NODE0 to NODE3 and the UMGT strap. -/
  | resetRelease (strap : Nat) (umgt : Bool)
  /-- RESTORE_COMPLETE (R155): the number of records, from the header on, that the store answered. -/
  | restoreComplete (answered : Nat)
  /-- LINK_DOWN (R174). -/
  | linkDown (port : Port)
  /-- LINK_UP (R174). -/
  | linkUp (port : Port)
  /-- RECEIVE_FRAME (R175): a frame, or what was received of one, completed by a port's receiver. -/
  | receiveFrame (port : Port) (bytes : List Byte)
  /-- ANALYSIS_COMPLETE (R62). -/
  | analysisComplete
  /-- TICK (R129). -/
  | tick
  /-- SILENCE_EXPIRY (R12). -/
  | silenceExpiry (slot : SlotId)
  /-- SERVICE_LIMIT_EXPIRY (R31). -/
  | serviceLimitExpiry (turbine : Tid)
  /-- BLANKING_EXPIRY (R35). -/
  | blankingExpiry (turbine : Tid)
  /-- STOP_EXPIRY (R50). -/
  | stopExpiry (turbine : Tid)
  /-- THAW_DWELL_REACHED (R122). -/
  | thawDwellReached (turbine : Tid)
  /-- REFRESH_EXPIRY (R170). -/
  | refreshExpiry (turbine : Tid)
  /-- COUNTER_CARRY (R136). -/
  | counterCarry (turbine : Tid) (counter : TimeCounter)
  /-- DAY_ROLLOVER (R129). -/
  | dayRollover
  /-- CHECKPOINT_HOUR (R133). -/
  | checkpointHour
  /-- CHECKPOINT_INTERVAL_EXPIRY (R150). -/
  | checkpointIntervalExpiry
  /-- STORE_RECORD_WRITTEN (R151). -/
  | storeRecordWritten (result : WriteResult)
  /-- TRANSMIT_START (R179). -/
  | transmitStart (port : Port)
  /-- TRANSMIT_COMPLETE (R179). -/
  | transmitComplete (port : Port)
  /-- COMMIT_TIMEOUT (R189). -/
  | commitTimeout
  /-- RESTART_EXECUTE (R191). -/
  | restartExecute
  /-- READ_STATUS, code 1 (R190). -/
  | readStatus (o : Origin)
  /-- READ_STREAM, code 2 (R190). -/
  | readStream (o : Origin) (slot : Nat)
  /-- READ_TURBINE, code 3 (R190). -/
  | readTurbine (o : Origin) (turbine : Nat)
  /-- READ_SPEED, code 4 (R37). -/
  | readSpeed (o : Origin) (turbine : Nat)
  /-- READ_BANDS, code 5 (R86). -/
  | readBands (o : Origin) (slot : Nat)
  /-- READ_GRID, code 6 (R109). -/
  | readGrid (o : Origin)
  /-- READ_CONTRIBUTORS, code 7 (R109). -/
  | readContributors (o : Origin)
  /-- READ_ICE, code 8 (R113). -/
  | readIce (o : Origin) (turbine : Nat)
  /-- READ_ITEM, code 9 (R144). -/
  | readItem (o : Origin) (slot : Nat)
  /-- READ_COUNTERS, code 10 (R135). -/
  | readCounters (o : Origin) (turbine : Nat)
  /-- LOAD_STREAM, code 16 (R184). -/
  | loadStream (o : Origin) (entries : List RawEntry)
  /-- DROP_STREAM, code 17 (R184). -/
  | dropStream (o : Origin) (slots : List Nat)
  /-- LOAD_BANDSET, code 18 (R65, R184). -/
  | loadBandset (o : Origin) (set : Nat) (settings : RawSetSettings) (bands : List RawBand)
  /-- LOAD_LIMITS, code 19 (R95, R184). -/
  | loadLimits (o : Origin) (entries : List RawLimit)
  /-- LOAD_CURVE, code 20 (R110, R184). -/
  | loadCurve (o : Origin) (cls : Nat) (bins : List Nat)
  /-- LOAD_SETTINGS, code 21 (R183, R184): 25 entries of 16 bits as sent. -/
  | loadSettings (o : Origin) (entries : List Nat)
  /-- DISCARD_STAGE, code 22 (R185). -/
  | discardStage (o : Origin)
  /-- COMMIT, code 23 (R186). -/
  | commit (o : Origin) (mode : Nat) (timeout : Nat)
  /-- LOAD_TURBINE, code 32 (R22). -/
  | loadTurbine (o : Origin) (turbine : Nat) (present : Nat) (cls : Nat) (rated : Nat)
  /-- HOLD_STREAM, code 33 (R14). -/
  | holdStream (o : Origin) (slot : Nat)
  /-- RESUME_STREAM, code 34 (R15). -/
  | resumeStream (o : Origin) (slot : Nat)
  /-- BEGIN_SERVICE, code 35 (R30). -/
  | beginService (o : Origin) (turbine : Nat) (limit : Nat)
  /-- END_SERVICE, code 36 (R32). -/
  | endService (o : Origin) (turbine : Nat)
  /-- TRIGGER_WINDOW, code 37 (R84). -/
  | triggerWindow (o : Origin) (turbine : Nat) (slot : Nat)
  /-- LOAD_ITEM, code 38 (R143). -/
  | loadItem (o : Origin) (slot : Nat) (item : RawItem)
  /-- CLEAR_ITEM, code 39 (R144). -/
  | clearItem (o : Origin) (slot : Nat)
  /-- SIGN_OFF, code 40 (R147). -/
  | signOff (o : Origin) (slot : Nat)
  /-- SET_COUNTER, code 41 (R138). -/
  | setCounter (o : Origin) (turbine : Nat) (counter : Nat) (value : Nat)
  /-- DECLARE_ICE, code 42 (R125). -/
  | declareIce (o : Origin) (turbine : Nat)
  /-- DECLARE_CLEAR, code 43 (R126). -/
  | declareClear (o : Origin) (turbine : Nat)
  /-- CLEAR_GRID, code 44 (R105). -/
  | clearGrid (o : Origin)
  /-- SET_CLOCK, code 45 (R130). -/
  | setClock (o : Origin) (day : Nat) (hour : Nat) (minute : Nat) (second : Nat) (tenth : Nat) (mode : Nat)
  /-- HOLD_CLOCK, code 46 (R131). -/
  | holdClock (o : Origin)
  /-- RELEASE_CLOCK, code 47 (R132). -/
  | releaseClock (o : Origin)
  /-- SAVE_COUNTERS, code 48 (R154). -/
  | saveCounters (o : Origin)
  /-- SET_FINDING_MASK, code 49 (R163). -/
  | setFindingMask (o : Origin) (kind : Nat) (setting : Nat)
  /-- ADVICE_MODE, code 50 (R171). -/
  | adviceMode (o : Origin) (mode : Nat)
  /-- RESTART, code 51 (R191). -/
  | restart (o : Origin)
  /-- POWER_LOSS (R172); `torn` as for RESET_ASSERT. -/
  | powerLoss (torn : TornRecord)
  deriving DecidableEq, Repr

end Sys2Proof
end

