-- ==== Sys2Proof/Decode.lean ====
section
/-! DEFINITION. Decode.lean: the commands that words spell. The opcode table gives no row bits, so no word spells a
command; commands reach the block as what they are (entry 1). -/

namespace Sys2Proof

/-- The command a word of the opcode table's bits spells: none, since no row gives bits (entry 1). -/
def decodeTableWord (_nbits _w : Nat) : Option Instr := none

end Sys2Proof
end

