-- ==== Sys2Proof/Machine/State.lean ====
section
/-! DEFINITION. Machine/State.lean: every piece of state the manual gives the JB640, as plain data, and the state right
after reset. Quantities are natural numbers or integers in the unit of their field; the operations that write a field
hold it in the range the manual gives. Each record cites the rule that names its fields. -/

namespace Sys2Proof.Machine

/-! ## Times, timers and codes -/

/-- A moment of a sender's clock: its stamp in ms (32 bits) and an offset in sixteenths of a µs, which are fine enough
for every sample spacing of R69. Edge offsets and crossing times are whole µs. -/
structure Time where
  stamp : Nat
  sub   : Nat
  deriving DecidableEq, Repr

/-- A countdown in ticks: `none` is stopped, `some 0` has counted out and waits for its expiry step (entry 7). -/
abbrev Timer := Option Nat

/-- Frame kinds that bear samples (R1, R193). -/
inductive StreamKind where
  | sample
  | edge
  | status
  deriving DecidableEq, Repr

/-- Roles of a stream entry, in the order of R1. -/
inductive Role where
  | vib
  | tach
  | gridV
  | gridI
  | convI
  | opstat
  | plain
  deriving DecidableEq, Repr

/-- Phase carried by a GRID_V, GRID_I or CONV_I stream (R1). -/
inductive Phase where
  | a
  | b
  | c
  deriving DecidableEq, Repr

/-- Edges of a tachometer that are counted (R1). -/
inductive CountedEdges where
  | rising
  | falling
  | both
  deriving DecidableEq, Repr

/-- Polarity of an edge (R193). -/
inductive Polarity where
  | rising
  | falling
  deriving DecidableEq, Repr

/-- Disposition of a stream's frames toward Port D (R1, R17). -/
inductive Disposition where
  | pass
  | take
  | thin
  deriving DecidableEq, Repr

/-- The five sample rates (R193 note 1). -/
inductive RateCode where
  | r1600
  | r3200
  | r6400
  | r12800
  | r25600
  deriving DecidableEq, Repr

/-- States of a Stream Table slot, in the order of R4. -/
inductive StreamState where
  | empty
  | idle
  | live
  | silent
  | faulty
  | held
  deriving DecidableEq, Repr

/-- Cause carried by an ENDED notice (R18). -/
inductive EndCause where
  | silent
  | held
  | faulty
  | replaced
  | dropped
  | restart
  deriving DecidableEq, Repr

/-! ## Streams (chapter 1) -/

/-- An entry of the Stream Table (R1). Fields that do not apply to the entry's role are held as zero. -/
structure StreamEntry where
  source         : Nat
  channel        : Nat
  kind           : StreamKind
  role           : Role
  phase          : Phase
  bandSet        : Nat
  scale          : Nat
  pulses         : Nat
  edges          : CountedEdges
  markerPresent  : Bool
  markerPolarity : Polarity
  spacing        : Nat
  disposition    : Disposition
  thinN          : Nat
  silence        : Nat
  deriving DecidableEq, Repr

/-- A slot of the active Stream Table: its entry, if any, and its runtime (R4). -/
structure Slot where
  state       : StreamState
  entry       : Option StreamEntry
  inst        : Nat
  expected    : Option Nat
  gaps        : Nat
  stale       : Nat
  malformed   : Nat
  taken       : Nat
  thin        : Nat
  silence     : Timer
  silentTicks : Nat
  deriving DecidableEq, Repr

/-- The Stream Classifier's state: the active Stream Table with its generation (R4), and the two counts of R7. -/
structure Streams where
  slots      : Tab Slot 192
  unknown    : Nat
  mismatched : Nat
  gen        : Nat
  deriving DecidableEq, Repr

/-! ## Turbine Table (chapter 2) -/

/-- Operating states of a turbine (R20). -/
inductive OperState where
  | unknown
  | parked
  | idling
  | generating
  | faulted
  deriving DecidableEq, Repr

/-- What the Turbine Table keeps of one turbine (R20); `limitHours` is the service limit that SERVICE_OVERRUN carries
(R31, entry 34). -/
structure TurbineRec where
  present     : Bool
  cls         : Nat
  rated       : Nat
  oper        : OperState
  lastPower   : Option Int
  lastWind    : Option Nat
  lastTemp    : Option Int
  implausible : Nat
  service     : Bool
  limitTimer  : Timer
  limitHours  : Nat
  overrun     : Bool
  blanking    : Timer
  deriving DecidableEq, Repr

/-! ## Speed Tracker (chapter 3) -/

/-- Speed states (R37). -/
inductive SpeedState where
  | noSignal
  | acquiring
  | tracking
  | unreliable
  | stopped
  deriving DecidableEq, Repr

/-- The speed record of one turbine (R37). -/
structure SpeedRec where
  state           : SpeedState
  speed           : Option Nat
  period          : Option Nat
  reference       : Option Time
  edges           : Nat
  lastCounted     : Option Time
  lastMarker      : Option Time
  consecSlips     : Nat
  goodRun         : Nat
  stopTimer       : Timer
  spacingRejects  : Nat
  disorderRejects : Nat
  slips           : Nat
  lost            : Nat
  deriving DecidableEq, Repr

/-! ## Windows, the Analysis Queue and the engine (chapter 4) -/

/-- One sample with its time (R69). -/
structure Sample where
  time  : Time
  value : Int
  deriving DecidableEq, Repr

/-- A window record of job VIB (R52). -/
structure VibRecord where
  turbine   : Tid
  slot      : SlotId
  inst      : Nat
  gen       : Nat
  opening   : Time
  closing   : Time
  meanSpeed : Nat
  rate      : RateCode
  samples   : List Sample
  test      : Bool
  deriving DecidableEq, Repr

/-- A secondary stream of a record of job HARM (R52). -/
structure SecStream where
  slot    : SlotId
  inst    : Nat
  role    : Role
  phase   : Phase
  turbine : Option Tid
  rate    : RateCode
  samples : List Sample
  deriving DecidableEq, Repr

/-- A window record of job HARM; its turbine is 0 (R52). -/
structure HarmRecord where
  slot        : SlotId
  inst        : Nat
  secondaries : List SecStream
  gen         : Nat
  opening     : Time
  closing     : Time
  meanFund    : Nat
  rate        : RateCode
  samples     : List Sample
  deriving DecidableEq, Repr

/-- The record in analysis, of either job. -/
inductive JobRecord where
  | vib (r : VibRecord)
  | harm (r : HarmRecord)
  deriving DecidableEq, Repr

/-- The counts the engine keeps for one class (R63). -/
structure ClassCounts where
  queued          : Nat
  overrun         : Nat
  staleAtStart    : Nat
  analysed        : Nat
  staleAtDelivery : Nat
  deriving DecidableEq, Repr

/-- The Analysis Queue and the Spectral Engine (R54, R56, R57, R63). `analysing` is `none` while the engine is IDLE. -/
structure Engine where
  vibQueue   : List VibRecord
  harmQueue  : List HarmRecord
  analysing  : Option JobRecord
  harmRun    : Nat
  vibCounts  : ClassCounts
  harmCounts : ClassCounts
  omitted    : Nat
  deriving DecidableEq, Repr

/-! ## Vibration Watch (chapter 5) -/

/-- Whether a band's edges are in shaft orders or in hertz (R65). -/
inductive BandKind where
  | order
  | fixed
  deriving DecidableEq, Repr

/-- Report mode of a band set (R65). -/
inductive ReportMode where
  | change
  | level
  deriving DecidableEq, Repr

/-- One band of a band set (R65). -/
structure Band where
  kind         : BandKind
  lower        : Nat
  upper        : Nat
  alert        : Nat
  alarm        : Nat
  iceSensitive : Bool
  deriving DecidableEq, Repr

/-- One set of the Band Set Table; it is loaded where `bands` is not empty (R65). -/
structure BandSet where
  bands       : List Band
  revolutions : Nat
  persistence : Nat
  report      : ReportMode
  postscale   : Nat
  skip        : Nat
  deriving DecidableEq, Repr

/-- Vibration grades (R67, R81). -/
inductive Grade where
  | unknown
  | good
  | alert
  | alarm
  deriving DecidableEq, Repr

/-- Causes of a window's abandonment, in the order of R67. -/
inductive AbandonCause where
  | gap
  | streamEnded
  | commit
  | slip
  | speedStep
  | trackingLost
  | blanking
  | notGenerating
  | service
  | serviceEnded
  | rateChange
  | tooLong
  deriving DecidableEq, Repr

/-- The four outcomes of a test (R85). -/
inductive TestOutcome where
  | completed
  | abandoned
  | cancelled
  | discarded
  deriving DecidableEq, Repr

/-- A frame's samples held in the recent store (R68). -/
structure StoredFrame where
  stamp   : Nat
  rate    : RateCode
  samples : List Int
  deriving DecidableEq, Repr

/-- A vibration window that is open, or closing where `closing` holds its closing boundary (R67, R70, R72). -/
structure VibWindow where
  test    : Bool
  opening : Time
  closing : Option Time
  revs    : Nat
  target  : Nat
  rate    : Option RateCode
  samples : List Sample
  deriving DecidableEq, Repr

/-- What the Watch keeps of one band of a stream's set (R67). -/
structure BandState where
  grade  : Grade
  exceed : Nat
  alarm  : Nat
  fall   : Nat
  latest : Option Nat
  beyond : Bool
  deriving DecidableEq, Repr

/-- The Vibration Watch's record of one VIB slot (R67); `window` is `none` in window state NONE. -/
structure VibRec where
  window      : Option VibWindow
  testPending : Bool
  lastTest    : Option (TestOutcome × Option AbandonCause)
  recent      : List StoredFrame
  bands       : List BandState
  grade       : Grade
  meanSpeed   : Option Nat
  skip        : Nat
  post        : Nat
  queued      : Nat
  graded      : Nat
  discarded   : Nat
  abandoned   : Tab Nat 12
  deriving DecidableEq, Repr

/-- The Vibration Watch: its stream records, each turbine's vibration grade, and each turbine's linked grade for each
band set (R67, R81). -/
structure VibWatch where
  recs   : Tab (Option VibRec) 192
  grades : Tab Grade 24
  linked : Tab (Tab Grade 32) 24
  deriving DecidableEq, Repr

/-! ## Harmonic Watch (chapter 6) -/

/-- One pair of limits in 0.01 % (R95). -/
structure LimitPair where
  voltage : Nat
  current : Nat
  deriving DecidableEq, Repr

/-- The Harmonic Limit Table: the THD pair and one pair for each order 2 to 40 (R95). -/
structure Limits where
  thd    : LimitPair
  orders : Tab LimitPair 39
  deriving DecidableEq, Repr

/-- An open harmonic window (R91). -/
structure HarmWindow where
  opening : Time
  target  : Nat
  nominal : Nat
  cycles  : Nat
  rate    : RateCode
  samples : List Sample
  deriving DecidableEq, Repr

/-- The window former's three states (R88). -/
inductive Former where
  | suspended
  | waiting
  | opened (w : HarmWindow)
  deriving DecidableEq, Repr

/-- The zero-crossing detector of the reference (R90). -/
structure Detector where
  armed : Bool
  prev  : Option Sample
  rate  : Option RateCode
  h     : Nat
  deriving DecidableEq, Repr

/-- The collecting store of a LIVE secondary stream (R89). -/
structure Collect where
  rate    : Option RateCode
  samples : List Sample
  deriving DecidableEq, Repr

/-- Grid states (R100). -/
inductive GridState where
  | normal
  | exceeding
  | condition
  deriving DecidableEq, Repr

/-- Verdict of an analysed window (R97, R98). -/
inductive Verdict where
  | exceeding
  | clean
  deriving DecidableEq, Repr

/-- Causes of a harmonic window's abandonment, in the order of R93. -/
inductive GridAbandon where
  | gap
  | streamEnded
  | rateChange
  | gridFreq
  deriving DecidableEq, Repr

/-- One place of the Contributor List (R99). -/
structure Place where
  turbine : Tid
  current : Nat
  deriving DecidableEq, Repr

/-- The grid record (R98, R100). `fundamentals` are GRID_V A, B, C and GRID_I A, B, C. -/
structure GridRec where
  state        : GridState
  exceedRun    : Nat
  cleanRun     : Nat
  onset        : Option Nat
  escalation   : Nat
  armed        : Bool
  requests     : List Tid
  verdict      : Option Verdict
  worst        : Option Nat
  worstRatio   : Option Nat
  thdV         : Option Nat
  thdI         : Option Nat
  meanFund     : Option Nat
  fundamentals : Tab (Option Nat) 6
  deriving DecidableEq, Repr

/-- The Harmonic Watch: window former, detector, collecting stores, grid record, Contributor List, summary count and
the counts of R109. -/
structure HarmWatch where
  former       : Former
  detector     : Detector
  collect      : Tab (Option Collect) 192
  grid         : GridRec
  contributors : List Place
  summary      : Nat
  queued       : Nat
  analysed     : Nat
  exceedings   : Nat
  omissions    : Nat
  discarded    : Nat
  abandoned    : Tab Nat 4
  deriving DecidableEq, Repr

/-! ## Icing Watch (chapter 7) -/

/-- Ice states (R113). -/
inductive IceState where
  | clear
  | suspect
  | iced
  | thawing
  deriving DecidableEq, Repr

/-- Causes of a block's discard, in the order of R118. -/
inductive BlockCause where
  | notGenerating
  | advice
  | service
  | curve
  | cls
  | streamEnded
  | declared
  deriving DecidableEq, Repr

/-- The ice record of one turbine (R113); `thawDue` marks a thaw dwell reached whose step is waiting (entry 7). -/
structure IceRec where
  state       : IceState
  evidence    : Nat
  blockCount  : Nat
  blockSum    : Nat
  lastMean    : Option Nat
  reportsLive : Bool
  warm        : Bool
  lastAmbient : Option Int
  thawTimer   : Nat
  thawDue     : Bool
  trial       : Nat
  qualifying  : Nat
  skipped     : Nat
  ended       : Nat
  discarded   : Tab Nat 7
  deriving DecidableEq, Repr

/-! ## Farm Clock and Usage Counters (chapter 8) -/

/-- Clock states (R128). -/
inductive ClockState where
  | unset
  | running
  | held
  deriving DecidableEq, Repr

/-- The Farm Clock (R128). `rolloverDue` and `checkpointDue` mark a midnight and a checkpoint moment whose steps are
waiting, and `midnightCheckpoint` whether that midnight is a checkpoint moment too, by the hour active at its tick (R133;
entries 7 and 8). -/
structure Clock where
  state         : ClockState
  day           : Nat
  hour          : Nat
  minute        : Nat
  second        : Nat
  tenth         : Nat
  heldTicks     : Nat
  sinceStart    : Nat
  rolloverDue   : Bool
  checkpointDue : Bool
  midnightCheckpoint : Bool
  deriving DecidableEq, Repr

/-- The five main counters of a turbine (R135). -/
structure MainCounters where
  run       : Nat
  krev      : Nat
  starts    : Nat
  ice       : Nat
  curtailed : Nat
  deriving DecidableEq, Repr

/-- A time counter's sub-counter, gate, and the carries whose steps are waiting (R135, R136; entry 9). -/
structure TimeSub where
  ticks : Nat
  gate  : Bool
  due   : Nat
  deriving DecidableEq, Repr

/-- The usage counters of one turbine (R135). -/
structure Usage where
  main      : MainCounters
  run       : TimeSub
  ice       : TimeSub
  curtailed : TimeSub
  revSub    : Nat
  deriving DecidableEq, Repr

/-! ## Service Calendar and Store Controller (chapter 9) -/

/-- Bases of a maintenance item (R140). -/
inductive Basis where
  | run
  | krev
  | starts
  | ice
  | curtailed
  | days
  deriving DecidableEq, Repr

/-- Link states (R140). -/
inductive LinkState where
  | armed
  | spent
  | owed
  deriving DecidableEq, Repr

/-- States of an item (R140). -/
inductive ItemState where
  | waiting
  | coming
  | due
  | overdue
  deriving DecidableEq, Repr

/-- A condition link with its state; `alarm` says the link grade is ALARM, otherwise it is ALERT (R140). -/
structure Link where
  bandSet : SetId
  alarm   : Bool
  pullIn  : Nat
  state   : LinkState
  deriving DecidableEq, Repr

/-- A maintenance item (R140). -/
structure Item where
  turbine  : Tid
  label    : Nat
  basis    : Basis
  interval : Nat
  lead     : Nat
  margin   : Nat
  lastDone : Nat
  duePoint : Nat
  signOff  : Option Nat
  link     : Option Link
  state    : ItemState
  deriving DecidableEq, Repr

/-- What one record of the store image is written from (R148). -/
inductive StoreRecord where
  | header
  | block (t : Tid) (c : MainCounters)
  | item (i : ItemId) (it : Option Item)
  deriving DecidableEq, Repr

/-- The image in the external store (R148): its 121 records by position, as the store holds them. -/
structure Image where
  records : Tab RawRecord 121
  deriving DecidableEq, Repr

/-- Store states (R149). WRITING holds the position of the record being written and what was read for it (R151). -/
inductive StoreState where
  | absent
  | idle
  | writing (pos : Nat) (latched : StoreRecord)
  | faulted
  deriving DecidableEq, Repr

/-- The Store Controller (R149). -/
structure StoreCtl where
  state       : StoreState
  pending     : Bool
  faultRaised : Bool
  timer       : Timer
  started     : Nat
  completed   : Nat
  failed      : Nat
  failedPos   : Option Nat
  deriving DecidableEq, Repr

/-! ## Findings and advice (chapter 10) -/

/-- Finding kinds, in the order of R159, which is the order of their codes (R193). -/
inductive FindingKind where
  | streamSilent
  | streamBack
  | streamFaulty
  | streamGap
  | speedUnreliable
  | speedRegained
  | vibGrade
  | vibLevel
  | vibSummary
  | vibTest
  | windowOverrun
  | windowTooLong
  | gridCondition
  | gridEscalated
  | gridReleased
  | gridSummary
  | iceSuspect
  | iceConfirmed
  | iceThawing
  | iceCleared
  | iceReturned
  | itemComing
  | itemDue
  | itemOverdue
  | itemPulledIn
  | serviceOverrun
  | storeFault
  | storeInvalid
  | storePartial
  | storeAbsent
  | storeOk
  | portDown
  | portUp
  | portOverflow
  | adviceChanged
  | findingsLost
  | started
  deriving DecidableEq, Repr

/-- Severities (R158). -/
inductive Severity where
  | info
  | notice
  | alert
  | alarm
  deriving DecidableEq, Repr

/-- The two classes of the Analysis Queue (R54). -/
inductive JobClass where
  | vib
  | harm
  deriving DecidableEq, Repr

/-- Secondary subject of a finding (R158). -/
inductive Subject where
  | none
  | slot (s : SlotId)
  | slotBand (s : SlotId) (band : Nat)
  | order (h : Nat)
  | item (i : ItemId)
  | cls (c : JobClass)
  | port (p : Port)
  deriving DecidableEq, Repr

/-- A finding record (R158); its severity is that of its kind (R159). `turbine` is 0 to 24, or none. -/
structure Finding where
  seq       : Nat
  kind      : FindingKind
  turbine   : Option Nat
  subject   : Subject
  day       : Nat
  tenths    : Nat
  inService : Bool
  unset     : Bool
  values    : List Word32
  deriving DecidableEq, Repr

/-- The Finding Unit (R158, R160 to R166). `masks` is indexed by kind code less 1 and holds YES for ON; `attn` is the
ATTN line. -/
structure FindingUnit where
  queue    : List Finding
  nextSeq  : Nat
  lost     : Nat
  masks    : Tab Bool 37
  frameSeq : Nat
  attn     : Bool
  deriving DecidableEq, Repr

/-- Effective advice (R167). -/
inductive Advice where
  | none
  | curtail
  | hold
  deriving DecidableEq, Repr

/-- The Advice Unit's record of one turbine (R167). -/
structure AdviceRec where
  advice  : Advice
  limit   : Nat
  refresh : Timer
  owed    : Bool
  deriving DecidableEq, Repr

/-- The Advice Unit (R167, R171); `active` is NO in advice mode SILENT. -/
structure AdviceUnit where
  active   : Bool
  recs     : Tab AdviceRec 24
  frameSeq : Nat
  deriving DecidableEq, Repr

/-! ## Link ports (chapter 11) -/

/-- A frame as it stands on the trunk (R193). -/
structure Frame where
  bytes : List Byte
  deriving DecidableEq, Repr

/-- What a frame of a local queue is; the reply to a RESTART is told apart because the restart waits on it (R191). -/
inductive LocalKind where
  | reply
  | restartReply
  | finding
  | advice (t : Tid)
  deriving DecidableEq, Repr

/-- A frame of a local queue (R178). -/
structure LocalFrame where
  what  : LocalKind
  frame : Frame
  deriving DecidableEq, Repr

/-- One link port (R174, R178, R179, R180). `signal` is the line signal at the receiver, an input. `sending` is the
frame in transmission, `none` while the transmitter is idle. -/
structure PortRec where
  signal         : Bool
  up             : Bool
  badCheck       : Nat
  overflow       : Nat
  repliesDropped : Nat
  transit        : List Frame
  localQ         : List LocalFrame
  run            : Nat
  sending        : Option Frame
  deriving DecidableEq, Repr

/-! ## Command Unit and Staging Area (chapter 12) -/

/-- What to do with frames of unknown streams (R7). -/
inductive Policy where
  | forward
  | discard
  deriving DecidableEq, Repr

/-- Response mode of the Harmonic Watch (R96). -/
inductive ResponseMode where
  | latched
  | following
  deriving DecidableEq, Repr

/-- The 25 Part Settings, in the order of R183. -/
structure Settings where
  policy        : Policy
  blankingTime  : Nat
  stopTime      : Nat
  tolerance     : Nat
  nominal       : Nat
  cycles        : Nat
  gridPersist   : Nat
  release       : Nat
  escalation    : Nat
  cmax          : Nat
  reduction     : Nat
  response      : ResponseMode
  gridPostscale : Nat
  tempGate      : Int
  blockSize     : Nat
  onDeficit     : Nat
  offDeficit    : Nat
  confirm       : Nat
  thawTemp      : Int
  thawDwell     : Nat
  holdOnIce     : Bool
  trialBlocks   : Nat
  refresh       : Nat
  ckptInterval  : Nat
  ckptHour      : Nat
  deriving DecidableEq, Repr

/-- A Power Curve Table: four curves of 25 bins, bin 0 being the wind of 3 m/s (R110). -/
abbrev Curves := Tab (Tab Nat 25) 4

/-- The analysis tables and settings in force, with the generations of R53 and R111. -/
structure Active where
  bands     : Tab BandSet 32
  bandGen   : Nat
  limits    : Limits
  limitGen  : Nat
  curves    : Curves
  curveGen  : Nat
  settings  : Settings
  deriving DecidableEq, Repr

/-- The Staging Area (R183). -/
structure Staged where
  streams  : Tab (Option StreamEntry) 192
  bands    : Tab BandSet 32
  limits   : Limits
  curves   : Curves
  settings : Settings
  deriving DecidableEq, Repr

/-- The pending-commit record of a COMMIT AT_BOUNDARY that waits (R188); its mode and code are always AT_BOUNDARY and 23. -/
structure PendingCommit where
  origin  : Origin
  ticks   : Nat
  groups  : List (List SlotId)
  changed : Nat
  deriving DecidableEq, Repr

/-- The Command Unit's state (R181): READY, or WORKING on a commit (R188), on a SAVE COUNTERS, with whether the write it
waits on has started (R154), or on a RESTART, with whether its reply has gone (R191). -/
inductive UnitState where
  | ready
  | commit (p : PendingCommit)
  | save (o : Origin) (started : Bool)
  | restart (gone : Bool)
  deriving DecidableEq, Repr

/-! ## The whole part -/

/-- The part's standing (R172): without supply, held in reset, restoring its counters (path BYPASS in these three), or
with its path ACTIVE. -/
inductive Standing where
  | unpowered
  | held
  | restoring
  | active
  deriving DecidableEq, Repr

/-- The state of the JB640, and the queue of commands waiting to be taken (entry 1). -/
structure State where
  standing : Standing
  node     : Nat
  umgt     : Bool
  portU    : PortRec
  portD    : PortRec
  replySeq : Nat
  streams  : Streams
  turbines : Tab TurbineRec 24
  speeds   : Tab SpeedRec 24
  engine   : Engine
  active   : Active
  staged   : Staged
  vib      : VibWatch
  harm     : HarmWatch
  ice      : Tab IceRec 24
  clock    : Clock
  usage    : Tab Usage 24
  items    : Tab (Option Item) 96
  store    : StoreCtl
  image    : Image
  findings : FindingUnit
  advice   : AdviceUnit
  cmd      : UnitState
  pending  : List Instr
  deriving DecidableEq, Repr

/-- The reasons a step could fault. There are none: the manual gives every command of the block an effect, so no meaning
raises a fault. -/
inductive Fault where
  deriving DecidableEq, Repr

/-- The reasons a step could be refused by the model. -/
inductive Refusal where
  /-- Raised by `exec` for a command whose meaning has not been written; safe. No arm of `exec` raises it now. -/
  | notModelled (mnemonic : String)
  deriving DecidableEq, Repr

/-! ## Power-on values -/

/-- A slot at power-on (R4). -/
def Slot.reset : Slot :=
  { state := .empty, entry := none, inst := 0, expected := none, gaps := 0, stale := 0, malformed := 0, taken := 0,
    thin := 0, silence := none, silentTicks := 0 }

/-- A turbine record at power-on (R21). -/
def TurbineRec.reset : TurbineRec :=
  { present := false, cls := 0, rated := 0, oper := .unknown, lastPower := none, lastWind := none, lastTemp := none,
    implausible := 0, service := false, limitTimer := none, limitHours := 0, overrun := false, blanking := none }

/-- A speed record at power-on (R37). -/
def SpeedRec.reset : SpeedRec :=
  { state := .noSignal, speed := none, period := none, reference := none, edges := 0, lastCounted := none,
    lastMarker := none, consecSlips := 0, goodRun := 0, stopTimer := none, spacingRejects := 0, disorderRejects := 0,
    slips := 0, lost := 0 }

/-- Counts of a class at power-on (R63). -/
def ClassCounts.reset : ClassCounts :=
  { queued := 0, overrun := 0, staleAtStart := 0, analysed := 0, staleAtDelivery := 0 }

/-- The queue and the engine at power-on (R54, R56, R57, R63, R64). -/
def Engine.reset : Engine :=
  { vibQueue := [], harmQueue := [], analysing := none, harmRun := 0, vibCounts := .reset, harmCounts := .reset,
    omitted := 0 }

/-- A band set that is not loaded, with every setting 0 (R66). -/
def BandSet.reset : BandSet :=
  { bands := [], revolutions := 0, persistence := 0, report := .change, postscale := 0, skip := 0 }

/-- Limits at power-on (R95). -/
def Limits.reset : Limits :=
  { thd := ⟨0, 0⟩, orders := Vector.replicate 39 ⟨0, 0⟩ }

/-- Curves at power-on (R110). -/
def Curves.reset : Curves := Vector.replicate 4 (Vector.replicate 25 0)

/-- The defaults of the Part Settings (R7, R34, R47, R50, R96, R112, R133, R150, R167). -/
def Settings.reset : Settings :=
  { policy := .forward, blankingTime := 100, stopTime := 50, tolerance := 3,
    nominal := 50, cycles := 10, gridPersist := 3, release := 25, escalation := 50, cmax := 2, reduction := 30,
    response := .following, gridPostscale := 0,
    tempGate := 10, blockSize := 120, onDeficit := 25, offDeficit := 10, confirm := 4, thawTemp := 30, thawDwell := 120,
    holdOnIce := false, trialBlocks := 2,
    refresh := 5, ckptInterval := 6, ckptHour := 3 }

/-- The active tables at power-on (R53, R66, R95, R110, R111, R183). -/
def Active.reset : Active :=
  { bands := Vector.replicate 32 .reset, bandGen := 0, limits := .reset, limitGen := 0, curves := .reset, curveGen := 0,
    settings := .reset }

/-- The Staging Area at power-on (R183). -/
def Staged.reset : Staged :=
  { streams := Vector.replicate 192 none, bands := Vector.replicate 32 .reset, limits := .reset, curves := .reset,
    settings := .reset }

/-- The Vibration Watch at power-on (R67, R81). -/
def VibWatch.reset : VibWatch :=
  { recs := Vector.replicate 192 none, grades := Vector.replicate 24 .unknown,
    linked := Vector.replicate 24 (Vector.replicate 32 .unknown) }

/-- The grid record at power-on (R98, R100). -/
def GridRec.reset : GridRec :=
  { state := .normal, exceedRun := 0, cleanRun := 0, onset := none, escalation := 0, armed := false, requests := [],
    verdict := none, worst := none, worstRatio := none, thdV := none, thdI := none, meanFund := none,
    fundamentals := Vector.replicate 6 none }

/-- The Harmonic Watch at power-on (R88, R90, R99, R100, R108, R109). -/
def HarmWatch.reset : HarmWatch :=
  { former := .suspended, detector := { armed := false, prev := none, rate := none, h := 0 },
    collect := Vector.replicate 192 none, grid := .reset, contributors := [], summary := 0, queued := 0, analysed := 0,
    exceedings := 0, omissions := 0, discarded := 0, abandoned := Vector.replicate 4 0 }

/-- An ice record at power-on (R113). -/
def IceRec.reset : IceRec :=
  { state := .clear, evidence := 0, blockCount := 0, blockSum := 0, lastMean := none, reportsLive := false, warm := false,
    lastAmbient := none, thawTimer := 0, thawDue := false, trial := 0, qualifying := 0, skipped := 0, ended := 0,
    discarded := Vector.replicate 7 0 }

/-- The Farm Clock at power-on (R128). -/
def Clock.reset : Clock :=
  { state := .unset, day := 0, hour := 0, minute := 0, second := 0, tenth := 0, heldTicks := 0, sinceStart := 0,
    rolloverDue := false, checkpointDue := false, midnightCheckpoint := false }

/-- Main counters of 0 (R135, R155). -/
def MainCounters.zero : MainCounters := { run := 0, krev := 0, starts := 0, ice := 0, curtailed := 0 }

/-- A sub-counter at power-on: 0, its gate closed (R135). -/
def TimeSub.reset : TimeSub := { ticks := 0, gate := false, due := 0 }

/-- The usage counters of a turbine at power-on, before the restore (R135). -/
def Usage.reset : Usage :=
  { main := .zero, run := .reset, ice := .reset, curtailed := .reset, revSub := 0 }

/-- The Store Controller at power-on (R149); its state IDLE stands until the restore sets it (entry 4). -/
def StoreCtl.reset : StoreCtl :=
  { state := .idle, pending := false, faultRaised := false, timer := none, started := 0, completed := 0, failed := 0,
    failedPos := none }

/-- A store whose records hold nothing and a check of 0, which is not the check of nothing (entry 6). -/
def Image.blank : Image := { records := Vector.replicate 121 { contents := [], check := 0 } }

/-- The Finding Unit at power-on (R165, R166). -/
def FindingUnit.reset : FindingUnit :=
  { queue := [], nextSeq := 0, lost := 0, masks := Vector.replicate 37 true, frameSeq := 0, attn := false }

/-- The Advice Unit at power-on (R171). -/
def AdviceUnit.reset : AdviceUnit :=
  { active := false, recs := Vector.replicate 24 { advice := .none, limit := 100, refresh := none, owed := false },
    frameSeq := 0 }

/-- A port at power-on, with the line signal its receiver sees (R173, R180). -/
def PortRec.reset (signal : Bool) : PortRec :=
  { signal := signal, up := false, badCheck := 0, overflow := 0, repliesDropped := 0, transit := [], localQ := [],
    run := 0, sending := none }

/-- Everything at its power-on value (R173 step 1), with what lies outside the part: the straps read, the line signals,
the image in the external store and the queue of commands. -/
def State.powerOn (standing : Standing) (node : Nat) (umgt : Bool) (signalU signalD : Bool) (image : Image)
    (pending : List Instr) : State :=
  { standing := standing, node := node, umgt := umgt, portU := .reset signalU, portD := .reset signalD, replySeq := 0,
    streams := { slots := Vector.replicate 192 .reset, unknown := 0, mismatched := 0, gen := 0 },
    turbines := Vector.replicate 24 .reset, speeds := Vector.replicate 24 .reset, engine := .reset, active := .reset,
    staged := .reset, vib := .reset, harm := .reset, ice := Vector.replicate 24 .reset, clock := .reset,
    usage := Vector.replicate 24 .reset, items := Vector.replicate 96 none, store := .reset, image := image,
    findings := .reset, advice := .reset, cmd := .ready, pending := pending }

/-- The machine right after reset: RESET has been released and the start-up restore has begun. The straps are 0 and
the UMGT strap is NO, no line signal is present and the store is blank (entries 4, 5 and 6). -/
def State.reset : State := State.powerOn .restoring 1 false false false .blank []

end Sys2Proof.Machine
end

