-- ==== Sys2Proof/Machine/Tables.lean ====
section
/-! DEFINITION. Machine/Tables.lean: reading and writing tables of fixed size, and the numbers of their places. -/

namespace Sys2Proof.Machine

/-- The table with place `i` holding `a`. -/
def put {α : Type} {n : Nat} (t : Tab α n) (i : Fin n) (a : α) : Tab α n := t.set i.val a i.isLt

/-- The table with `f` applied to place `i`. -/
def upd {α : Type} {n : Nat} (t : Tab α n) (i : Fin n) (f : α → α) : Tab α n := put t i (f (t.get i))

/-- The table with `f` applied to every place. -/
def mapTab {α β : Type} {n : Nat} (f : α → β) (t : Tab α n) : Tab β n :=
  ⟨⟨t.toList.map f⟩, by simp⟩

/-- The table whose place `i` holds `f i`. -/
def tabOf {α : Type} {n : Nat} (f : Fin n → α) : Tab α n :=
  ⟨⟨(List.finRange n).map f⟩, by simp⟩

/-- Every turbine, in turbine number order. -/
def allTurbines : List Tid := List.finRange 24

/-- Every Stream Table slot, in ascending order. -/
def allSlots : List SlotId := List.finRange 192

/-- Every maintenance item slot, in ascending order. -/
def allItems : List ItemId := List.finRange 96

/-- Every band set, in ascending order. -/
def allSets : List SetId := List.finRange 32

/-- The turbine number, 1 to 24, of a turbine's place (R20). -/
def tnum (t : Tid) : Nat := t.val + 1

/-- The place a number gives in a table of `n` places numbered from 0. -/
def placeOf (n k : Nat) : Option (Fin n) := if h : k < n then some ⟨k, h⟩ else none

/-- The turbine 1 to 24 that a number names (R20). -/
def turbineOf (k : Nat) : Option Tid := if k = 0 then none else placeOf 24 (k - 1)

end Sys2Proof.Machine
end

