-- ==== Sys2Proof/Machine/Ops.lean ====
section
/-! DEFINITION. Machine/Ops.lean: the operations every block shares: counts that stop, times, square roots, bytes and
the frame check, frames, the Finding Unit's taking and sending of findings, the transmit queues, replies and ADVICE
frames. -/

namespace Sys2Proof.Machine

/-! ## Counts and numbers -/

/-- The top of a 32-bit count, where it stops (R4, R63 and the other count rules). -/
def countTop : Nat := 4294967295

/-- A count raised by `k`, stopping at its top. -/
def bumpBy (n k : Nat) : Nat := min (n + k) countTop

/-- A count raised by 1, stopping at its top. -/
def bump (n : Nat) : Nat := bumpBy n 1

/-- Whole square root, with fuel for the number of binary digits. -/
def isqrtFuel : Nat → Nat → Nat
  | 0, _ => 0
  | k + 1, n =>
    let r := 2 * isqrtFuel k (n / 4)
    if (r + 1) * (r + 1) ≤ n then r + 1 else r

/-- Whole square root, rounded down. -/
def isqrt (n : Nat) : Nat := isqrtFuel (n.log2 + 1) n

/-- The whole number nearest to the square root of `num / den`, an exact half being rounded up (entry 13). -/
def nearestSqrt (num den : Nat) : Nat := (isqrt (4 * num / den) + 1) / 2

/-- A timer loaded with `n` ticks, 0 leaving it stopped. -/
def loadTimer (n : Nat) : Timer := if n = 0 then none else some n

/-- A timer after one tick; one that has counted out waits for its expiry (entry 7). -/
def tickTimer : Timer → Timer
  | some (n + 1) => some n
  | t => t

/-- The ticks a timer shows: 0 where it is stopped. -/
def timerTicks (t : Timer) : Nat := t.getD 0

/-! ## Times (R39, R69) -/

/-- The difference of two stamps, taken modulo 2^32 and read as a signed number of ms (R39). -/
def stampDiff (a b : Nat) : Int :=
  let d := (a + 4294967296 - b % 4294967296) % 4294967296
  if d < 2147483648 then (d : Int) else (d : Int) - 4294967296

/-- The signed difference `a - b` of two times in sixteenths of a µs (R39). -/
def timeDiff (a b : Time) : Int := stampDiff a.stamp b.stamp * 16000 + ((a.sub : Int) - (b.sub : Int))

/-- The signed difference `a - b` of two times in whole µs, rounded down (R39). -/
def usDiff (a b : Time) : Int := timeDiff a b / 16

/-- Whether `a` is at or after `b` (R39). -/
def atOrAfter (a b : Time) : Bool := decide (0 ≤ timeDiff a b)

/-- The time of a stamp itself. -/
def stampTime (stamp : Nat) : Time := { stamp := stamp, sub := 0 }

/-- A time as a stamp in ms, rounded down; the rounding is the model's choice (R55, R100; entry 47). -/
def msOf (t : Time) : Nat := (t.stamp + t.sub / 16000) % 4294967296

/-- Samples per second of a rate code (R193 note 1). -/
def rateHz : RateCode → Nat
  | .r1600 => 1600
  | .r3200 => 3200
  | .r6400 => 6400
  | .r12800 => 12800
  | .r25600 => 25600

/-- Sample spacing of a rate code in sixteenths of a µs (R69). -/
def rateSpacing : RateCode → Nat
  | .r1600 => 10000
  | .r3200 => 5000
  | .r6400 => 2500
  | .r12800 => 1250
  | .r25600 => 625

/-- The samples of a frame with their times, from sample number `i` on (R69). -/
def timedFrom (stamp : Nat) (rate : RateCode) : Nat → List Int → List Sample
  | _, [] => []
  | i, x :: xs => { time := { stamp := stamp, sub := i * rateSpacing rate }, value := x } :: timedFrom stamp rate (i + 1) xs

/-- The samples of a frame with their times (R69). -/
def timed (stamp : Nat) (rate : RateCode) (xs : List Int) : List Sample := timedFrom stamp rate 0 xs

/-! ## Bytes and the frame check (R193) -/

/-- The byte of a number's low 8 bits. -/
def byteOf (n : Nat) : Byte := BitVec.ofNat 8 n

/-- A field of `k` bytes, most significant first. -/
def beBytes : Nat → Nat → List Byte
  | 0, _ => []
  | k + 1, n => byteOf (n / 256 ^ k) :: beBytes k n

/-- One-byte field. -/
def u8 (n : Nat) : List Byte := beBytes 1 n

/-- Two-byte field. -/
def u16 (n : Nat) : List Byte := beBytes 2 n

/-- Four-byte field. -/
def u32 (n : Nat) : List Byte := beBytes 4 n

/-- Eight-byte field. -/
def u64 (n : Nat) : List Byte := beBytes 8 n

/-- The number that bytes give, most significant first. -/
def ofBe (bs : List Byte) : Nat := bs.foldl (fun n b => n * 256 + b.toNat) 0

/-- A 16-bit number read as two's complement. -/
def signed16 (n : Nat) : Int := if n < 32768 then (n : Int) else (n : Int) - 65536

/-- A signed 16-bit number as two's complement. -/
def ofSigned16 (i : Int) : Nat := (i % 65536).toNat

/-- A signed 32-bit number as two's complement. -/
def ofSigned32 (i : Int) : Nat := (i % 4294967296).toNat

/-- One bit into the check register: generator x^16 + x^12 + x^5 + 1 (R193). -/
def crcBit (r : BitVec 16) (b : Bool) : BitVec 16 :=
  if xor r.msb b then (r <<< 1) ^^^ 0x1021#16 else r <<< 1

/-- One byte into the check register, most significant bit first (R193). -/
def crcByte (r : BitVec 16) (b : Byte) : BitVec 16 :=
  [7, 6, 5, 4, 3, 2, 1, 0].foldl (fun r i => crcBit r (b.getLsbD i)) r

/-- The check of a list of bytes: the register starts at all ones and is not inverted (R193). -/
def crc16 (bs : List Byte) : BitVec 16 := bs.foldl crcByte 0xFFFF#16

/-- The fields of a frame header (R193). -/
structure Header where
  kind    : Nat
  flags   : Nat
  source  : Nat
  channel : Nat
  seq     : Nat
  len     : Nat
  stamp   : Nat
  deriving DecidableEq, Repr

/-- Byte `i` of a frame, 0 past its end. -/
def byteAt (bs : List Byte) (i : Nat) : Nat := (bs.getD i 0).toNat

/-- A field of `k` bytes at an offset. -/
def fieldAt (p : List Byte) (i k : Nat) : Nat := ofBe ((p.drop i).take k)

/-- The header of a frame (R193). -/
def headerOf (bs : List Byte) : Header :=
  { kind := byteAt bs 0, flags := byteAt bs 1, source := byteAt bs 2, channel := byteAt bs 3, seq := byteAt bs 4,
    len := ofBe ((bs.drop 5).take 2), stamp := ofBe ((bs.drop 7).take 4) }

/-- The payload of a frame of good length (R193). -/
def payloadOf (bs : List Byte) : List Byte := (bs.drop 12).take (headerOf bs).len

/-- Whether a received frame passes its check: header whole, payload length at most 512, length 12 + payload + 2, and
check equal (R175). -/
def frameGood (bs : List Byte) : Bool :=
  decide (14 ≤ bs.length) && decide ((headerOf bs).len ≤ 512) && decide (bs.length = 14 + (headerOf bs).len) &&
  decide ((crc16 (bs.take (12 + (headerOf bs).len))).toNat = ofBe (bs.drop (12 + (headerOf bs).len)))

/-- A frame from its header fields and payload: channel 0 to 7, spare 0, check at the end (R193). -/
def buildFrame (kind flags source channel seq stamp : Nat) (payload : List Byte) : Frame :=
  let body := u8 kind ++ u8 flags ++ u8 source ++ u8 channel ++ u8 seq ++ u16 payload.length ++ u32 stamp ++ u8 0 ++ payload
  { bytes := body ++ u16 (crc16 body).toNat }

/-! ## Finding kinds (R159, R193) -/

/-- Every finding kind in code order (R159, R193). -/
def findingKinds : List FindingKind :=
  [.streamSilent, .streamBack, .streamFaulty, .streamGap, .speedUnreliable, .speedRegained, .vibGrade, .vibLevel] ++
  [.vibSummary, .vibTest, .windowOverrun, .windowTooLong, .gridCondition, .gridEscalated, .gridReleased] ++
  [.gridSummary, .iceSuspect, .iceConfirmed, .iceThawing, .iceCleared, .iceReturned, .itemComing, .itemDue] ++
  [.itemOverdue, .itemPulledIn, .serviceOverrun, .storeFault, .storeInvalid, .storePartial, .storeAbsent, .storeOk] ++
  [.portDown, .portUp, .portOverflow, .adviceChanged, .findingsLost, .started]

/-- The code of a kind, 1 to 37 (R193). -/
def kindCode : FindingKind → Nat
  | .streamSilent => 1
  | .streamBack => 2
  | .streamFaulty => 3
  | .streamGap => 4
  | .speedUnreliable => 5
  | .speedRegained => 6
  | .vibGrade => 7
  | .vibLevel => 8
  | .vibSummary => 9
  | .vibTest => 10
  | .windowOverrun => 11
  | .windowTooLong => 12
  | .gridCondition => 13
  | .gridEscalated => 14
  | .gridReleased => 15
  | .gridSummary => 16
  | .iceSuspect => 17
  | .iceConfirmed => 18
  | .iceThawing => 19
  | .iceCleared => 20
  | .iceReturned => 21
  | .itemComing => 22
  | .itemDue => 23
  | .itemOverdue => 24
  | .itemPulledIn => 25
  | .serviceOverrun => 26
  | .storeFault => 27
  | .storeInvalid => 28
  | .storePartial => 29
  | .storeAbsent => 30
  | .storeOk => 31
  | .portDown => 32
  | .portUp => 33
  | .portOverflow => 34
  | .adviceChanged => 35
  | .findingsLost => 36
  | .started => 37

/-- The place of a kind in the mask table: its code less 1. -/
def kindIndex (k : FindingKind) : Fin 37 := ⟨kindCode k - 1, by cases k <;> decide⟩

/-- The kind a code names (R193). -/
def kindOfCode (c : Nat) : Option FindingKind := findingKinds.find? (fun k => kindCode k == c)

/-- Severity of a kind (R159). -/
def severity : FindingKind → Severity
  | .streamSilent => .notice
  | .streamBack => .info
  | .streamFaulty => .alert
  | .streamGap => .info
  | .speedUnreliable => .notice
  | .speedRegained => .info
  | .vibGrade => .alert
  | .vibLevel => .notice
  | .vibSummary => .info
  | .vibTest => .info
  | .windowOverrun => .notice
  | .windowTooLong => .notice
  | .gridCondition => .alarm
  | .gridEscalated => .alert
  | .gridReleased => .notice
  | .gridSummary => .info
  | .iceSuspect => .notice
  | .iceConfirmed => .alert
  | .iceThawing => .notice
  | .iceCleared => .notice
  | .iceReturned => .alert
  | .itemComing => .info
  | .itemDue => .notice
  | .itemOverdue => .alert
  | .itemPulledIn => .notice
  | .serviceOverrun => .alert
  | .storeFault => .alert
  | .storeInvalid => .alert
  | .storePartial => .alert
  | .storeAbsent => .alert
  | .storeOk => .notice
  | .portDown => .alert
  | .portUp => .notice
  | .portOverflow => .notice
  | .adviceChanged => .info
  | .findingsLost => .notice
  | .started => .notice

/-- Coalescing mark of a kind (R159). -/
def coalescing : FindingKind → Bool
  | .streamGap => true
  | .vibLevel => true
  | .vibSummary => true
  | .windowOverrun => true
  | .windowTooLong => true
  | .gridSummary => true
  | .portOverflow => true
  | _ => false

/-- Whether a kind's severity is INFO or NOTICE, so that its records can be evicted (R161). -/
def minor (k : FindingKind) : Bool :=
  match severity k with
  | .info => true
  | .notice => true
  | .alert => false
  | .alarm => false

/-- Severity code (R193). -/
def severityCode : Severity → Nat
  | .info => 0
  | .notice => 1
  | .alert => 2
  | .alarm => 3

/-- Port code: U 0, D 1 (R193). -/
def portCode : Port → Nat
  | .u => 0
  | .d => 1

/-- Class code: VIB 0, HARM 1 (R193). -/
def classCode : JobClass → Nat
  | .vib => 0
  | .harm => 1

/-- Type and value of a secondary subject in a FINDING frame (R193). -/
def subjectCode : Subject → Nat × Nat
  | .none => (0, 0)
  | .slot s => (1, s.val)
  | .slotBand s b => (2, s.val * 256 + b)
  | .order h => (3, h)
  | .item i => (4, i.val)
  | .cls c => (5, classCode c)
  | .port p => (6, portCode p)

/-! ## Values of findings (R194) -/

/-- A number as a finding value. -/
def vNat (n : Nat) : Word32 := BitVec.ofNat 32 n

/-- A signed number as a finding value. -/
def vInt (i : Int) : Word32 := BitVec.ofInt 32 i

/-- A number or none as a finding value: none is all ones. -/
def vOpt (n : Option Nat) : Word32 :=
  match n with
  | some k => vNat k
  | none => 0xFFFFFFFF#32

/-- A signed number or none as a finding value: none is the most negative number. -/
def vOptInt (n : Option Int) : Word32 :=
  match n with
  | some k => vInt k
  | none => 0x80000000#32

/-! ## The Finding Unit (R158 to R164) -/

/-- A stamp: day, tenths of day, clock-unset flag (R134). -/
structure Stamp where
  day    : Nat
  tenths : Nat
  unset  : Bool
  deriving DecidableEq, Repr

/-- Tenths of day of the clock's time of day (R128). -/
def tenthsOfDay (c : Clock) : Nat := c.hour * 36000 + c.minute * 600 + c.second * 10 + c.tenth

/-- The stamp the clock gives a finding (R134). -/
def stampOf (c : Clock) : Stamp :=
  match c.state with
  | .unset => { day := c.sinceStart / 864000, tenths := c.sinceStart % 864000, unset := true }
  | .running => { day := c.day, tenths := tenthsOfDay c, unset := false }
  | .held => { day := c.day, tenths := tenthsOfDay c, unset := false }

/-- Whether the mask of a kind is ON (R163). -/
def maskOn (fu : FindingUnit) (k : FindingKind) : Bool := fu.masks.get (kindIndex k)

/-- A record placed at the end with the next sequence number (R158, R160). -/
def placeFinding (fu : FindingUnit) (f : Finding) : FindingUnit :=
  { fu with queue := fu.queue ++ [{ f with seq := fu.nextSeq }], nextSeq := (fu.nextSeq + 1) % 65536 }

/-- The Finding Queue holds up to 64 records (section 10.2). -/
def findingCap : Nat := 64

/-- The look at the lost count when a record has left the queue (R162). -/
def checkLost (st : Stamp) (fu : FindingUnit) : FindingUnit :=
  if 0 < fu.lost ∧ maskOn fu .findingsLost = true ∧ fu.queue.length < findingCap then
    { placeFinding fu { seq := 0, kind := .findingsLost, turbine := none, subject := .none, day := st.day,
                        tenths := st.tenths, inService := false, unset := st.unset, values := [vNat fu.lost] }
      with lost := 0 }
  else fu

/-- Whether a queued record is of the same kind and subject as a new finding (R158, R160). -/
def sameSubject (f g : Finding) : Bool :=
  decide (f.kind = g.kind) && decide (f.turbine = g.turbine) && decide (f.subject = g.subject)

/-- A coalescing update: the first record of the same kind and subject takes the new contents and the number, and keeps
its place (R160). -/
def coalesceInto (f : Finding) (n : Nat) : List Finding → List Finding
  | [] => []
  | g :: gs => if sameSubject g f then { f with seq := n } :: gs else g :: coalesceInto f n gs

/-- The queue without its oldest INFO or NOTICE record, and that record (R161). -/
def evictOldest : List Finding → Option (Finding × List Finding)
  | [] => none
  | g :: gs =>
    if minor g.kind then some (g, gs)
    else match evictOldest gs with
      | some (e, rest) => some (e, g :: rest)
      | none => none

/-- How many findings an evicted record stands for beside itself: a FINDINGS_LOST record gives back the count it would
have carried (R162, entry 16). -/
def lostCarried (e : Finding) : Nat :=
  match e.kind, e.values with
  | .findingsLost, v :: _ => v.toNat
  | _, _ => 0

/-- A finding that meets a full queue (R161, R162). -/
def takeAtFull (st : Stamp) (fu : FindingUnit) (f : Finding) : FindingUnit :=
  if minor f.kind then { fu with lost := bump fu.lost }
  else match evictOldest fu.queue with
    | some (e, rest) =>
      checkLost st (placeFinding { fu with queue := rest, lost := bumpBy fu.lost (lostCarried e + 1) } f)
    | none => { fu with lost := bump fu.lost }

/-- A finding taken by the Finding Unit: masked, coalesced, placed, or judged at a full queue (R160). -/
def takeFinding (st : Stamp) (fu : FindingUnit) (f : Finding) : FindingUnit :=
  if maskOn fu f.kind = false then fu
  else if coalescing f.kind = true ∧ fu.queue.any (fun g => sameSubject g f) = true then
    { fu with queue := coalesceInto f fu.nextSeq fu.queue, nextSeq := (fu.nextSeq + 1) % 65536 }
  else if fu.queue.length < findingCap then placeFinding fu f
  else takeAtFull st fu f

/-- The payload of a FINDING frame (R193). -/
def findingPayload (f : Finding) : List Byte :=
  u16 f.seq ++ u8 (kindCode f.kind) ++ u8 (severityCode (severity f.kind)) ++ u8 (f.turbine.getD 255) ++
  u8 (subjectCode f.subject).1 ++ u16 (subjectCode f.subject).2 ++ u16 f.day ++ u32 f.tenths ++
  u8 ((if f.inService then 1 else 0) + (if f.unset then 2 else 0)) ++ u8 f.values.length ++
  (f.values.map (fun v => u32 v.toNat)).flatten

/-- The FINDING frame of a record (R164): monitor flag, the node number as source, channel 0. -/
def findingFrame (node hstamp seq : Nat) (f : Finding) : LocalFrame :=
  { what := .finding, frame := buildFrame 10 1 node 0 seq hstamp (findingPayload f) }

/-- A local queue holds 16 frames (R178). -/
def localCap : Nat := 16

/-- The look of the Finding Unit at the Port D local queue: while 4 places are free and records remain, the front record
is built into a frame and placed, and the lost count is looked at (R162, R164). A finding of the same moment may by R162 come
before or after that look at the lost count: that it comes after is the model's choice (entry 53). -/
def lookLoop (node hstamp : Nat) (st : Stamp) : Nat → FindingUnit → List LocalFrame → FindingUnit × List LocalFrame
  | 0, fu, q => (fu, q)
  | k + 1, fu, q =>
    match fu.queue with
    | [] => (fu, q)
    | f :: rest =>
      if q.length + 4 ≤ localCap then
        lookLoop node hstamp st k
          (checkLost st { fu with queue := rest, frameSeq := (fu.frameSeq + 1) % 256 })
          (q ++ [findingFrame node hstamp fu.frameSeq f])
      else (fu, q)

/-- The header stamp of every frame the part originates (R164). -/
def headerStamp (c : Clock) : Nat := c.sinceStart * 100 % 4294967296

/-- The Finding Unit's look, made only while the path is ACTIVE (R164). -/
def lookResult (s : State) (fu : FindingUnit) : FindingUnit × List LocalFrame :=
  if s.standing = .active then
    lookLoop s.node (headerStamp s.clock) (stampOf s.clock) localCap fu s.portD.localQ
  else (fu, s.portD.localQ)

/-- The Finding Unit looks at the Port D local queue (R164). -/
def findingLook (s : State) : State :=
  { s with findings := (lookResult s s.findings).1, portD := { s.portD with localQ := (lookResult s s.findings).2 } }

/-- In-service flag of a finding: the turbine's service mode for turbines 1 to 24, NO otherwise (R33, R158). -/
def inServiceFlag (s : State) (turbine : Option Nat) : Bool :=
  match turbine with
  | some n =>
    match turbineOf n with
    | some t => (s.turbines.get t).service
    | none => false
  | none => false

/-- The record a raised finding becomes, before it has its number (R158). -/
def findingOf (s : State) (k : FindingKind) (turbine : Option Nat) (subject : Subject) (values : List Word32) : Finding :=
  { seq := 0, kind := k, turbine := turbine, subject := subject, day := (stampOf s.clock).day,
    tenths := (stampOf s.clock).tenths, inService := inServiceFlag s turbine, unset := (stampOf s.clock).unset,
    values := values }

/-- A finding raised by a block: taken (R160), and then the look of R164. It changes the Finding Unit and the Port D
local queue only. -/
def raise (s : State) (k : FindingKind) (turbine : Option Nat) (subject : Subject) (values : List Word32) : State :=
  let fu := takeFinding (stampOf s.clock) s.findings (findingOf s k turbine subject values)
  { s with findings := (lookResult s fu).1, portD := { s.portD with localQ := (lookResult s fu).2 } }

/-- The turbine of a stream's finding: its source where that is 1 to 24, none otherwise (R159). -/
def sourceTurbine (source : Nat) : Option Nat := if 1 ≤ source ∧ source ≤ 24 then some source else none

/-! ## Ports and transmit queues (R178) -/

/-- The record of a port. -/
def portOf (s : State) : Port → PortRec
  | .u => s.portU
  | .d => s.portD

/-- The state with a port's record replaced. -/
def setPort (s : State) (p : Port) (r : PortRec) : State :=
  { s with portU := (match p with | .u => r | .d => s.portU), portD := (match p with | .u => s.portD | .d => r) }

/-- Capacity of a port's transit queue (R178). -/
def transitCap : Port → Nat
  | .u => 32
  | .d => 64

/-- A frame offered to a port's transit queue: placed, or dropped at a full queue with PORT_OVERFLOW (R178). -/
def offerTransit (s : State) (p : Port) (f : Frame) : State :=
  let r := portOf s p
  if r.transit.length < transitCap p then setPort s p { r with transit := r.transit ++ [f] }
  else
    raise (setPort s p { r with overflow := bump r.overflow }) .portOverflow none (.port p)
      [vNat (bump r.overflow), vNat (headerOf f.bytes).source]

/-! ## Replies (R182, R193) -/

/-- Reasons of a refusal (R182). -/
inductive Reason where
  | busy
  | unknownCommand
  | badParameter
  | badEntry
  | duplicateKey
  | duplicateRole
  | notPresent
  | notInService
  | clockUnset
  | windowPending
  | storeFault
  | storeAbsent
  | wrongPort
  deriving DecidableEq, Repr

/-- Codes of the reasons (R193). -/
def reasonCode : Reason → Nat
  | .busy => 1
  | .unknownCommand => 2
  | .badParameter => 3
  | .badEntry => 4
  | .duplicateKey => 5
  | .duplicateRole => 6
  | .notPresent => 7
  | .notInService => 8
  | .clockUnset => 9
  | .windowPending => 10
  | .storeFault => 11
  | .storeAbsent => 12
  | .wrongPort => 13

/-- The payload of a REPLY: tag, code, outcome, reason, detail, results (R193). That the detail of a reply DONE is 0 is the
model's choice (entry 65). -/
def replyPayload (o : Origin) (code : Nat) (refusal : Option (Reason × Nat)) (results : List Byte) : List Byte :=
  match refusal with
  | none => u8 o.tag ++ u8 code ++ u8 0 ++ u8 0 ++ u16 0 ++ results
  | some (r, d) => u8 o.tag ++ u8 code ++ u8 1 ++ u8 (reasonCode r) ++ u16 d

/-- The REPLY frame the part would build now (R182): monitor flag, the node number as source, channel 0. -/
def replyFrame (s : State) (what : LocalKind) (o : Origin) (code : Nat) (refusal : Option (Reason × Nat))
    (results : List Byte) : LocalFrame :=
  { what := what,
    frame := buildFrame 9 1 s.node 0 s.replySeq (headerStamp s.clock) (replyPayload o code refusal results) }

/-- Whether a port's local queue is full (R178). -/
def localFull (s : State) (p : Port) : Bool := decide (localCap ≤ (portOf s p).localQ.length)

/-- A port that has been offered a REPLY: placed at the end, or dropped and counted at a full local queue (R178). -/
def portWithReply (r : PortRec) (f : LocalFrame) : PortRec :=
  if r.localQ.length < localCap then { r with localQ := r.localQ ++ [f] }
  else { r with repliesDropped := bump r.repliesDropped }

/-- A REPLY built and offered to the local queue of the port the command arrived on (R178, R182). It changes that port
and the REPLY sequence only. -/
def replyAs (s : State) (what : LocalKind) (o : Origin) (code : Nat) (refusal : Option (Reason × Nat))
    (results : List Byte) : State :=
  { setPort s o.port (portWithReply (portOf s o.port) (replyFrame s what o code refusal results))
    with replySeq := (s.replySeq + 1) % 256 }

/-- The reply DONE with results (R181, R182). -/
def replyDone (s : State) (o : Origin) (code : Nat) (results : List Byte) : State :=
  replyAs s .reply o code none results

/-- The reply REFUSED with a reason and its detail (R181, R182). -/
def replyRefused (s : State) (o : Origin) (code : Nat) (r : Reason) (detail : Nat) : State :=
  replyAs s .reply o code (some (r, detail)) []

/-! ## ADVICE frames (R169) -/

/-- Advice codes (R193 note 4). -/
def adviceCode : Advice → Nat
  | .none => 0
  | .curtail => 1
  | .hold => 2

/-- The ADVICE frame of a turbine, built from its record as it stands (R169, R193). -/
def adviceFrame (s : State) (t : Tid) : LocalFrame :=
  { what := .advice t,
    frame := buildFrame 11 1 (tnum t) 0 s.advice.frameSeq (headerStamp s.clock)
      (u8 (adviceCode (s.advice.recs.get t).advice) ++ u8 (s.advice.recs.get t).limit ++ u8 s.active.settings.refresh) }

/-- A local queue with the ADVICE frame waiting for the same turbine replaced in its place (R169). -/
def replaceAdvice (t : Tid) (f : LocalFrame) : List LocalFrame → List LocalFrame
  | [] => []
  | g :: gs => if g.what = .advice t then f :: gs else g :: replaceAdvice t f gs

/-- Whether an ADVICE frame for the turbine waits in a local queue (R169). -/
def adviceWaiting (t : Tid) (q : List LocalFrame) : Bool := q.any (fun g => decide (g.what = .advice t))

/-- What an offer of an ADVICE frame comes to (R169). -/
inductive AdviceOffer where
  | replaced
  | placed
  | owed
  deriving DecidableEq, Repr

/-- The outcome of an offer: a waiting frame is replaced; an owed turbine stays owed; a free place is taken while the
path is ACTIVE; otherwise the turbine is owed (R169). -/
def adviceOffer (s : State) (t : Tid) : AdviceOffer :=
  if adviceWaiting t s.portU.localQ then .replaced
  else if (s.advice.recs.get t).owed = false ∧ s.standing = .active ∧ s.portU.localQ.length < localCap then .placed
  else .owed

/-- The Port U local queue after an offer (R169). -/
def offeredQueue (s : State) (t : Tid) : List LocalFrame :=
  match adviceOffer s t with
  | .replaced => replaceAdvice t (adviceFrame s t) s.portU.localQ
  | .placed => s.portU.localQ ++ [adviceFrame s t]
  | .owed => s.portU.localQ

/-- An ADVICE frame for a turbine offered to the Port U local queue (R169). It changes that queue, the ADVICE sequence
and the turbine's owed flag only. -/
def offerAdvice (s : State) (t : Tid) : State :=
  { s with
    portU := { s.portU with localQ := offeredQueue s t },
    advice :=
      { s.advice with
        frameSeq := (match adviceOffer s t with
          | .owed => s.advice.frameSeq
          | _ => (s.advice.frameSeq + 1) % 256),
        recs := (match adviceOffer s t with
          | .owed => upd s.advice.recs t (fun r => { r with owed := true })
          | _ => s.advice.recs) } }

/-- The owed frame of one turbine, placed where a place is free (R169). -/
def placeOwedOne (s : State) (t : Tid) : State :=
  if (s.advice.recs.get t).owed = true ∧ s.standing = .active ∧ s.portU.localQ.length < localCap then
    { s with
      portU := { s.portU with localQ := s.portU.localQ ++ [adviceFrame s t] },
      advice :=
        { s.advice with
          frameSeq := (s.advice.frameSeq + 1) % 256,
          recs := upd s.advice.recs t (fun r => { r with owed := false }) } }
  else s

/-- The frames owed, placed in turbine number order for as long as places are free (R169). -/
def placeOwed (s : State) : State := allTurbines.foldl placeOwedOne s

end Sys2Proof.Machine
end

