-- ==== Sys2Proof/Machine/Operands.lean ====
section
/-! DEFINITION. Machine/Operands.lean: the codes of enumerated fields (R193, R194) and the checks that turn the raw
parameters of a load into table contents (R1, R2, R65, R95, R110, R112, R140, R183, R184). -/

namespace Sys2Proof.Machine

/-! ## Codes read from a frame -/

/-- Expected kind of a stream entry, as the frame kind code (R194). -/
def streamKindOf : Nat → Option StreamKind
  | 1 => some .sample
  | 2 => some .edge
  | 3 => some .status
  | _ => none

/-- Role code (R194). -/
def roleOf : Nat → Option Role
  | 0 => some .vib
  | 1 => some .tach
  | 2 => some .gridV
  | 3 => some .gridI
  | 4 => some .convI
  | 5 => some .opstat
  | 6 => some .plain
  | _ => none

/-- Phase code (R194). -/
def phaseOf : Nat → Option Phase
  | 0 => some .a
  | 1 => some .b
  | 2 => some .c
  | _ => none

/-- Counted edges code (R194). -/
def edgesOf : Nat → Option CountedEdges
  | 0 => some .rising
  | 1 => some .falling
  | 2 => some .both
  | _ => none

/-- Polarity code of an entry: RISING 0, FALLING 1 (R194). -/
def polarityOf : Nat → Option Polarity
  | 0 => some .rising
  | 1 => some .falling
  | _ => none

/-- Disposition code (R194). -/
def dispositionOf : Nat → Option Disposition
  | 0 => some .pass
  | 1 => some .take
  | 2 => some .thin
  | _ => none

/-- YES/NO or ON/OFF code: 1 for YES and ON (R194). -/
def flagOf : Nat → Option Bool
  | 0 => some false
  | 1 => some true
  | _ => none

/-- Rate code of a SAMPLE frame (R193 note 1). -/
def rateOf : Nat → Option RateCode
  | 1 => some .r1600
  | 2 => some .r3200
  | 3 => some .r6400
  | 4 => some .r12800
  | 5 => some .r25600
  | _ => none

/-- Rotor state code of a STATUS frame; code 0 makes the frame malformed (R193 note 3). -/
def rotorOf : Nat → Option OperState
  | 1 => some .parked
  | 2 => some .idling
  | 3 => some .generating
  | 4 => some .faulted
  | _ => none

/-- Basis code (R194). -/
def basisOf : Nat → Option Basis
  | 0 => some .run
  | 1 => some .krev
  | 2 => some .starts
  | 3 => some .ice
  | 4 => some .curtailed
  | 5 => some .days
  | _ => none

/-- Counter code of SET COUNTER: the order of R135. -/
def counterOf : Nat → Option Basis
  | 0 => some .run
  | 1 => some .krev
  | 2 => some .starts
  | 3 => some .ice
  | 4 => some .curtailed
  | _ => none

/-- Link grade code: a grade's code, ALERT 2 or ALARM 3 (R194, entry 25). -/
def linkGradeOf : Nat → Option Bool
  | 2 => some false
  | 3 => some true
  | _ => none

/-! ## Codes written to a frame -/

/-- Frame kind code of a stream kind (R193). -/
def streamKindCode : StreamKind → Nat
  | .sample => 1
  | .edge => 2
  | .status => 3

/-- Role code (R194). -/
def roleCode : Role → Nat
  | .vib => 0
  | .tach => 1
  | .gridV => 2
  | .gridI => 3
  | .convI => 4
  | .opstat => 5
  | .plain => 6

/-- Phase code (R194). -/
def phaseCode : Phase → Nat
  | .a => 0
  | .b => 1
  | .c => 2

/-- Counted edges code (R194). -/
def edgesCode : CountedEdges → Nat
  | .rising => 0
  | .falling => 1
  | .both => 2

/-- Polarity code (R194). -/
def polarityCode : Polarity → Nat
  | .rising => 0
  | .falling => 1

/-- Disposition code (R194). -/
def dispositionCode : Disposition → Nat
  | .pass => 0
  | .take => 1
  | .thin => 2

/-- YES/NO code (R194). -/
def flagCode (b : Bool) : Nat := if b then 1 else 0

/-- Stream state code: EMPTY 0 to HELD 5 (R194). -/
def streamStateCode : StreamState → Nat
  | .empty => 0
  | .idle => 1
  | .live => 2
  | .silent => 3
  | .faulty => 4
  | .held => 5

/-- Operating state code (R193 note 3). -/
def operCode : OperState → Nat
  | .unknown => 0
  | .parked => 1
  | .idling => 2
  | .generating => 3
  | .faulted => 4

/-- Speed state code, in the order of R37 (R194). -/
def speedStateCode : SpeedState → Nat
  | .noSignal => 0
  | .acquiring => 1
  | .tracking => 2
  | .unreliable => 3
  | .stopped => 4

/-- Grade code: UNKNOWN 0 to ALARM 3 (R194). -/
def gradeCode : Grade → Nat
  | .unknown => 0
  | .good => 1
  | .alert => 2
  | .alarm => 3

/-- Band kind code, in the order of R65 (R194). -/
def bandKindCode : BandKind → Nat
  | .order => 0
  | .fixed => 1

/-- Ice state code, in the order of R113 (R194). -/
def iceStateCode : IceState → Nat
  | .clear => 0
  | .suspect => 1
  | .iced => 2
  | .thawing => 3

/-- Grid state code, in the order of R100 (R194). -/
def gridStateCode : GridState → Nat
  | .normal => 0
  | .exceeding => 1
  | .condition => 2

/-- Verdict code, in the order of R98 (entry 24). -/
def verdictCode : Verdict → Nat
  | .exceeding => 0
  | .clean => 1

/-- Clock state code, in the order of R128 (R194). -/
def clockStateCode : ClockState → Nat
  | .unset => 0
  | .running => 1
  | .held => 2

/-- Basis code: RUN 0 to DAYS 5 (R194). -/
def basisCode : Basis → Nat
  | .run => 0
  | .krev => 1
  | .starts => 2
  | .ice => 3
  | .curtailed => 4
  | .days => 5

/-- Link state code, in the order of R140 (R194). -/
def linkStateCode : LinkState → Nat
  | .armed => 0
  | .spent => 1
  | .owed => 2

/-- Item state code, in the order of R140 (R194). -/
def itemStateCode : ItemState → Nat
  | .waiting => 0
  | .coming => 1
  | .due => 2
  | .overdue => 3

/-- Store state code, in the order of R149 (entry 24). -/
def storeStateCode : StoreState → Nat
  | .absent => 0
  | .idle => 1
  | .writing _ _ => 2
  | .faulted => 3

/-- Test outcome code: none 0, then the order of R67 (R194). -/
def testOutcomeCode : Option TestOutcome → Nat
  | none => 0
  | some .completed => 1
  | some .abandoned => 2
  | some .cancelled => 3
  | some .discarded => 4

/-- Place of an abandonment cause in the order of R67. -/
def causeIndex : AbandonCause → Fin 12
  | .gap => 0
  | .streamEnded => 1
  | .commit => 2
  | .slip => 3
  | .speedStep => 4
  | .trackingLost => 5
  | .blanking => 6
  | .notGenerating => 7
  | .service => 8
  | .serviceEnded => 9
  | .rateChange => 10
  | .tooLong => 11

/-- Place of a block cause in the order of R118. -/
def blockCauseIndex : BlockCause → Fin 7
  | .notGenerating => 0
  | .advice => 1
  | .service => 2
  | .curve => 3
  | .cls => 4
  | .streamEnded => 5
  | .declared => 6

/-- Place of a harmonic abandonment cause in the order of R93. -/
def gridAbandonIndex : GridAbandon → Fin 4
  | .gap => 0
  | .streamEnded => 1
  | .rateChange => 2
  | .gridFreq => 3

/-! ## Stream entries (R1, R2) -/

/-- Whether a role allows an expected kind and a source (R2). -/
def roleAllows (role : Role) (kind : StreamKind) (source : Nat) : Bool :=
  match role with
  | .vib => decide (kind = .sample) && decide (1 ≤ source) && decide (source ≤ 24)
  | .convI => decide (kind = .sample) && decide (1 ≤ source) && decide (source ≤ 24)
  | .gridV => decide (kind = .sample) && decide (source = 0)
  | .gridI => decide (kind = .sample) && decide (source = 0)
  | .tach => decide (kind = .edge) && decide (1 ≤ source) && decide (source ≤ 24)
  | .opstat => decide (kind = .status) && decide (1 ≤ source) && decide (source ≤ 24)
  | .plain => decide (source ≤ 31)

/-- Whether a role's entry carries a phase (R1). -/
def hasPhase : Role → Bool
  | .gridV => true
  | .gridI => true
  | .convI => true
  | _ => false

/-- Whether a role's entry carries a scale code (R1). -/
def hasScale : Role → Bool
  | .vib => true
  | .gridV => true
  | .gridI => true
  | .convI => true
  | _ => false

/-- Whether the tachometer fields of a TACH entry are in range (R1, R2). -/
def tachFieldsOk (r : RawEntry) : Bool :=
  decide (1 ≤ r.pulses) && decide (r.pulses ≤ 512) && (edgesOf r.edges).isSome && (flagOf r.markerPresent).isSome &&
  (decide (r.markerPresent = 0) || (polarityOf r.markerPolarity).isSome) && decide (r.spacing ≤ 65535)

/-- Whether every field that applies to the entry's role is in range (R1, R2). -/
def entryOk (r : RawEntry) : Bool :=
  match streamKindOf r.kind, roleOf r.role, dispositionOf r.disposition with
  | some kind, some role, some disp =>
    decide (r.source ≤ 31) && decide (r.channel ≤ 7) && roleAllows role kind r.source &&
    (!hasPhase role || (phaseOf r.phase).isSome) &&
    (!decide (role = .vib) || decide (r.bandSet ≤ 31)) &&
    (!hasScale role || decide (r.scale ≤ 7)) &&
    (!decide (role = .tach) || tachFieldsOk r) &&
    (!decide (disp = .thin) || (decide (2 ≤ r.thinN) && decide (r.thinN ≤ 16))) &&
    decide (r.silence ≤ 255)
  | _, _, _ => false

/-- The entry a good raw entry gives; fields that do not apply are held as zero (R1). -/
def entryOf (r : RawEntry) : StreamEntry :=
  let role := (roleOf r.role).getD .plain
  let disp := (dispositionOf r.disposition).getD .pass
  let tach := decide (role = .tach)
  let marker := tach && decide (r.markerPresent = 1)
  { source := r.source, channel := r.channel, kind := (streamKindOf r.kind).getD .sample, role := role,
    phase := if hasPhase role then (phaseOf r.phase).getD .a else .a,
    bandSet := if role = .vib then r.bandSet else 0,
    scale := if hasScale role then r.scale else 0,
    pulses := if tach then r.pulses else 0,
    edges := if tach then (edgesOf r.edges).getD .rising else .rising,
    markerPresent := marker,
    markerPolarity := if marker then (polarityOf r.markerPolarity).getD .rising else .rising,
    spacing := if tach then r.spacing else 0,
    disposition := disp,
    thinN := if disp = .thin then r.thinN else 0,
    silence := r.silence }

/-- A pair of LOAD STREAM checked: its slot in range, not named before in the command, and its entry good (R184). -/
def pairOk (seen : List Nat) (r : RawEntry) : Bool :=
  decide (r.slot < 192) && !seen.contains r.slot && entryOk r

/-- Index of the first bad pair of LOAD STREAM, counting from `i` (R184). -/
def firstBadPair (seen : List Nat) (i : Nat) : List RawEntry → Option Nat
  | [] => none
  | r :: rs => if pairOk seen r then firstBadPair (r.slot :: seen) (i + 1) rs else some i

/-! ## Band sets (R65) -/

/-- Whether a set's settings are in range (R65). -/
def setSettingsOk (r : RawSetSettings) : Bool :=
  decide (1 ≤ r.revolutions) && decide (r.revolutions ≤ 64) && decide (1 ≤ r.persistence) && decide (r.persistence ≤ 15) &&
  decide (r.report ≤ 1) && decide (r.postscale ≤ 16) && decide (r.skip ≤ 15)

/-- Whether a band is in range (R65). -/
def bandOk (b : RawBand) : Bool :=
  decide (b.kind ≤ 1) && decide (1 ≤ b.lower) && decide (b.lower < b.upper) &&
  decide (b.upper ≤ (if b.kind = 0 then 2000 else 10000)) &&
  decide (1 ≤ b.alert) && decide (b.alert ≤ 16777215) && decide (b.alert < b.alarm) && decide (b.alarm ≤ 16777215) &&
  decide (b.iceSensitive ≤ 1)

/-- Index of the first bad band, counting from `i` (R65). -/
def firstBadBand (i : Nat) : List RawBand → Option Nat
  | [] => none
  | b :: bs => if bandOk b then firstBadBand (i + 1) bs else some i

/-- The band a good raw band gives. -/
def bandOf (b : RawBand) : Band :=
  { kind := if b.kind = 0 then .order else .fixed, lower := b.lower, upper := b.upper, alert := b.alert, alarm := b.alarm,
    iceSensitive := decide (b.iceSensitive = 1) }

/-- The set that good raw settings and bands give (R65). -/
def bandSetOf (r : RawSetSettings) (bs : List RawBand) : BandSet :=
  { bands := bs.map bandOf, revolutions := r.revolutions, persistence := r.persistence,
    report := if r.report = 0 then .change else .level, postscale := r.postscale, skip := r.skip }

/-! ## Limits (R95) and curves (R110) -/

/-- Whether a pair of limits is in range (R95). -/
def limitOk (l : RawLimit) : Bool := decide (l.voltage ≤ 2000) && decide (l.current ≤ 10000)

/-- Index of the first bad pair of limits, counting from `i` (R95). -/
def firstBadLimit (i : Nat) : List RawLimit → Option Nat
  | [] => none
  | l :: ls => if limitOk l then firstBadLimit (i + 1) ls else some i

/-- The pair a raw pair gives. -/
def limitOf (l : RawLimit) : LimitPair := { voltage := l.voltage, current := l.current }

/-- The limits that 40 good entries give: entry 1 the THD pair, then orders 2 to 40 (R95). -/
def limitsOf (ls : List RawLimit) : Limits :=
  { thd := limitOf (ls.getD 0 ⟨0, 0⟩), orders := tabOf (fun i => limitOf (ls.getD (i.val + 1) ⟨0, 0⟩)) }

/-- Index of the first bad bin: its wind speed, counting from `w` (R110). -/
def firstBadBin (w : Nat) : List Nat → Option Nat
  | [] => none
  | b :: bs => if b ≤ 32767 then firstBadBin (w + 1) bs else some w

/-- The curve that 25 bins give (R110). -/
def curveOf (bs : List Nat) : Tab Nat 25 := tabOf (fun i => bs.getD i.val 0)

/-! ## Part Settings (R7, R34, R47, R50, R96, R112, R133, R150, R167, R183, R184) -/

/-- Whether a number lies in a range. -/
def inRange (lo hi n : Nat) : Bool := decide (lo ≤ n) && decide (n ≤ hi)

/-- Whether a signed number lies in a range. -/
def inRangeInt (lo hi n : Int) : Bool := decide (lo ≤ n) && decide (n ≤ hi)

/-- Whether entry `i` (1 to 25) of LOAD SETTINGS is in range; `don` is the on-deficit the command carries (R183, R184). The
codes of entry 1, the unknown-stream policy, are the model's choice: FORWARD 0, DISCARD 1 (R7; entry 55). -/
def settingOk (don : Nat) (i n : Nat) : Bool :=
  match i with
  | 1 => inRange 0 1 n
  | 2 => inRange 0 600 n
  | 3 => inRange 1 255 n
  | 4 => inRange 1 20 n
  | 5 => decide (n = 50) || decide (n = 60)
  | 6 => inRange 2 20 n
  | 7 => inRange 1 15 n
  | 8 => inRange 1 255 n
  | 9 => inRange 1 255 n
  | 10 => inRange 1 4 n
  | 11 => inRange 10 90 n && decide (n % 10 = 0)
  | 12 => inRange 0 1 n
  | 13 => inRange 0 16 n
  | 14 => inRangeInt (-300) 50 (signed16 n)
  | 15 => inRange 10 600 n
  | 16 => inRange 5 80 n
  | 17 => decide (n < don)
  | 18 => inRange 1 15 n
  | 19 => inRangeInt (-50) 150 (signed16 n)
  | 20 => inRange 1 1440 n
  | 21 => inRange 0 1 n
  | 22 => inRange 1 4 n
  | 23 => inRange 1 60 n
  | 24 => inRange 1 24 n
  | 25 => inRange 0 23 n
  | _ => false

/-- Index of the first bad setting, counting from `i` (R184). -/
def firstBadSetting (don : Nat) (i : Nat) : List Nat → Option Nat
  | [] => none
  | n :: ns => if settingOk don i n then firstBadSetting don (i + 1) ns else some i

/-- Entry `i` (1 to 25) of a settings list. -/
def settingAt (ns : List Nat) (i : Nat) : Nat := ns.getD (i - 1) 0

/-- The settings that 25 good entries give (R183). That entry 1 carries the unknown-stream policy as FORWARD 0 and DISCARD 1 is
the model's choice: R7 names the two in prose and R194 lists no code for them (entry 55). -/
def settingsOf (ns : List Nat) : Settings :=
  { policy := if settingAt ns 1 = 0 then .forward else .discard, blankingTime := settingAt ns 2, stopTime := settingAt ns 3,
    tolerance := settingAt ns 4, nominal := settingAt ns 5, cycles := settingAt ns 6, gridPersist := settingAt ns 7,
    release := settingAt ns 8, escalation := settingAt ns 9, cmax := settingAt ns 10, reduction := settingAt ns 11,
    response := if settingAt ns 12 = 0 then .latched else .following, gridPostscale := settingAt ns 13,
    tempGate := signed16 (settingAt ns 14), blockSize := settingAt ns 15, onDeficit := settingAt ns 16,
    offDeficit := settingAt ns 17, confirm := settingAt ns 18, thawTemp := signed16 (settingAt ns 19),
    thawDwell := settingAt ns 20, holdOnIce := decide (settingAt ns 21 = 1), trialBlocks := settingAt ns 22,
    refresh := settingAt ns 23, ckptInterval := settingAt ns 24, ckptHour := settingAt ns 25 }

/-! ## Maintenance items (R140, R143) -/

/-- The index of the first parameter of LOAD ITEM that is out of range (R143, R181). R192's row does not separate the item
fields and the link: that each field has a number of its own, the slot 1, the turbine 2, the label 3, the basis 4, the interval 5,
the lead 6, the margin 7, the last-done value 8, the link-present byte 9, the band set 10, the link grade 11 and the pull-in 12,
is the model's choice (entry 56), and so is the lowest index where several are out of range (entry 59). -/
def firstBadItemParam (slot : Nat) (r : RawItem) : Option Nat :=
  if 96 ≤ slot then some 1
  else if (turbineOf r.turbine).isNone then some 2
  else if 65535 < r.label then some 3
  else if (basisOf r.basis).isNone then some 4
  else if inRange 1 1000000000 r.interval = false then some 5
  else if r.interval < r.lead then some 6
  else if 1000000000 < r.margin then some 7
  else if (flagOf r.current).isNone then some 8
  else if (flagOf r.linkPresent).isNone then some 9
  else
    match r.link with
    | none => none
    | some l =>
      if 31 < l.bandSet then some 10
      else if (linkGradeOf l.grade).isNone then some 11
      else if 1000000000 < l.pullIn then some 12
      else none

/-- Whether the link bytes stand exactly where the link-present byte is 1, which the payload length says (R194). -/
def linkBytesFit (r : RawItem) : Bool := decide (r.link.isSome = decide (r.linkPresent = 1))

/-- The link that good link bytes give: ARMED (R143). -/
def linkOf (l : RawLink) : Option Link :=
  match placeOf 32 l.bandSet, linkGradeOf l.grade with
  | some b, some g => some { bandSet := b, alarm := g, pullIn := l.pullIn, state := .armed }
  | _, _ => none

/-! ## Fields that may be none (R194) -/

/-- A field of `k` bytes whose none is 0. -/
def noneZero (k : Nat) (n : Option Nat) : List Byte := beBytes k (n.getD 0)

/-- A field of `k` bytes whose none is all ones. -/
def noneOnes (k : Nat) (n : Option Nat) : List Byte := beBytes k (n.getD (256 ^ k - 1))

/-- A signed 16-bit field that may be none: 4 bytes, none the most negative number. -/
def noneSigned (n : Option Int) : List Byte := u32 (ofSigned32 (n.getD (-2147483648)))

/-- A YES/NO field. -/
def uFlag (b : Bool) : List Byte := u8 (flagCode b)

/-- A list of 4-byte counts. -/
def uCounts (ns : List Nat) : List Byte := (ns.map u32).flatten

/-- A condition link: a presence flag, then its fields, zero where there is none (R140; entries 24 and 48). -/
def linkBytes (l : Option Link) : List Byte :=
  match l with
  | some l => uFlag true ++ u8 l.bandSet.val ++ u8 (gradeCode (if l.alarm then .alarm else .alert)) ++ u32 l.pullIn ++ u8 (linkStateCode l.state)
  | none => uFlag false ++ u8 0 ++ u8 0 ++ u32 0 ++ u8 0

end Sys2Proof.Machine
end

