-- ==== Sys2Proof/Machine/Flags.lean ====
section
/-! DEFINITION. Machine/Flags.lean: the conditions that are formed from other state: order of grades, requests for hold
and curtailment, the causes of ATTN, the staged-differs flags, frozen bands. -/

namespace Sys2Proof.Machine

/-- The worse of two grades, UNKNOWN taking no part (R81). -/
def worseGrade (a b : Grade) : Grade := if gradeCode a < gradeCode b then b else a

/-- The worst of a list of grades, UNKNOWN where there are none or all are UNKNOWN (R81). -/
def worstGrade (gs : List Grade) : Grade := gs.foldl worseGrade .unknown

/-- Whether a grade is at or above a link grade, ALARM where `alarm` is YES and ALERT otherwise; UNKNOWN reaches no link
grade (R145). -/
def reachesLink (alarm : Bool) (g : Grade) : Bool :=
  match g with
  | .unknown => false
  | .good => false
  | .alert => !alarm
  | .alarm => true

/-- Whether the Icing Watch requests hold for a turbine: exactly while its ice state is ICED and hold-on-ice is ON
(R124). -/
def holdRequested (s : State) (t : Tid) : Bool :=
  decide ((s.ice.get t).state = .iced) && s.active.settings.holdOnIce

/-- Whether the Harmonic Watch requests curtailment of a turbine (R106). -/
def curtailRequested (s : State) (t : Tid) : Bool := decide (t ∈ s.harm.grid.requests)

/-- First cause of ATTN: a present turbine outside service with vibration grade ALARM (R166). -/
def attnVib (s : State) : Bool :=
  allTurbines.any (fun t => (s.turbines.get t).present && !(s.turbines.get t).service &&
    decide (s.vib.grades.get t = .alarm))

/-- Second cause of ATTN: the grid state is CONDITION (R166). -/
def attnGrid (s : State) : Bool := decide (s.harm.grid.state = .condition)

/-- Third cause of ATTN: an item is OVERDUE (R166). -/
def attnItem (s : State) : Bool :=
  allItems.any (fun i => match s.items.get i with
    | some it => decide (it.state = .overdue)
    | none => false)

/-- The value of the ATTN line: its causes while the path is ACTIVE, not asserted otherwise (R166). -/
def attnValue (s : State) : Bool := decide (s.standing = .active) && (attnVib s || attnGrid s || attnItem s)

/-- The ATTN line formed again from its causes (R166; entry 11). -/
def formAttn (s : State) : State := { s with findings := { s.findings with attn := attnValue s } }

/-- Whether a slot's staged entry differs from its active entry (R183). -/
def slotDiffers (s : State) (i : SlotId) : Bool := decide (s.staged.streams.get i ≠ (s.streams.slots.get i).entry)

/-- The five staged-differs flags: Stream Table, Band Set Table, Harmonic Limit Table, Power Curve Table, Part Settings
(R183). -/
def stagedDiffers (s : State) : List Bool :=
  [allSlots.any (slotDiffers s), decide (s.staged.bands ≠ s.active.bands), decide (s.staged.limits ≠ s.active.limits),
   decide (s.staged.curves ≠ s.active.curves), decide (s.staged.settings ≠ s.active.settings)]

/-- Whether ice-sensitive bands of a turbine are frozen: ice state ICED or THAWING (R80). -/
def iceFreezes : IceState → Bool
  | .clear => false
  | .suspect => false
  | .iced => true
  | .thawing => true

end Sys2Proof.Machine
end

