-- ==== Sys2Proof/Machine/Calendar.lean ====
section
/-! DEFINITION. Machine/Calendar.lean: the Service Calendar's operations: basis values, thresholds, evaluation of items,
condition pull-in and day changes (chapter 9). -/

namespace Sys2Proof.Machine

/-- A sum of basis values, held at the top (R140, R141, R145). -/
def heldSum (a b : Nat) : Nat := min (a + b) countTop

/-- The main counter of a basis; DAYS has none (R139, R141). -/
def mainOf (c : MainCounters) : Basis → Nat
  | .run => c.run
  | .krev => c.krev
  | .starts => c.starts
  | .ice => c.ice
  | .curtailed => c.curtailed
  | .days => 0

/-- The basis value v of a turbine's item (R141). -/
def basisValue (s : State) (t : Tid) (b : Basis) : Nat :=
  if b = .days then s.clock.day else mainOf (s.usage.get t).main b

/-- The coming threshold: the due point less the lead, or 0 (R141). -/
def comingThreshold (it : Item) : Nat := it.duePoint - it.lead

/-- The overdue threshold: the due point plus the margin, held at the top (R141). -/
def overdueThreshold (it : Item) : Nat := heldSum it.duePoint it.margin

/-- The state that a basis value gives an item (R141). -/
def itemStateAt (it : Item) (v : Nat) : ItemState :=
  if v < comingThreshold it then .waiting
  else if v < it.duePoint then .coming
  else if v < overdueThreshold it then .due
  else .overdue

/-- The finding an item raises on entering a state; none for WAITING (R142). -/
def itemFinding : ItemState → Option FindingKind
  | .waiting => none
  | .coming => some .itemComing
  | .due => some .itemDue
  | .overdue => some .itemOverdue

/-- An item put into a state that it was not in, with the finding of the state entered (R142). -/
def enterItemState (s : State) (i : ItemId) (it : Item) (v : Nat) (st : ItemState) : State :=
  let s1 := { s with items := put s.items i (some { it with state := st }) }
  match itemFinding st with
  | none => s1
  | some k =>
    raise s1 k (some (tnum it.turbine)) (.item i)
      [vNat it.label, vNat (basisCode it.basis), vNat v, vNat it.duePoint, vNat (overdueThreshold it)]

/-- Whether an item is evaluated now: DAYS items are not while the clock is UNSET (R142). -/
def evaluable (s : State) (it : Item) : Bool :=
  !(decide (it.basis = .days) && decide (s.clock.state = .unset))

/-- An evaluation of the item in a slot (R142). -/
def evaluateItem (s : State) (i : ItemId) : State :=
  match s.items.get i with
  | none => s
  | some it =>
    if evaluable s it then
      let v := basisValue s it.turbine it.basis
      if itemStateAt it v = it.state then s else enterItemState s i it v (itemStateAt it v)
    else s

/-- Whether a slot holds an item of a turbine and basis. -/
def itemMatches (s : State) (t : Tid) (b : Basis) (i : ItemId) : Bool :=
  match s.items.get i with
  | some it => decide (it.turbine = t) && decide (it.basis = b)
  | none => false

/-- An advance of a main counter told to the Calendar: the turbine's items of that basis are evaluated (R139, R142); in
ascending slot order by the model's choice (entry 17). -/
def counterAdvance (s : State) (t : Tid) (b : Basis) : State :=
  (allItems.filter (itemMatches s t b)).foldl evaluateItem s

/-- The pull-in of a linked item at basis value `v` under grade `g`: the link is SPENT, and where the due point changes
ITEM_PULLED_IN is raised and the item is evaluated (R145). -/
def pullIn (s : State) (i : ItemId) (it : Item) (l : Link) (v : Nat) (g : Grade) : State :=
  let newDue := min it.duePoint (heldSum v l.pullIn)
  let it1 := { it with duePoint := newDue, link := some { l with state := .spent } }
  let s1 := { s with items := put s.items i (some it1) }
  if newDue = it.duePoint then s1
  else
    evaluateItem
      (raise s1 .itemPulledIn (some (tnum it.turbine)) (.item i)
        [vNat it.label, vNat it.duePoint, vNat newDue, vNat l.bandSet.val, vNat (gradeCode g)])
      i

/-- A link with its state replaced. -/
def withLinkState (it : Item) (l : Link) (st : LinkState) : Item := { it with link := some { l with state := st } }

/-- What one item does at a change of its linked grade from `old` to `new` (R145, R146). -/
def linkedChangeItem (t : Tid) (b : SetId) (old new : Grade) (s : State) (i : ItemId) : State :=
  match s.items.get i with
  | none => s
  | some it =>
    match it.link with
    | none => s
    | some l =>
      if it.turbine = t ∧ l.bandSet = b then
        if reachesLink l.alarm new = true ∧ reachesLink l.alarm old = false then
          match l.state with
          | .armed =>
            if it.basis = .days ∧ s.clock.state = .unset then
              { s with items := put s.items i (some (withLinkState it l .owed)) }
            else pullIn s i it l (basisValue s it.turbine it.basis) new
          | .spent => s
          | .owed => s
        else if new = .good then { s with items := put s.items i (some (withLinkState it l .armed)) }
        else s
      else s

/-- A change of a turbine's linked grade for a band set, told to the Calendar (R81, R145, R146); it acts on the items in
ascending slot order by the model's choice (entry 17). -/
def linkedChange (s : State) (t : Tid) (b : SetId) (old new : Grade) : State :=
  allItems.foldl (linkedChangeItem t b old new) s

/-- An OWED link settled at a day change, before the item's evaluation (R146). -/
def settleOwed (s : State) (i : ItemId) (it : Item) (l : Link) : State :=
  let g := (s.vib.linked.get it.turbine).get l.bandSet
  if reachesLink l.alarm g then pullIn s i it l s.clock.day g
  else { s with items := put s.items i (some (withLinkState it l .armed)) }

/-- What one slot does at a day change: a DAYS item settles an OWED link and is evaluated (R142, R146). -/
def dayChangeItem (s : State) (i : ItemId) : State :=
  match s.items.get i with
  | none => s
  | some it =>
    if it.basis = .days then
      match it.link with
      | some l => if l.state = .owed then evaluateItem (settleOwed s i it l) i else evaluateItem s i
      | none => evaluateItem s i
    else s

/-- A day change told to the Calendar (R129, R130, R132, R142, R146); it acts on the items in ascending slot order by the
model's choice (entry 17). -/
def dayChange (s : State) : State := allItems.foldl dayChangeItem s

end Sys2Proof.Machine
end

