-- ==== Sys2Proof/Machine/Counters.lean ====
section
/-! DEFINITION. Machine/Counters.lean: the Usage Counters and the Farm Clock's advance (chapter 8). -/

namespace Sys2Proof.Machine

/-- Main counters with one of them written; DAYS names none. -/
def setMain (c : MainCounters) (b : Basis) (n : Nat) : MainCounters :=
  match b with
  | .run => { c with run := n }
  | .krev => { c with krev := n }
  | .starts => { c with starts := n }
  | .ice => { c with ice := n }
  | .curtailed => { c with curtailed := n }
  | .days => c

/-- The main counter of a basis of one turbine. -/
def mainAt (s : State) (t : Tid) (b : Basis) : Nat := mainOf (s.usage.get t).main b

/-- The state with a main counter of a turbine written. -/
def writeMain (s : State) (t : Tid) (b : Basis) (n : Nat) : State :=
  { s with usage := upd s.usage t (fun u => { u with main := setMain u.main b n }) }

/-- An advance by 1 of a main counter: written, then told to the Calendar; at its top nothing changes and nothing is
told (R135, R139). -/
def advanceMain (s : State) (t : Tid) (b : Basis) : State :=
  if mainAt s t b < countTop then counterAdvance (writeMain s t b (mainAt s t b + 1)) t b else s

/-- The basis of a time counter (R139). -/
def timeBasis : TimeCounter → Basis
  | .run => .run
  | .ice => .ice
  | .curtailed => .curtailed

/-- The sub-counter, gate and carries of a time counter. -/
def timeSub (u : Usage) : TimeCounter → TimeSub
  | .run => u.run
  | .ice => u.ice
  | .curtailed => u.curtailed

/-- Usage counters with a time counter's sub-counter, gate and carries replaced. -/
def setTimeSub (u : Usage) (c : TimeCounter) (x : TimeSub) : Usage :=
  match c with
  | .run => { u with run := x }
  | .ice => { u with ice := x }
  | .curtailed => { u with curtailed := x }

/-- A gate opened or closed (R136). -/
def setGate (s : State) (t : Tid) (c : TimeCounter) (isOpen : Bool) : State :=
  { s with usage := upd s.usage t (fun u => setTimeSub u c { timeSub u c with gate := isOpen }) }

/-- A time counter's sub-counter at a tick: an open gate raises it, and one that would reach 3,600 becomes 0 with a
carry to be taken (R136; entry 9). -/
def tickTimeSub (x : TimeSub) : TimeSub :=
  if x.gate then
    if x.ticks + 1 = 3600 then { x with ticks := 0, due := x.due + 1 } else { x with ticks := x.ticks + 1 }
  else x

/-- The usage counters of a turbine at a tick (R136). -/
def tickUsage (u : Usage) : Usage :=
  { u with run := tickTimeSub u.run, ice := tickTimeSub u.ice, curtailed := tickTimeSub u.curtailed }

/-- One carry of a time counter taken, where one is due (R136, R139). -/
def takeCarry (s : State) (t : Tid) (c : TimeCounter) : State :=
  if 0 < (timeSub (s.usage.get t) c).due then
    advanceMain
      { s with usage := upd s.usage t (fun u => setTimeSub u c { timeSub u c with due := (timeSub u c).due - 1 }) }
      t (timeBasis c)
  else s

/-- A revolution event counted (R137). -/
def countRevolution (s : State) (t : Tid) : State :=
  if (s.usage.get t).revSub + 1 = 1000 then
    advanceMain { s with usage := upd s.usage t (fun u => { u with revSub := 0 }) } t .krev
  else { s with usage := upd s.usage t (fun u => { u with revSub := u.revSub + 1 }) }

/-- A start counted (R137). -/
def countStart (s : State) (t : Tid) : State := advanceMain s t .starts

/-! ## The Farm Clock (R128 to R133) -/

/-- Whether a clock stands at 23:59:59.9. -/
def lastTenth (c : Clock) : Bool :=
  decide (c.hour = 23) && decide (c.minute = 59) && decide (c.second = 59) && decide (c.tenth = 9)

/-- The five fields of a clock one tenth on, with the carries of R129, where no midnight is passed. -/
def nextTenth (c : Clock) : Clock :=
  if c.tenth < 9 then { c with tenth := c.tenth + 1 }
  else if c.second < 59 then { c with tenth := 0, second := c.second + 1 }
  else if c.minute < 59 then { c with tenth := 0, second := 0, minute := c.minute + 1 }
  else { c with tenth := 0, second := 0, minute := 0, hour := c.hour + 1 }

/-- Whether a clock stands at the checkpoint hour at minute 0, second 0, tenth 0 (R133). -/
def atCheckpoint (hour : Nat) (c : Clock) : Bool :=
  decide (c.hour = hour) && decide (c.minute = 0) && decide (c.second = 0) && decide (c.tenth = 0)

/-- A RUNNING clock at a tick, `hour` being the checkpoint hour active at it: one tenth on; at 23:59:59.9 the rollover becomes
due, and with it the checkpoint moment of hour 0 (R129, R133; entry 8). -/
def tickRunning (hour : Nat) (c : Clock) : Clock :=
  if lastTenth c then { c with rolloverDue := true, midnightCheckpoint := decide (hour = 0) }
  else { nextTenth c with checkpointDue := c.checkpointDue || atCheckpoint hour (nextTenth c) }

/-- The clock at a tick: ticks since start-up rise in every state, a RUNNING clock advances, a HELD one counts (R128,
R129, R131). -/
def tickClock (hour : Nat) (c : Clock) : Clock :=
  let c1 := { c with sinceStart := bump c.sinceStart }
  match c.state with
  | .unset => c1
  | .running => tickRunning hour c1
  | .held => { c1 with heldTicks := bump c1.heldTicks }

/-- The clock past midnight: 00:00:00.0, the day number up by 1 but held at 65,535; where its tick compared checkpoint hour 0,
the checkpoint moment is reached as well (R129, R133). -/
def midnight (c : Clock) : Clock :=
  { c with day := min (c.day + 1) 65535, hour := 0, minute := 0, second := 0, tenth := 0, rolloverDue := false,
           checkpointDue := c.checkpointDue || c.midnightCheckpoint, midnightCheckpoint := false }

/-- A due day rollover taken: the clock passes midnight and, where the day number changes, the Calendar is told of a day
change (R129; entry 8). -/
def takeRollover (s : State) : State :=
  if s.clock.rolloverDue then
    let s1 := { s with clock := midnight s.clock }
    if s.clock.day < 65535 then dayChange s1 else s1
  else s

/-- The clock advanced by its held ticks in one step, RUNNING (R132). -/
def releasedClock (c : Clock) : Clock :=
  let total := tenthsOfDay c + c.heldTicks
  { c with state := .running, day := min (c.day + total / 864000) 65535, hour := total % 864000 / 36000,
           minute := total % 36000 / 600, second := total % 600 / 10, tenth := total % 10, heldTicks := 0 }

end Sys2Proof.Machine
end

