-- ==== Sys2Proof/Config.lean ====
section
/-! DEFINITION. Config.lean: what an implementation of the JB640 fixes and the manual does not state. Every constant
here is free: it has no body, so nothing that is proved can depend on its value (entries 14 and 36 of the log). -/

namespace Sys2Proof.Config

/-- Free: the revolution period held where the signed difference of two boundary times, in µs, is above the field's top
of 4,294,967,295 or, over edges that lie weeks apart, not positive: R37 and R46 state no value (entry 14). -/
opaque unstatedPeriod (us : Int) : Nat

/-- Free: the mean speed of a window whose closing boundary does not lie after its opening boundary by the signed
difference of R39, for which R73 states no value (entry 14). -/
opaque unstatedMeanSpeed (us : Int) (revolutions : Nat) : Nat

/-- Free: the level of a band in which lines lie, of a window that holds no sample, as R60 states no spectrum of no samples
(entry 36); and the level of a band of a window whose span is not positive, as R60 states no lines (entry 14). -/
opaque unstatedLevel (us lower upper : Nat) : Nat

/-- Free: which of the five rates a window has that no frame gave samples to, `stamp` being that of its closing frame: R71
and R73 state none (entry 36). -/
opaque unstatedRate (stamp : Nat) : Fin 5

end Sys2Proof.Config
end

