-- ==== Sys2Proof/Machine/Analysis.lean ====
section
/-! DEFINITION. Machine/Analysis.lean: the Analysis Queue, the engine's start check and arbiter, and what a watch does
when one of its records is discarded (chapter 4; R75, R94). -/

namespace Sys2Proof.Machine

/-- The entry a slot holds. -/
def entryAt (s : State) (i : SlotId) : Option StreamEntry := (s.streams.slots.get i).entry

/-- The turbine of findings about a slot: its stream's source where that is 1 to 24 (R159). -/
def slotTurbine (s : State) (i : SlotId) : Option Nat :=
  match entryAt s i with
  | some e => sourceTurbine e.source
  | none => none

/-- The state with the Vibration Watch's record of a slot replaced. -/
def setVib (s : State) (i : SlotId) (r : Option VibRec) : State :=
  { s with vib := { s.vib with recs := put s.vib.recs i r } }

/-- The state with `f` applied to the Vibration Watch's record of a slot, where there is one. -/
def updVib (s : State) (i : SlotId) (f : VibRec → VibRec) : State := setVib s i ((s.vib.recs.get i).map f)

/-! ## Discarded records -/

/-- A vibration record discarded at entry, at its start check or at delivery: the stream's count rises where the slot
still holds the record's instance, and a test's outcome becomes DISCARDED with its VIB_TEST (R75, R85; entry 23). R85 names no
cause for a discard: that none is recorded is the model's choice (entry 45). -/
def vibDiscarded (s : State) (r : VibRecord) : State :=
  let s1 :=
    if (s.streams.slots.get r.slot).inst = r.inst then
      updVib s r.slot (fun v =>
        { v with discarded := bump v.discarded,
                 lastTest := if r.test then some (.discarded, none) else v.lastTest })
    else s
  if r.test then raise s1 .vibTest (some (tnum r.turbine)) (.slot r.slot) [] else s1

/-- A harmonic record discarded at entry, at its start check or at delivery (R94). -/
def harmDiscarded (s : State) : State :=
  { s with harm := { s.harm with discarded := bump s.harm.discarded } }

/-! ## The start check and the arbiter (R57, R58) -/

/-- Whether a slot still holds an instance and is not EMPTY (R58). -/
def instanceHolds (s : State) (i : SlotId) (inst : Nat) : Bool :=
  !decide ((s.streams.slots.get i).state = .empty) && decide ((s.streams.slots.get i).inst = inst)

/-- The check of a vibration record's configuration identity (R58). -/
def vibIdentity (s : State) (r : VibRecord) : Bool :=
  instanceHolds s r.slot r.inst && decide (r.gen = s.active.bandGen)

/-- The check of a harmonic record's configuration identity (R58). -/
def harmIdentity (s : State) (r : HarmRecord) : Bool :=
  instanceHolds s r.slot r.inst && decide (r.gen = s.active.limitGen)

/-- The secondary streams of a harmonic record that still hold their instances (R58, R62). -/
def keptSecondaries (s : State) (r : HarmRecord) : List SecStream :=
  r.secondaries.filter (fun x => instanceHolds s x.slot x.inst)

/-- How many secondary streams are struck (R58, R62). -/
def struckCount (s : State) (r : HarmRecord) : Nat := r.secondaries.length - (keptSecondaries s r).length

/-- A vibration record taken from the front of its class for its start check: started, or discarded as STALE_CONFIG
(R57, R58, R59). -/
def startVib (s : State) (r : VibRecord) (rest : List VibRecord) : State :=
  let e := s.engine
  if vibIdentity s r then
    { s with engine := { e with vibQueue := rest, analysing := some (.vib r), harmRun := 0,
                                vibCounts := { e.vibCounts with analysed := bump e.vibCounts.analysed } } }
  else
    vibDiscarded
      { s with engine := { e with vibQueue := rest,
                                  vibCounts := { e.vibCounts with staleAtStart := bump e.vibCounts.staleAtStart } } }
      r

/-- A harmonic record taken from the front of its class for its start check: started without the struck streams, or
discarded as STALE_CONFIG (R57, R58, R59). A struck stream raises the engine's omitted-streams count alone; that it does not
raise the Harmonic Watch's coverage omissions too is the model's choice (entry 44). -/
def startHarm (s : State) (r : HarmRecord) (rest : List HarmRecord) : State :=
  let e := s.engine
  if harmIdentity s r then
    { s with engine := { e with harmQueue := rest,
                                analysing := some (.harm { r with secondaries := keptSecondaries s r }),
                                harmRun := min (e.harmRun + 1) 3,
                                harmCounts := { e.harmCounts with analysed := bump e.harmCounts.analysed },
                                omitted := bumpBy e.omitted (struckCount s r) } }
  else
    harmDiscarded
      { s with engine := { e with harmQueue := rest,
                                  harmCounts := { e.harmCounts with staleAtStart := bump e.harmCounts.staleAtStart } } }

/-- The arbiter's choice and the start check, once (R57). -/
def engineOnce (s : State) : State :=
  match s.engine.harmQueue, s.engine.vibQueue with
  | h :: hs, v :: vs => if s.engine.harmRun < 3 then startHarm s h hs else startVib s v vs
  | h :: hs, [] => startHarm s h hs
  | [], v :: vs => startVib s v vs
  | [], [] => s

/-- An IDLE engine chooses again after each record that fails its check (R56, R58); `k` bounds the records waiting. -/
def engineLoop : Nat → State → State
  | 0, s => s
  | k + 1, s =>
    match s.engine.analysing with
    | some _ => s
    | none => engineLoop k (engineOnce s)

/-- Capacity of the vibration class (R54). -/
def vibCap : Nat := 8

/-- Capacity of the harmonic class (R54). -/
def harmCap : Nat := 4

/-- The engine looks for work (R56). -/
def engineLook (s : State) : State := engineLoop (vibCap + harmCap) s

/-- A vibration record that its watch queues: placed at the end of its class and taken at once by an IDLE engine, or
discarded at entry with WINDOW_OVERRUN (R55, R56). Of a TEST record discarded here, WINDOW_OVERRUN is raised before VIB_TEST
DISCARDED: R55, R75 and R85 give no order of the two findings, and this one is the model's choice (entry 17). -/
def queueVib (s : State) (r : VibRecord) : State :=
  let e := s.engine
  if e.vibQueue.length < vibCap then
    engineLook { s with engine := { e with vibQueue := e.vibQueue ++ [r],
                                           vibCounts := { e.vibCounts with queued := bump e.vibCounts.queued } } }
  else
    vibDiscarded
      (raise { s with engine := { e with vibCounts := { e.vibCounts with overrun := bump e.vibCounts.overrun } } }
        .windowOverrun none (.cls .vib) [vNat (bump e.vibCounts.overrun), vNat r.slot.val, vNat (msOf r.closing)])
      r

/-- A harmonic record that its watch queues (R55, R56). -/
def queueHarm (s : State) (r : HarmRecord) : State :=
  let e := s.engine
  if e.harmQueue.length < harmCap then
    engineLook { s with engine := { e with harmQueue := e.harmQueue ++ [r],
                                           harmCounts := { e.harmCounts with queued := bump e.harmCounts.queued } } }
  else
    harmDiscarded
      (raise { s with engine := { e with harmCounts := { e.harmCounts with overrun := bump e.harmCounts.overrun } } }
        .windowOverrun none (.cls .harm) [vNat (bump e.harmCounts.overrun), vNat r.slot.val, vNat (msOf r.closing)])

end Sys2Proof.Machine
end

