-- ==== Sys2Proof/Machine/Trig.lean ====
section
/-! DEFINITION. Machine/Trig.lean: the cosine and the sine of a fraction of a turn in fixed point, for the spectra and the
magnitudes of R60 and R61. How finely the engine computes is the model's own choice (entry 12). -/

namespace Sys2Proof.Machine

/-- The fixed-point value that stands for 1. -/
def trigUnit : Nat := 18446744073709551616

/-- A whole turn in radians, in units of `1 / trigUnit`. -/
def turnRadians : Nat := 115904311329233965478

/-- The power series of the cosine (`off = 0`), or of the sine over its angle (`off = 1`), from its term `j` on and as a
multiple of that term, `q` being the square of the angle. -/
def trigSeries (q off : Nat) : Nat → Nat → Nat
  | 0, _ => trigUnit
  | n + 1, j => trigUnit - q * trigSeries q off n (j + 1) / (trigUnit * ((2 * j + 1 + off) * (2 * j + 2 + off)))

/-- Cosine of an angle of at most an eighth of a turn. -/
def cosSmall (angle : Nat) : Nat := trigSeries (angle * angle / trigUnit) 0 12 0

/-- Sine of an angle of at most an eighth of a turn. -/
def sinSmall (angle : Nat) : Nat := angle * trigSeries (angle * angle / trigUnit) 1 12 0 / trigUnit

/-- Cosine of `m / den` of a turn, for at most a quarter of a turn. -/
def cosQuarter (m den : Nat) : Nat :=
  if 8 * m ≤ den then cosSmall (turnRadians * m / den) else sinSmall (turnRadians * (den - 4 * m) / (4 * den))

/-- Cosine of `m / den` of a turn, for at most half a turn. -/
def cosHalf (m den : Nat) : Int :=
  if 4 * m ≤ den then (cosQuarter m den : Int) else -(cosQuarter (den - 2 * m) (2 * den) : Int)

/-- Cosine of `num / den` of a turn, in units of `1 / trigUnit` (R60, R61; entry 12). -/
def cosTurn (num : Int) (den : Nat) : Int :=
  let m := (num % (den : Int)).toNat
  cosHalf (min m (den - m)) den

/-- Sine of `num / den` of a turn, in units of `1 / trigUnit`: the cosine a quarter of a turn earlier (R60, R61; entry 12). -/
def sinTurn (num : Int) (den : Nat) : Int := cosTurn (4 * num - den) (4 * den)

end Sys2Proof.Machine
end

