-- ==== Sys2Proof/Machine/Vibration.lean ====
section
/-! DEFINITION. Machine/Vibration.lean: the Vibration Watch (chapter 5): windows, tests, band levels, grading, series and
the grades formed from them. -/

namespace Sys2Proof.Machine

/-! ## Slots of a turbine -/

/-- Whether a slot holds a VIB record of a turbine. -/
def isVibOf (s : State) (t : Tid) (i : SlotId) : Bool :=
  (s.vib.recs.get i).isSome &&
  match entryAt s i with
  | some e => decide (e.role = .vib) && decide (e.source = tnum t)
  | none => false

/-- The VIB slots of a turbine, in ascending order. No rule orders what one notice does to several of them (R51, R72): that
it acts on them in this order is the model's choice (entry 17). -/
def vibSlots (s : State) (t : Tid) : List SlotId := allSlots.filter (isVibOf s t)

/-- Whether a waiting commit keeps a slot from opening a new window (R87, R94, R187, R188). -/
def commitHolds (s : State) (i : SlotId) : Bool :=
  match s.cmd with
  | .commit p => p.groups.any (fun g => g.contains i)
  | .ready => false
  | .save _ _ => false
  | .restart _ => false

/-! ## Abandoning and cancelling (R74, R85) -/

/-- The window of a slot, if it has one. -/
def windowAt (s : State) (i : SlotId) : Option VibWindow :=
  match s.vib.recs.get i with
  | some r => r.window
  | none => none

/-- An open or closing window abandoned under a cause: samples discarded, the count raised, window state NONE; a test
ends ABANDONED with its VIB_TEST (R74, R85). -/
def abandonWindow (cause : AbandonCause) (s : State) (i : SlotId) : State :=
  match windowAt s i with
  | none => s
  | some w =>
    let s1 := updVib s i (fun r =>
      { r with window := none, abandoned := upd r.abandoned (causeIndex cause) bump,
               lastTest := if w.test then some (.abandoned, some cause) else r.lastTest })
    if w.test then raise s1 .vibTest (slotTurbine s i) (.slot i) [] else s1

/-- An automatic window abandoned; a TEST window is left (R85: not by SERVICE, not by NOT_GENERATING). -/
def abandonAutomatic (cause : AbandonCause) (s : State) (i : SlotId) : State :=
  match windowAt s i with
  | none => s
  | some w => if w.test then s else abandonWindow cause s i

/-- A TEST window abandoned; an automatic window is left (R85: SERVICE_ENDED). -/
def abandonTest (cause : AbandonCause) (s : State) (i : SlotId) : State :=
  match windowAt s i with
  | none => s
  | some w => if w.test then abandonWindow cause s i else s

/-- A pending test request cancelled, with its VIB_TEST (R85). -/
def cancelTest (cause : AbandonCause) (s : State) (i : SlotId) : State :=
  match s.vib.recs.get i with
  | none => s
  | some r =>
    if r.testPending then
      raise (updVib s i (fun r => { r with testPending := false, lastTest := some (.cancelled, some cause) }))
        .vibTest (slotTurbine s i) (.slot i) []
    else s

/-! ## Opening a window (R70, R85) -/

/-- A frame put in its place among frames by stamp (R70). -/
def insertByStamp (f : StoredFrame) : List StoredFrame → List StoredFrame
  | [] => [f]
  | g :: gs => if stampDiff f.stamp g.stamp < 0 then f :: g :: gs else g :: insertByStamp f gs

/-- The recent store's frames in stamp order (R70). -/
def inStampOrder (fs : List StoredFrame) : List StoredFrame := fs.foldl (fun acc f => insertByStamp f acc) []

/-- The samples of the recent store at or after a boundary, in stamp order (R70). -/
def recentFrom (fs : List StoredFrame) (b : Time) : List Sample :=
  ((inStampOrder fs).map (fun f => timed f.stamp f.rate f.samples)).flatten.filter (fun x => atOrAfter x.time b)

/-- The band set a VIB entry names, in the active table. -/
def setOf (s : State) (e : StreamEntry) : BandSet :=
  match placeOf 32 e.bandSet with
  | some b => s.active.bands.get b
  | none => .reset

/-- Whether the turbine's conditions for an automatic window hold: present, GENERATING, service OFF, blanking 0 (R70). -/
def automaticAllowed (r : TurbineRec) : Bool :=
  r.present && decide (r.oper = .generating) && !r.service && decide (timerTicks r.blanking = 0)

/-- The window that opens at a boundary (R70, R85). -/
def openedWindow (test : Bool) (b : Time) (target : Nat) (recent : List StoredFrame) : VibWindow :=
  { test := test, opening := b, closing := none, revs := 0, target := target,
    rate := recent.head?.map (fun f => f.rate), samples := recentFrom recent b }

/-- The opening check of a stream in window state NONE at an opening boundary of its turbine: a pending test opens a TEST
window, otherwise an automatic window opens where every condition holds (R70, R85, R87). -/
def openingCheck (t : Tid) (b : Time) (s : State) (i : SlotId) : State :=
  match s.vib.recs.get i, entryAt s i with
  | some r, some e =>
    if r.window.isNone = true ∧ (s.streams.slots.get i).state = .live ∧ (setOf s e).bands.isEmpty = false ∧
        commitHolds s i = false then
      if r.testPending then
        setVib s i (some { r with window := some (openedWindow true b (setOf s e).revolutions r.recent), testPending := false })
      else if automaticAllowed (s.turbines.get t) then
        setVib s i (some { r with window := some (openedWindow false b (setOf s e).revolutions r.recent) })
      else s
    else s
  | _, _ => s

/-! ## Closing a window (R73) -/

/-- Mean speed over a window in 0.1 rpm: 600,000,000 times the revolution target over the span in µs, rounded down and
held at 65,535; free where the span is not positive (R73; entry 14). A quotient below 1 gives 0, which R52 does not list among
the field's values: that the record keeps it is the model's choice (entry 14). -/
def windowMeanSpeed (target : Nat) (opening closing : Time) : Nat :=
  let us := usDiff closing opening
  if 0 < us then min (600000000 * target / us.toNat) 65535 else Config.unstatedMeanSpeed us target

/-- A window that closes at its closing boundary: its record is queued, the window state becomes NONE, and for an
automatic window the opening check is made at the closing boundary itself (R73, R85). -/
def closeWindow (s : State) (t : Tid) (i : SlotId) (w : VibWindow) (c : Time) (rate : RateCode) : State :=
  let rec1 : VibRecord :=
    { turbine := t, slot := i, inst := (s.streams.slots.get i).inst, gen := s.active.bandGen, opening := w.opening,
      closing := c, meanSpeed := windowMeanSpeed w.target w.opening c, rate := rate, samples := w.samples, test := w.test }
  let s1 := queueVib (updVib s i (fun r => { r with window := none, queued := bump r.queued })) rec1
  if w.test then s1 else openingCheck t c s1 i

/-! ## Notices of a VIB stream (R68) -/

/-- A stored window's samples limit (R71). -/
def windowCap : Nat := 16384

/-- The recent store after a frame: emptied first by another rate code, at most the latest 8 frames (R68). -/
def recentWith (fs : List StoredFrame) (f : StoredFrame) : List StoredFrame :=
  let kept := if fs.all (fun g => decide (g.rate = f.rate)) then fs else []
  let all := kept ++ [f]
  all.drop (all.length - 8)

/-- Rate code of a window as a code 1 to 5 (R193). -/
def rateCodeNum : RateCode → Nat
  | .r1600 => 1
  | .r3200 => 2
  | .r6400 => 3
  | .r12800 => 4
  | .r25600 => 5

/-- A frame's samples offered to a window: abandoned under RATE_CHANGE or TOO_LONG, or taken (R71, R72). No rule orders
VIB_TEST ABANDONED (R85) and WINDOW_TOO_LONG (R71) where a TEST window grows too long: that VIB_TEST comes first is the model's
choice (entry 17). Nor does R71 order its two causes for a frame of another rate that would also pass the cap: RATE_CHANGE alone is
the model's choice (entry 63). -/
def giveSamples (s : State) (i : SlotId) (w : VibWindow) (rate : RateCode) (new : List Sample) : State :=
  if w.rate.isSome = true ∧ w.rate ≠ some rate then abandonWindow .rateChange s i
  else if windowCap < w.samples.length + new.length then
    raise (abandonWindow .tooLong s i) .windowTooLong (slotTurbine s i) (.slot i)
      [vNat w.revs, vNat w.target, vNat (rateCodeNum rate)]
  else updVib s i (fun r => { r with window := some { w with samples := w.samples ++ new, rate := some rate } })

/-- The rate at a place of R193's list. -/
def rateAtPlace (n : Fin 5) : RateCode :=
  match n with
  | 0 => .r1600
  | 1 => .r3200
  | 2 => .r6400
  | 3 => .r12800
  | 4 => .r25600

/-- A DATA notice given to an open or closing window (R71, R72): the first frame stamped at or after the closing boundary
closes a CLOSING window, whose rate is free where no frame gave it one (entry 36). -/
def dataToWindow (s : State) (t : Tid) (i : SlotId) (w : VibWindow) (stamp : Nat) (rate : RateCode) (xs : List Int) : State :=
  let new := (timed stamp rate xs).filter (fun x => atOrAfter x.time w.opening)
  match w.closing with
  | none => giveSamples s i w rate new
  | some c =>
    if atOrAfter (stampTime stamp) c then closeWindow s t i w c (w.rate.getD (rateAtPlace (Config.unstatedRate stamp)))
    else giveSamples s i w rate (new.filter (fun x => !atOrAfter x.time c))

/-- DATA notice of a VIB stream: into the recent store, then to an open or closing window (R68). -/
def vibData (s : State) (t : Tid) (i : SlotId) (stamp : Nat) (rate : RateCode) (xs : List Int) : State :=
  let s1 := updVib s i (fun r => { r with recent := recentWith r.recent { stamp := stamp, rate := rate, samples := xs } })
  match windowAt s1 i with
  | none => s1
  | some w => dataToWindow s1 t i w stamp rate xs

/-- GAP notice of a VIB stream (R68). -/
def vibGap (s : State) (i : SlotId) : State :=
  abandonWindow .gap (updVib s i (fun r => { r with recent := [] })) i

/-- ENDED notice of a VIB stream (R68); at RESTART no VIB_TEST is raised (R85). -/
def vibEnded (s : State) (i : SlotId) (cause : EndCause) : State :=
  let s1 := updVib s i (fun r => { r with recent := [] })
  if cause = .restart then updVib s1 i (fun r => { r with window := none, testPending := false })
  else cancelTest .streamEnded (abandonWindow .streamEnded s1 i) i

/-! ## Notices of the Speed Tracker (R51, R72, R74) -/

/-- One revolution counted in an OPEN window; one that reaches its target becomes CLOSING, and closes at once where it
already holds samples of a frame stamped at or after the boundary (R72). -/
def countWindow (t : Tid) (b : Time) (s : State) (i : SlotId) (w : VibWindow) : State :=
  match w.closing with
  | some _ => s
  | none =>
    if w.revs + 1 < w.target then
      updVib s i (fun r => { r with window := some { w with revs := w.revs + 1 } })
    else
      let past := w.samples.any (fun x => atOrAfter (stampTime x.time.stamp) b)
      let w1 := { w with revs := w.revs + 1, closing := some b, samples := w.samples.filter (fun x => !atOrAfter x.time b) }
      match past, w.rate with
      | true, some rate => closeWindow s t i w1 b rate
      | _, _ => updVib s i (fun r => { r with window := some w1 })

/-- What a REVOLUTION does at one slot: counted in a window, or the opening check where the boundary is an opening
boundary, which a step boundary is not (R45, R70, R72). -/
def revolutionAt (t : Tid) (b : Time) (isStep : Bool) (s : State) (i : SlotId) : State :=
  match windowAt s i with
  | some w => countWindow t b s i w
  | none => if isStep then s else openingCheck t b s i

/-- REVOLUTION notice of a turbine (R51, R70, R72). Of records that it queues together at an IDLE engine R56 lets either be
taken first: that the lower slot's is queued and taken first is the model's choice (entry 17). -/
def vibRevolution (s : State) (t : Tid) (b : Time) (isStep : Bool) : State :=
  (vibSlots s t).foldl (revolutionAt t b isStep) s

/-- BOUNDARY notice of a turbine: an opening boundary that raises no window's count (R51, R70). -/
def vibBoundary (s : State) (t : Tid) (b : Time) : State := (vibSlots s t).foldl (openingCheck t b) s

/-- STEP notice (R47, R74). -/
def vibStep (s : State) (t : Tid) : State := (vibSlots s t).foldl (abandonWindow .speedStep) s

/-- SLIP notice (R48, R74). -/
def vibSlip (s : State) (t : Tid) : State := (vibSlots s t).foldl (abandonWindow .slip) s

/-- TRACKING LOST at one slot: the window abandoned, a pending test cancelled (R51, R74, R85). -/
def trackingLostAt (s : State) (i : SlotId) : State := cancelTest .trackingLost (abandonWindow .trackingLost s i) i

/-- TRACKING LOST notice (R51). -/
def vibTrackingLost (s : State) (t : Tid) : State := (vibSlots s t).foldl trackingLostAt s

/-! ## Other events at the Watch (R74, R85, R34) -/

/-- A blanking request passed to the Watch: automatic and test windows are abandoned (R34, R85). -/
def vibBlanking (s : State) (t : Tid) : State := (vibSlots s t).foldl (abandonWindow .blanking) s

/-- A blanking request: the timer is loaded with the blanking time in force, and the request is passed to the Watch
(R34, R36). -/
def requestBlanking (s : State) (t : Tid) : State :=
  vibBlanking
    { s with turbines := upd s.turbines t (fun r => { r with blanking := loadTimer s.active.settings.blankingTime }) } t

/-- A change of the operating state away from GENERATING (R28, R74). -/
def vibNotGenerating (s : State) (t : Tid) : State := (vibSlots s t).foldl (abandonAutomatic .notGenerating) s

/-- BEGIN SERVICE on a turbine with service OFF (R30, R74). -/
def vibServiceBegun (s : State) (t : Tid) : State := (vibSlots s t).foldl (abandonAutomatic .service) s

/-- END SERVICE at one slot: a test window abandoned, a pending test cancelled (R32, R85). -/
def serviceEndedAt (s : State) (i : SlotId) : State := cancelTest .serviceEnded (abandonTest .serviceEnded s i) i

/-- END SERVICE (R32, R85). -/
def vibServiceEnded (s : State) (t : Tid) : State := (vibSlots s t).foldl serviceEndedAt s

/-- A window series begins at one slot (R83). -/
def newSeries (s : State) (i : SlotId) : State :=
  match entryAt s i with
  | some e => updVib s i (fun r => { r with skip := (setOf s e).skip, post := 0 })
  | none => s

/-- A start of the turbine begins a new window series on its streams (R29, R83). -/
def vibStart (s : State) (t : Tid) : State := (vibSlots s t).foldl newSeries s

/-! ## Grades formed from stream grades (R81) -/

/-- Stream grade of a slot. -/
def streamGrade (s : State) (i : SlotId) : Grade :=
  match s.vib.recs.get i with
  | some r => r.grade
  | none => .unknown

/-- The slots of a turbine that name a band set. -/
def slotsNaming (s : State) (sl : List SlotId) (b : SetId) : List SlotId :=
  sl.filter (fun i => match entryAt s i with
    | some e => decide (e.bandSet = b.val)
    | none => false)

/-- A turbine's linked grade for a band set formed again, a change told to the Calendar (R81). -/
def formLinked (t : Tid) (sl : List SlotId) (s : State) (b : SetId) : State :=
  let new := worstGrade ((slotsNaming s sl b).map (streamGrade s))
  let old := (s.vib.linked.get t).get b
  if new = old then s
  else linkedChange { s with vib := { s.vib with linked := upd s.vib.linked t (fun l => put l b new) } } t b old new

/-- A turbine's vibration grade and linked grades formed again (R81). That changes of several linked grades are told in
ascending order of the band sets is the model's choice (entry 17). -/
def formGrades (s : State) (t : Tid) : State :=
  let sl := vibSlots s t
  let s1 := { s with vib := { s.vib with grades := put s.vib.grades t (worstGrade (sl.map (streamGrade s))) } }
  allSets.foldl (formLinked t sl) s1

/-! ## Creation, removal and reset of a stream's record (R66, R67) -/

/-- A band's state before any window (R67). -/
def BandState.fresh : BandState :=
  { grade := .unknown, exceed := 0, alarm := 0, fall := 0, latest := none, beyond := false }

/-- A stream's record at creation, for the set its entry names (R67). -/
def newVibRec (set : BandSet) : VibRec :=
  { window := none, testPending := false, lastTest := none, recent := [], bands := set.bands.map (fun _ => .fresh),
    grade := .unknown, meanSpeed := none, skip := set.skip, post := 0, queued := 0, graded := 0, discarded := 0,
    abandoned := Vector.replicate 12 0 }

/-- A set that names a stream's entry changed by a commit that leaves the slot: under COMMIT IMMEDIATE the window and the
pending test end; grades, runs, levels and summary counters start afresh (R66). R66 does not name the beyond-range flag:
that it becomes NO with the level it belongs to is the model's choice (entry 41). -/
def resetForSet (immediate : Bool) (s : State) (i : SlotId) : State :=
  let s1 := if immediate then cancelTest .commit (abandonWindow .commit s i) i else s
  match entryAt s1 i with
  | some e =>
    updVib s1 i (fun r => { r with bands := (setOf s1 e).bands.map (fun _ => .fresh), grade := .unknown,
                                   skip := (setOf s1 e).skip, post := 0 })
  | none => s1

/-! ## Band levels (R60, R76, R77) -/

/-- The span of a record in µs, from opening to closing boundary; 0 stands for one that is not positive, whose lines R60 does
not state (R60, R73; entries 14 and 40). -/
def spanUs (opening closing : Time) : Nat := (usDiff closing opening).toNat

/-- Number of spectrum lines above 0 Hz: line k lies at k × 1,000,000 / span Hz, below half the sample rate (R60). R60 also has
the lines add up to the whole mean square: that content at exactly half the sample rate lies in no line is the model's choice
(entry 12). -/
def lineCount (hz us : Nat) : Nat := (hz * us - 1) / 2000000

/-- Phases of the samples of a record at line `k`: the `n` samples fill the span evenly, so the line makes `k` turns over
them; each phase is in turns, over `n` (R60; entry 12). -/
def linePhases (k : Nat) (xs : List Sample) : List (Int × Int) :=
  (xs.zip (List.range xs.length)).map (fun x => (x.1.value, ((k * x.2 : Nat) : Int)))

/-- Phases of samples at a frequency, by their times from `start`: `mul` times the time, in turns over a denominator of the
caller's (R61). -/
def timePhases (mul : Int) (start : Time) (xs : List Sample) : List (Int × Int) :=
  xs.map (fun x => (x.value, mul * timeDiff x.time start))

/-- Sum of values, each times the cosine of its phase in turns over `den`. -/
def cosSum (xs : List (Int × Int)) (den : Nat) : Int := xs.foldl (fun acc x => acc + x.1 * cosTurn x.2 den) 0

/-- As `cosSum`, with the sine. -/
def sinSum (xs : List (Int × Int)) (den : Nat) : Int := xs.foldl (fun acc x => acc + x.1 * sinTurn x.2 den) 0

/-- The squared modulus of the transform of values at their phases, in units of `1 / trigUnit` squared. -/
def transformSquared (xs : List (Int × Int)) (den : Nat) : Nat :=
  (cosSum xs den * cosSum xs den + sinSum xs den * sinSum xs den).toNat

/-- What a mean square is divided by to give squared sample counts, for `n` samples. -/
def powerDen (n : Nat) : Nat := n * n * (trigUnit * trigUnit)

/-- Mean-square content of a record's samples at line `k`, 1 or above, times `powerDen`: twice the squared modulus of the
transform, once at half the rate of the samples, and nothing above it, so that over every `k` from 1 the values add up to the
mean square of the samples about their mean; which `k` are lines `lineCount` says (R60; entry 12). -/
def lineNum (r : VibRecord) (k : Nat) : Nat :=
  if 2 * k < r.samples.length then 2 * transformSquared (linePhases k r.samples) r.samples.length
  else if 2 * k = r.samples.length then transformSquared (linePhases k r.samples) r.samples.length
  else 0

/-- Whether line `k` lies in a band: at or above its lower edge's frequency and at or below its upper edge's (R76). -/
def lineInBand (b : Band) (meanSpeed us k : Nat) : Bool :=
  match b.kind with
  | .fixed => decide (b.lower * us ≤ k * 1000000) && decide (k * 1000000 ≤ b.upper * us)
  | .order =>
    decide (b.lower * meanSpeed * us ≤ k * 6000000000) && decide (k * 6000000000 ≤ b.upper * meanSpeed * us)

/-- The spectrum lines of a record that lie in a band (R60, R76). -/
def bandLines (b : Band) (meanSpeed hz us : Nat) : List Nat :=
  ((List.range (lineCount hz us)).map (fun k => k + 1)).filter (lineInBand b meanSpeed us)

/-- A band's level in micro-g rms: the root of the sum of its lines, times 2 to the scale code, to the nearest whole
(R76; entry 13); free where lines lie in the band and the window holds no sample (entry 36), and where the span is not positive,
so that R60 states no lines (entry 14). -/
def bandLevel (r : VibRecord) (scale : Nat) (b : Band) : Nat :=
  let us := spanUs r.opening r.closing
  let lines := bandLines b r.meanSpeed (rateHz r.rate) us
  if decide (us = 0) || (r.samples.isEmpty && !lines.isEmpty) then Config.unstatedLevel us b.lower b.upper
  else nearestSqrt ((lines.map (lineNum r)).sum * 4 ^ scale) (powerDen r.samples.length)

/-- Whether a band is beyond range: its upper edge's frequency is at or above half the sample rate (R77). -/
def beyondRange (b : Band) (meanSpeed hz : Nat) : Bool :=
  match b.kind with
  | .fixed => decide (hz ≤ 2 * b.upper)
  | .order => decide (6000 * hz ≤ 2 * b.upper * meanSpeed)

/-- The level a window reports for a band: 0 where it is beyond range (R76, R77). -/
def reportedLevel (r : VibRecord) (scale : Nat) (b : Band) : Nat :=
  if beyondRange b r.meanSpeed (rateHz r.rate) then 0 else bandLevel r scale b

/-! ## Grading (R78, R79) -/

/-- A run raised by 1, stopping at 15, or 0 (R78). -/
def runOn (held : Bool) (n : Nat) : Nat := if held then min (n + 1) 15 else 0

/-- The runs brought up to date, and an UNKNOWN band made GOOD (R78). -/
def withRuns (b : Band) (l : Nat) (x : BandState) : BandState :=
  { x with exceed := runOn (decide (b.alert < l)) x.exceed, alarm := runOn (decide (b.alarm < l)) x.alarm,
           grade := if x.grade = .unknown then .good else x.grade }

/-- The rise from GOOD to ALERT (R78). -/
def riseToAlert (p : Nat) (x : BandState) : BandState :=
  if x.grade = .good ∧ p ≤ x.exceed then { x with grade := .alert, fall := 0 } else x

/-- The rise from ALERT to ALARM (R78). -/
def riseToAlarm (p : Nat) (x : BandState) : BandState :=
  if x.grade = .alert ∧ p ≤ x.alarm then { x with grade := .alarm, fall := 0 } else x

/-- The lower level of a grade, which its fall is judged by (R79). -/
def lowerLevel (b : Band) (g : Grade) : Nat := if g = .alarm then b.alarm else b.alert

/-- One step down (R79). -/
def stepDown : Grade → Grade
  | .unknown => .unknown
  | .good => .good
  | .alert => .good
  | .alarm => .alert

/-- The fall of a band in a window in which no rise took place (R79). -/
def fallCheck (p : Nat) (b : Band) (l : Nat) (x : BandState) : BandState :=
  if x.grade = .alert ∨ x.grade = .alarm then
    if 8 * l < 7 * lowerLevel b x.grade then
      if p ≤ x.fall + 1 then { x with grade := stepDown x.grade, fall := 0 } else { x with fall := x.fall + 1 }
    else { x with fall := 0 }
  else x

/-- The band after the rises, given the band with its runs (R78). -/
def risen (p : Nat) (x : BandState) : BandState := riseToAlarm p (riseToAlert p x)

/-- A band graded from its level (R78, R79). -/
def gradeBand (p : Nat) (b : Band) (l : Nat) (x : BandState) : BandState :=
  let y := withRuns b l x
  if (risen p y).grade = y.grade then fallCheck p b l y else risen p y

/-- The changes of grade that a graded window makes, in order, less the change from UNKNOWN to GOOD (R82). -/
def gradeChanges (p : Nat) (b : Band) (l : Nat) (x : BandState) : List (Grade × Grade) :=
  let y := withRuns b l x
  let y1 := riseToAlert p y
  let y2 := risen p y
  if y2.grade = y.grade then
    (if (fallCheck p b l y).grade = y.grade then [] else [(y.grade, (fallCheck p b l y).grade)])
  else
    (if y1.grade = y.grade then [] else [(y.grade, y1.grade)]) ++ (if y2.grade = y1.grade then [] else [(y1.grade, y2.grade)])

/-- A finding about to be raised for a band: its kind and values. -/
abbrev BandFinding := FindingKind × List Word32

/-- The findings of a graded band: a VIB_GRADE for each change, then VIB_LEVEL in report mode LEVEL where the band holds
ALERT or ALARM (R82). -/
def bandFindings (set : BandSet) (b : Band) (l meanSpeed : Nat) (x : BandState) : List BandFinding :=
  (gradeChanges set.persistence b l x).map (fun c =>
    (.vibGrade, [vNat (gradeCode c.1), vNat (gradeCode c.2), vNat l, vNat b.alert, vNat b.alarm, vNat meanSpeed])) ++
  (let g := (gradeBand set.persistence b l x).grade
   if set.report = .level ∧ (g = .alert ∨ g = .alarm) then
     [(.vibLevel, [vNat (gradeCode g), vNat l, vNat b.alert, vNat b.alarm])]
   else [])

/-- Whether a band is frozen (R80). -/
def frozen (ice : IceState) (b : Band) : Bool := b.iceSensitive && iceFreezes ice

/-- One band of a graded window: beyond range, frozen, or graded (R76 to R80). -/
def judgeBand (set : BandSet) (ice : IceState) (meanSpeed hz : Nat) (b : Band) (l : Nat) (x : BandState) :
    BandState × List BandFinding :=
  if beyondRange b meanSpeed hz then ({ x with latest := some 0, beyond := true }, [])
  else if frozen ice b then ({ x with latest := some l, beyond := false }, [])
  else ({ gradeBand set.persistence b l x with latest := some l, beyond := false }, bandFindings set b l meanSpeed x)

/-- Every band of a graded window, in band order (R76 to R80). -/
def judgeBands (set : BandSet) (ice : IceState) (meanSpeed hz : Nat) :
    List Band → List Nat → List BandState → List (BandState × List BandFinding)
  | b :: bs, l :: ls, x :: xs => judgeBand set ice meanSpeed hz b l x :: judgeBands set ice meanSpeed hz bs ls xs
  | _, _, _ => []

/-- The findings of a window's bands raised (R82), `n` being the band number. R82 orders the findings of one band only: that
the bands follow one another in band order is the model's choice (entry 17). -/
def raiseBandFindings (i : SlotId) (turbine : Option Nat) : Nat → List (List BandFinding) → State → State
  | _, [], s => s
  | n, fs :: rest, s =>
    raiseBandFindings i turbine (n + 1) rest (fs.foldl (fun s f => raise s f.1 turbine (.slotBand i n) f.2) s)

/-- The summary counters after a graded window, and VIB_SUMMARY where the postscale count reaches N (R83). -/
def summaryStep (s : State) (i : SlotId) (set : BandSet) : State :=
  if set.postscale = 0 then s
  else
    match s.vib.recs.get i with
    | none => s
    | some r =>
      if 0 < r.skip then updVib s i (fun r => { r with skip := r.skip - 1 })
      else if r.post + 1 < set.postscale then updVib s i (fun r => { r with post := r.post + 1 })
      else
        raise (updVib s i (fun r => { r with post := 0 })) .vibSummary (slotTurbine s i) (.slot i)
          (r.bands.map (fun x => vNat (x.latest.getD 0)))

/-- Band states for the bands of a set as it stands, a band without one standing fresh (R67; entry 39). -/
def fitBands (n : Nat) (xs : List BandState) : List BandState := (List.range n).map (fun k => xs.getD k .fresh)

/-- A graded window of a stream, from the levels of its bands (R76 to R83). No rule orders its VIB_GRADE and VIB_LEVEL (R82)
against the ITEM_PULLED_IN that a change of a linked grade brings (R81, R145): that every band's findings are raised before the
grades are formed is the model's choice (entry 17). -/
def gradeWindow (s : State) (t : Tid) (i : SlotId) (set : BandSet) (meanSpeed hz : Nat) (levels : List Nat) : State :=
  match s.vib.recs.get i with
  | none => s
  | some r =>
    let judged := judgeBands set (s.ice.get t).state meanSpeed hz set.bands levels (fitBands set.bands.length r.bands)
    let s1 := setVib s i (some { r with graded := bump r.graded, meanSpeed := some meanSpeed,
                                        bands := judged.map (fun j => j.1),
                                        grade := worstGrade (judged.map (fun j => j.1.grade)) })
    summaryStep (formGrades (raiseBandFindings i (slotTurbine s i) 1 (judged.map (fun j => j.2)) s1) t) i set

/-- Every band state with the beyond-range flag a window gives its band (R77). -/
def flagBands (meanSpeed hz : Nat) (bs : List Band) (xs : List BandState) : List BandState :=
  (bs.zip xs).map (fun p => { p.2 with beyond := beyondRange p.1 meanSpeed hz })

/-- A completed test: COMPLETED, each band's beyond-range flag that of this window (R77), reported with its levels; no band
is graded, and latest levels, runs and the last mean speed stay (R85). -/
def testCompleted (s : State) (i : SlotId) (set : BandSet) (meanSpeed hz : Nat) (levels : List Nat) : State :=
  raise (updVib s i (fun r =>
      { r with lastTest := some (.completed, none),
               bands := flagBands meanSpeed hz set.bands (fitBands set.bands.length r.bands) }))
    .vibTest (slotTurbine s i) (.slot i) (levels.map vNat)

/-- A result of job VIB that passed the check at delivery (R76, R85). -/
def vibResult (s : State) (r : VibRecord) : State :=
  match entryAt s r.slot with
  | none => s
  | some e =>
    let set := setOf s e
    let levels := set.bands.map (reportedLevel r e.scale)
    if r.test then testCompleted s r.slot set r.meanSpeed (rateHz r.rate) levels
    else gradeWindow s r.turbine r.slot set r.meanSpeed (rateHz r.rate) levels

end Sys2Proof.Machine
end

