-- ==== Sys2Proof/Machine/AdviceUnit.lean ====
section
/-! DEFINITION. Machine/AdviceUnit.lean: the Advice Unit's computation and change of advice (R167, R168, R170), and the
discard of an icing block, which a change of advice makes (R118). -/

namespace Sys2Proof.Machine

/-- The current block of a turbine discarded: emptied, and counted under the cause where it held a report (R118). -/
def discardBlock (cause : BlockCause) (s : State) (t : Tid) : State :=
  { s with ice := upd s.ice t (fun r =>
      { r with blockCount := 0, blockSum := 0,
               discarded := if 0 < r.blockCount then upd r.discarded (blockCauseIndex cause) bump else r.discarded }) }

/-- The effective advice the present requests, service mode and advice mode give a turbine (R167). -/
def wantedAdvice (s : State) (t : Tid) : Advice :=
  if (s.turbines.get t).service = true ∨ s.advice.active = false then .none
  else if holdRequested s t then .hold
  else if curtailRequested s t then .curtail
  else .none

/-- The power limit of an advice (R167). -/
def limitFor (reduction : Nat) : Advice → Nat
  | .none => 100
  | .curtail => 100 - reduction
  | .hold => 0

/-- The state with `f` applied to a turbine's advice record. -/
def updAdvice (s : State) (t : Tid) (f : AdviceRec → AdviceRec) : State :=
  { s with advice := { s.advice with recs := upd s.advice.recs t f } }

/-- The curtailed gate at a change of advice: opened from NONE, closed to NONE (R136, R168). -/
def curtailedGate (s : State) (t : Tid) (old new : Advice) : State :=
  if old = .none ∧ new ≠ .none then setGate s t .curtailed true
  else if old ≠ .none ∧ new = .none then setGate s t .curtailed false
  else s

/-- The refresh timer that an advice loads: stopped for NONE (R168). -/
def refreshFor (s : State) (a : Advice) : Timer :=
  if a = .none then none else loadTimer (s.active.settings.refresh * 10)

/-- A change of advice (R168): stored; then the gate, the icing block, blanking, the frame, the refresh timer and
ADVICE_CHANGED, in this order. -/
def changeAdvice (s : State) (t : Tid) (a : Advice) (limit : Nat) : State :=
  let old := (s.advice.recs.get t).advice
  let s1 := updAdvice s t (fun r => { r with advice := a, limit := limit })
  let s2 := discardBlock .advice (curtailedGate s1 t old a) t
  let s3 := offerAdvice (requestBlanking s2 t) t
  let s4 := updAdvice s3 t (fun r => { r with refresh := refreshFor s3 a })
  raise s4 .adviceChanged (some (tnum t)) .none [vNat (adviceCode old), vNat (adviceCode a), vNat limit]

/-- A turbine's advice computed afresh; a change acts as R168 states (R167). -/
def computeAdvice (s : State) (t : Tid) : State :=
  let a := wantedAdvice s t
  let l := limitFor s.active.settings.reduction a
  if a = (s.advice.recs.get t).advice ∧ l = (s.advice.recs.get t).limit then s else changeAdvice s t a l

/-- Every turbine's advice computed afresh, in turbine number order (R167). -/
def computeAllAdvice (s : State) : State := allTurbines.foldl computeAdvice s

/-- A refresh: the frame is offered with the unchanged advice and the timer loaded again (R170). -/
def refreshAdvice (s : State) (t : Tid) : State :=
  let s1 := offerAdvice s t
  updAdvice s1 t (fun r => { r with refresh := loadTimer (s.active.settings.refresh * 10) })

end Sys2Proof.Machine
end

