-- ==== Sys2Proof/Machine/Grid.lean ====
section
/-! DEFINITION. Machine/Grid.lean: the Harmonic Watch (chapter 6): feeder windows, ratios, the Contributor List, the grid
state and the curtail requests. -/

namespace Sys2Proof.Machine

/-- Whether an entry is the reference: GRID_V phase A (R88). -/
def isReference (e : StreamEntry) : Bool := decide (e.role = .gridV) && decide (e.phase = .a)

/-- The state with the Harmonic Watch replaced. -/
def setHarm (s : State) (h : HarmWatch) : State := { s with harm := h }

/-- The state with the grid record replaced. -/
def setGrid (s : State) (g : GridRec) : State := { s with harm := { s.harm with grid := g } }

/-! ## Window former, detector and collecting stores (R88 to R94) -/

/-- The samples a collecting store may hold (R89). -/
def collectCap : Nat := 16384

/-- A collecting store with a frame's samples added: emptied first by another rate code, the oldest pushed out (R89). Which
samples are the oldest where a sender's stamps step back, R89 does not say: those that arrived first, by the model's choice
(entry 57). -/
def collectWith (c : Collect) (rate : RateCode) (new : List Sample) : Collect :=
  let all := (if c.rate = some rate then c.samples else []) ++ new
  { rate := some rate, samples := all.drop (all.length - collectCap) }

/-- Every collecting store without its samples older than a crossing (R91, R92). -/
def dropOlder (h : HarmWatch) (b : Time) : HarmWatch :=
  { h with collect := mapTab (fun c => c.map (fun c => { c with samples := c.samples.filter (fun x => atOrAfter x.time b) })) h.collect }

/-- The detector disarmed, its preceding sample forgotten (R90). -/
def disarmed (d : Detector) : Detector := { d with armed := false, prev := none }

/-- An open window abandoned under a cause, the former then as given; without a window only the former is set (R93). -/
def abandonHarm (h : HarmWatch) (cause : GridAbandon) (after : Former) : HarmWatch :=
  match h.former with
  | .opened _ => { h with former := after, abandoned := upd h.abandoned (gridAbandonIndex cause) bump }
  | .suspended => h
  | .waiting => h

/-- LIVE notice of a GRID_V, GRID_I or CONV_I stream (R88, R89). -/
def harmLive (s : State) (i : SlotId) (e : StreamEntry) : State :=
  if isReference e then
    match s.harm.former with
    | .suspended => setHarm s { s.harm with former := .waiting }
    | .waiting => s
    | .opened _ => s
  else setHarm s { s.harm with collect := put s.harm.collect i (some { rate := none, samples := [] }) }

/-- GAP notice (R89, R90, R93). -/
def harmGap (s : State) (i : SlotId) (e : StreamEntry) : State :=
  if isReference e then
    let h := abandonHarm s.harm .gap .waiting
    setHarm s { h with detector := disarmed h.detector }
  else
    setHarm s { s.harm with collect := upd s.harm.collect i (fun c => c.map (fun _ => { rate := none, samples := [] })) }

/-- ENDED notice (R88, R89, R90, R93). -/
def harmEnded (s : State) (i : SlotId) (e : StreamEntry) : State :=
  if isReference e then
    let h := abandonHarm s.harm .streamEnded .suspended
    setHarm s { h with former := .suspended, detector := { armed := false, prev := none, rate := none, h := 0 } }
  else setHarm s { s.harm with collect := put s.harm.collect i none }

/-- The rising crossing that a sample makes, with its preceding sample: the armed detector finds a sample at or above 0
after one below 0 (R90). -/
def crossingAt (d : Detector) (x : Sample) : Option Sample :=
  match d.prev with
  | some p => if d.armed = true ∧ p.value < 0 ∧ 0 ≤ x.value then some p else none
  | none => none

/-- The detector after a sample: a crossing disarms it, a sample at or below −h arms it (R90). -/
def detectorAfter (d : Detector) (x : Sample) : Detector :=
  { d with prev := some x,
           armed := match crossingAt d x with
             | some _ => false
             | none => d.armed || decide (x.value ≤ -(d.h : Int)) }

/-- The time of a crossing between a preceding sample below 0 and a sample at or above 0, rounded down to a whole µs
(R90). -/
def crossingTime (rate : RateCode) (p x : Sample) : Time :=
  let fall := (-p.value).toNat
  let rise := (x.value - p.value).toNat
  { stamp := p.time.stamp, sub := (p.time.sub * rise + rateSpacing rate * fall) / (16 * rise) * 16 }

/-- A harmonic window opening at a crossing: W and the nominal frequency are taken from the active Part Settings (R91). -/
def harmWindowAt (s : State) (b : Time) (rate : RateCode) (xs : List Sample) : HarmWindow :=
  { opening := b, target := s.active.settings.cycles, nominal := s.active.settings.nominal, cycles := 0, rate := rate,
    samples := xs.filter (fun x => atOrAfter x.time b) }

/-- A window opened at a crossing from the samples at hand, unless a waiting commit holds the reference slot (R91, R94):
then the former waits. Of samples that arrived earlier with a later time it takes those among `xs` only: a window opened from
WAITING takes none but the two around the crossing, by the model's choice (entry 52). -/
def openHarm (s : State) (i : SlotId) (b : Time) (rate : RateCode) (xs : List Sample) : State :=
  if commitHolds s i then setHarm s { s.harm with former := .waiting }
  else setHarm s { dropOlder s.harm b with former := .opened (harmWindowAt s b rate xs) }

/-- Whether the span of an open window has passed the longest whose mean fundamental lies within 5 per cent of nominal
(R91). -/
def spanPassed (w : HarmWindow) (x : Sample) : Bool :=
  decide ((w.target : Int) * 20000000 * 16 < timeDiff x.time w.opening * (19 * (w.nominal : Int)))

/-- The mean fundamental in 0.001 Hz of a span of `us` µs (R92). -/
def meanFundamental (target us : Nat) : Nat := target * 1000000000 / us

/-- Whether a closed span's mean fundamental is within 5 per cent of nominal (R92); a span that is not positive is not
(entry 22). -/
def frequencyKept (w : HarmWindow) (us : Int) : Bool :=
  decide (0 < us) &&
  decide (100 * ((meanFundamental w.target us.toNat : Int) - (w.nominal : Int) * 1000).natAbs ≤ 5 * (w.nominal * 1000))

/-- Samples of a store inside a window (R92). -/
def samplesInside (c : Collect) (b e : Time) : List Sample :=
  c.samples.filter (fun x => atOrAfter x.time b && !atOrAfter x.time e)

/-- Whether a store covers a window of `us` µs: at least nine tenths of the expected samples (R92). -/
def covers (c : Collect) (us : Nat) (b e : Time) : Bool :=
  match c.rate with
  | some rate => decide (9 * (us * rateHz rate / 1000000) ≤ 10 * (samplesInside c b e).length)
  | none => false

/-- The secondary stream a covering store gives a record (R52, R92). -/
def secondaryOf (s : State) (i : SlotId) (c : Collect) (b e : Time) : SecStream :=
  match entryAt s i with
  | some en =>
    { slot := i, inst := (s.streams.slots.get i).inst, role := en.role, phase := en.phase,
      turbine := if en.role = .convI then turbineOf en.source else none, rate := c.rate.getD .r1600,
      samples := samplesInside c b e }
  | none =>
    { slot := i, inst := (s.streams.slots.get i).inst, role := .plain, phase := .a, turbine := none,
      rate := c.rate.getD .r1600, samples := samplesInside c b e }

/-- The slots that have a collecting store. -/
def collectingSlots (s : State) : List SlotId := allSlots.filter (fun i => (s.harm.collect.get i).isSome)

/-- Whether a slot's store covers a window. -/
def slotCovers (s : State) (us : Nat) (b e : Time) (i : SlotId) : Bool :=
  match s.harm.collect.get i with
  | some c => covers c us b e
  | none => false

/-- The secondary streams admitted to a window (R92). -/
def admitted (s : State) (us : Nat) (b e : Time) : List SecStream :=
  ((collectingSlots s).filter (slotCovers s us b e)).map (fun i =>
    secondaryOf s i ((s.harm.collect.get i).getD { rate := none, samples := [] }) b e)

/-- The W-th crossing found: the window closes, or is abandoned under GRID_FREQ, and the next opens at the crossing
(R92, R93, R94). `held` are the reference samples at hand. -/
def closeHarm (s : State) (i : SlotId) (w : HarmWindow) (c : Time) (held : List Sample) : State :=
  let us := usDiff c w.opening
  if frequencyKept w us then
    let secs := admitted s us.toNat w.opening c
    let record : HarmRecord :=
      { slot := i, inst := (s.streams.slots.get i).inst, secondaries := secs, gen := s.active.limitGen,
        opening := w.opening, closing := c, meanFund := meanFundamental w.target us.toNat, rate := w.rate,
        samples := held.filter (fun x => !atOrAfter x.time c) }
    let s1 := setHarm s { s.harm with former := .waiting, queued := bump s.harm.queued,
                                      omissions := bumpBy s.harm.omissions ((collectingSlots s).length - secs.length) }
    let s2 := queueHarm s1 record
    openHarm (setHarm s2 (dropOlder s2.harm c)) i c w.rate held
  else
    openHarm (setHarm s (abandonHarm s.harm .gridFreq .waiting)) i c w.rate held

/-- A reference sample taken by an open window without closing it (R91): that it joins as it arrives, also with a time before the
opening crossing, is the model's choice (entry 52). R91 bounds the samples of a window by its span; where stamps that repeat or step
back keep the span short while samples come, no rule holds the window to the 16,384 samples of a record (R52): that it takes on
every sample is the model's choice (entry 62). A sample that gives a crossing before the W-th and
takes the span past its limit abandons the window, and the next opens at a later crossing; R91 does not say whether that
crossing opens it, and that it does not is the model's choice (entry 46). -/
def extendHarm (s : State) (w : HarmWindow) (x : Sample) : State :=
  if spanPassed w x then setHarm s (abandonHarm s.harm .gridFreq .waiting)
  else setHarm s { s.harm with former := .opened { w with samples := w.samples ++ [x] } }

/-- One reference sample: the detector, then the window former (R90, R91, R92). A crossing that opens a window from WAITING
gives it the sample and the one before it, as their times allow, and no earlier arrival (entry 52). -/
def refSample (i : SlotId) (rate : RateCode) (s : State) (x : Sample) : State :=
  let d := s.harm.detector
  let s1 := setHarm s { s.harm with detector := detectorAfter d x }
  match crossingAt d x, s1.harm.former with
  | some p, .waiting => openHarm s1 i (crossingTime rate p x) rate [p, x]
  | some p, .opened w =>
    if w.cycles + 1 < w.target then extendHarm s1 { w with cycles := w.cycles + 1 } x
    else closeHarm s1 i w (crossingTime rate p x) (w.samples ++ [x])
  | none, .opened w => extendHarm s1 w x
  | none, .waiting => s1
  | _, .suspended => s1

/-- What a DATA notice's rate code does to the former and the detector of the reference (R90, R93). -/
def refRate (h : HarmWatch) (rate : RateCode) : HarmWatch :=
  let h1 :=
    match h.former with
    | .opened w => if w.rate = rate then h else abandonHarm h .rateChange .waiting
    | .suspended => h
    | .waiting => h
  if h1.detector.rate = some rate then h1
  else { h1 with detector := { disarmed h1.detector with rate := some rate } }

/-- DATA notice of a GRID_V, GRID_I or CONV_I stream (R89 to R93). Where stamps make the sample times of frames overlap or step
back, R90's sample-time order and the order of arrival (section 6.2) differ: that reference samples are taken as they arrive is
the model's choice (entry 52). -/
def harmData (s : State) (i : SlotId) (e : StreamEntry) (stamp : Nat) (rate : RateCode) (xs : List Int) : State :=
  if isReference e then
    (timed stamp rate xs).foldl (refSample i rate) (setHarm s (refRate s.harm rate))
  else
    setHarm s { s.harm with collect := upd s.harm.collect i (fun c => c.map (fun c => collectWith c rate (timed stamp rate xs))) }

/-! ## Curtail requests (R102, R103, R106) -/

/-- A turbine withdrawn from the request list, the Advice Unit told (R106). -/
def withdraw (s : State) (t : Tid) : State :=
  if t ∈ s.harm.grid.requests then
    computeAdvice (setGrid s { s.harm.grid with requests := s.harm.grid.requests.filter (fun x => x ≠ t) }) t
  else s

/-- A turbine requested: it joins the end of the request list, the Advice Unit told (R102, R103). -/
def requestCurtail (s : State) (t : Tid) : State :=
  computeAdvice (setGrid s { s.harm.grid with requests := s.harm.grid.requests ++ [t] }) t

/-- Whether a turbine may be chosen: present, not in service, not under an ice hold request, not in the request list
(R102, R103). -/
def candidate (s : State) (t : Tid) : Bool :=
  (s.turbines.get t).present && !(s.turbines.get t).service && !holdRequested s t && !curtailRequested s t

/-- The first place of the present Contributor List that may be chosen (R102, R103). -/
def selectPlace (s : State) : Option Tid := (s.harm.contributors.find? (fun p => candidate s p.turbine)).map (fun p => p.turbine)

/-- The worst order as a secondary subject (R159). -/
def worstSubject (g : GridRec) : Subject :=
  match g.worst with
  | some h => .order h
  | none => .none

/-- Blanking requested for every present turbine (R102); in turbine number order by the model's choice (entry 17). -/
def blankPresent (s : State) : State :=
  (allTurbines.filter (fun t => (s.turbines.get t).present)).foldl requestBlanking s

/-- Entry into CONDITION (R102): GRID_CONDITION, blanking for every present turbine, and the first request. -/
def enterCondition (s : State) : State :=
  let sel := selectPlace s
  let g := { s.harm.grid with state := .condition, escalation := 0, armed := false }
  let s1 := raise (setGrid s g) .gridCondition (some 0) (worstSubject g)
    [vOpt g.worstRatio, vOpt g.thdV, vOpt g.thdI, vOpt g.onset, vNat g.exceedRun, vOpt (sel.map tnum)]
  let s2 := blankPresent s1
  match sel with
  | some t => requestCurtail s2 t
  | none => s2

/-- One escalation tried (R103). -/
def escalate (s : State) : State :=
  let s1 := setGrid s { s.harm.grid with escalation := 0 }
  if s1.harm.grid.requests.length < s1.active.settings.cmax then
    match selectPlace s1 with
    | some t =>
      let s2 := requestCurtail s1 t
      raise s2 .gridEscalated (some 0) (worstSubject s2.harm.grid)
        [vNat (tnum t), vNat s2.harm.grid.requests.length, vOpt s2.harm.grid.worstRatio, vOpt s2.harm.grid.onset]
    | none => s1
  else s1

/-- An exceeding window in CONDITION (R103). -/
def exceedInCondition (s : State) : State :=
  let n := min (s.harm.grid.escalation + 1) 255
  if s.active.settings.escalation ≤ n then escalate s else setGrid s { s.harm.grid with escalation := n }

/-- Cause of a release (R104, R194): CLEAN_RUN 0, CLEAR_GRID 1. -/
inductive ReleaseCause where
  | cleanRun
  | clearGrid
  deriving DecidableEq, Repr

/-- Code of a release cause (R194). -/
def releaseCode : ReleaseCause → Nat
  | .cleanRun => 0
  | .clearGrid => 1

/-- The release of the grid (R104): NORMAL, every request withdrawn in list order, GRID_RELEASED. -/
def releaseGrid (s : State) (cause : ReleaseCause) : State :=
  let g := s.harm.grid
  let s1 := setGrid s { g with state := .normal, onset := none, escalation := 0, armed := false }
  raise (g.requests.foldl withdraw s1) .gridReleased (some 0) .none
    [vNat (releaseCode cause), vNat g.requests.length, vOpt g.onset]

/-- A clean window in CONDITION (R104). -/
def cleanInCondition (s : State) : State :=
  if s.harm.grid.armed then releaseGrid s .clearGrid
  else if s.active.settings.response = .following ∧ s.active.settings.release ≤ s.harm.grid.cleanRun then
    releaseGrid s .cleanRun
  else s

/-- The runs brought up to date by a verdict (R101). -/
def withVerdictRuns (g : GridRec) : Verdict → GridRec
  | .exceeding => { g with exceedRun := min (g.exceedRun + 1) 255, cleanRun := 0 }
  | .clean => { g with cleanRun := min (g.cleanRun + 1) 255, exceedRun := 0 }

/-- The grid state brought up to date by an analysed window whose open stamp is `openMs` (R101 to R104). -/
def gridStep (s : State) (v : Verdict) (openMs : Nat) : State :=
  let g := withVerdictRuns s.harm.grid v
  let s1 := setGrid s g
  match g.state, v with
  | .normal, .exceeding =>
    let s2 := setGrid s { g with onset := some openMs, state := .exceeding }
    if s.active.settings.gridPersist ≤ g.exceedRun then enterCondition s2 else s2
  | .normal, .clean => s1
  | .exceeding, .exceeding => if s.active.settings.gridPersist ≤ g.exceedRun then enterCondition s1 else s1
  | .exceeding, .clean => setGrid s { g with state := .normal, onset := none }
  | .condition, .exceeding => exceedInCondition s1
  | .condition, .clean => cleanInCondition s1

/-! ## Magnitudes and ratios (R61, R97) -/

/-- The magnitudes the engine yields for one stream of a result: for order h at place h − 1, the mean square times
`den`, or none where the order is absent (R61; entry 12). -/
structure StreamMags where
  role    : Role
  phase   : Phase
  turbine : Option Tid
  scale   : Nat
  den     : Nat
  nums    : List (Option Nat)
  deriving DecidableEq, Repr

/-- Whether an order is present in a stream: its frequency is below 0.45 times the sample rate (R61). -/
def orderPresent (meanFund hz h : Nat) : Bool := decide (h * meanFund * 100 < 45000 * hz)

/-- The orders a result covers: the fundamental and 2 to 40 (R61). -/
def resultOrders : List Nat := (List.range 40).map (fun k => k + 1)

/-- The mean square of order `h` in a stream's samples, times `powerDen`, where the order is present: twice the squared
modulus of the samples' transform at `h` times the mean fundamental, by the samples' times (R61; entry 12). -/
def orderNum (meanFund : Nat) (rate : RateCode) (opening : Time) (xs : List Sample) (h : Nat) : Option Nat :=
  if orderPresent meanFund (rateHz rate) h then
    some (2 * transformSquared (timePhases ((h * meanFund : Nat) : Int) opening xs) 16000000000)
  else none

/-- Scale code of the entry in a slot. -/
def scaleAt (s : State) (i : SlotId) : Nat :=
  match entryAt s i with
  | some e => e.scale
  | none => 0

/-- The magnitudes of the reference (R61). -/
def primaryMags (s : State) (r : HarmRecord) : StreamMags :=
  { role := .gridV, phase := .a, turbine := none, scale := scaleAt s r.slot, den := powerDen r.samples.length,
    nums := resultOrders.map (orderNum r.meanFund r.rate r.opening r.samples) }

/-- The magnitudes of a secondary stream (R61). -/
def secondaryMags (s : State) (r : HarmRecord) (x : SecStream) : StreamMags :=
  { role := x.role, phase := x.phase, turbine := x.turbine, scale := scaleAt s x.slot, den := powerDen x.samples.length,
    nums := resultOrders.map (orderNum r.meanFund x.rate r.opening x.samples) }

/-- The mean square of order `h`, where present. -/
def magAt (m : StreamMags) (h : Nat) : Option Nat := m.nums.getD (h - 1) none

/-- The fundamental's mean square. -/
def fundOf (m : StreamMags) : Nat := (magAt m 1).getD 0

/-- Whether a stream is a feeder stream. -/
def isFeeder (m : StreamMags) : Bool := decide (m.role = .gridV) || decide (m.role = .gridI)

/-- The limit of a pair for a stream's kind (R95). -/
def limitForRole (p : LimitPair) (role : Role) : Nat := if role = .gridV then p.voltage else p.current

/-- The pair of limits of order `h`, 2 to 40 (R95). -/
def limitPairAt (l : Limits) (h : Nat) : LimitPair :=
  match placeOf 39 (h - 2) with
  | some i => l.orders.get i
  | none => { voltage := 0, current := 0 }

/-- A ratio in thousandths, rounded down and held at 65,535, from the mean squares of the quantity and the fundamental
and the limit (R97). -/
def ratioOf (num fund limit : Nat) : Nat := min (isqrt (num * 100000000000000 / (fund * (limit * limit)))) 65535

/-- Whether a quantity exceeds its limit: Mh × 10,000 is greater than L × M1 (R97). -/
def exceedsLimit (num fund limit : Nat) : Bool := decide (limit * limit * fund < num * 100000000)

/-- Whether a quantity is above one half of its limit: 2 × Mh × 10,000 is greater than L × M1 (R108). -/
def aboveHalf (num fund limit : Nat) : Bool := decide (limit * limit * fund < 4 * (num * 100000000))

/-- One comparison that gives a ratio: ratio, whether it exceeds, whether it is above one half. -/
structure Compared where
  ratio   : Nat
  exceeds : Bool
  half    : Bool
  deriving DecidableEq, Repr

/-- A comparison with a limit, where the limit and the fundamental are above 0 (R97). -/
def compareTo (num fund limit : Nat) : Option Compared :=
  if 0 < limit ∧ 0 < fund then
    some { ratio := ratioOf num fund limit, exceeds := exceedsLimit num fund limit, half := aboveHalf num fund limit }
  else none

/-- The comparison of order `h` on one feeder stream (R97). -/
def compareOrder (l : Limits) (h : Nat) (m : StreamMags) : Option Compared :=
  match magAt m h with
  | some num => compareTo num (fundOf m) (limitForRole (limitPairAt l h) m.role)
  | none => none

/-- The sum of the mean squares of the orders 2 to 40 present in a stream (R97). -/
def distortionNum (m : StreamMags) : Nat := ((m.nums.drop 1).map (fun n => n.getD 0)).sum

/-- The comparison of a feeder stream's total distortion (R97). -/
def compareThd (l : Limits) (m : StreamMags) : Option Compared :=
  compareTo (distortionNum m) (fundOf m) (limitForRole l.thd m.role)

/-- Two comparisons of one quantity on two streams taken together: the highest ratio, and whether either exceeds. -/
def joinCompared (a b : Compared) : Compared :=
  { ratio := max a.ratio b.ratio, exceeds := a.exceeds || b.exceeds, half := a.half || b.half }

/-- The highest over streams, none where no stream gives a ratio (R97). -/
def bestOf : List (Option Compared) → Option Compared
  | [] => none
  | none :: rest => bestOf rest
  | some c :: rest =>
    match bestOf rest with
    | some d => some (joinCompared c d)
    | none => some c

/-- The orders 2 to 40 that have a window ratio, in ascending order, each with its comparison (R97). -/
def windowRatios (l : Limits) (ms : List StreamMags) : List (Nat × Compared) :=
  ((List.range 39).map (fun k => k + 2)).filterMap (fun h =>
    (bestOf ((ms.filter isFeeder).map (compareOrder l h))).map (fun c => (h, c)))

/-- The order with the highest window ratio, the lower order where two are equal (R97; entry 31). -/
def worstOrder : List (Nat × Compared) → Option (Nat × Compared)
  | [] => none
  | p :: rest =>
    match worstOrder rest with
    | some q => if p.2.ratio < q.2.ratio then some q else some p
    | none => some p

/-- The THD comparison of one kind of stream (R97). -/
def thdOf (l : Limits) (ms : List StreamMags) (role : Role) : Option Compared :=
  bestOf ((ms.filter (fun m => decide (m.role = role))).map (compareThd l))

/-- Whether a comparison exceeds. -/
def exceeded (c : Option Compared) : Bool :=
  match c with
  | some c => c.exceeds
  | none => false

/-- The verdict of a window (R97). -/
def verdictOf (l : Limits) (ms : List StreamMags) : Verdict :=
  if (windowRatios l ms).any (fun p => p.2.exceeds) || exceeded (thdOf l ms .gridV) || exceeded (thdOf l ms .gridI)
  then .exceeding else .clean

/-! ## The result of a window (R98, R99, R108) -/

/-- Place of a feeder stream among the six fundamentals. -/
def feederPlace (role : Role) (phase : Phase) : Fin 6 :=
  match role, phase with
  | .gridI, .a => 3
  | .gridI, .b => 4
  | .gridI, .c => 5
  | _, .a => 0
  | _, .b => 1
  | _, .c => 2

/-- A magnitude in the unit of its stream: counts times 2 to the scale code, to the nearest whole (R98, R99). -/
def scaledMag (m : StreamMags) (num : Nat) : Nat := nearestSqrt (num * 4 ^ m.scale) m.den

/-- The fundamental magnitude of each feeder stream in a result (R98). R98 does not say what becomes of an earlier value of a
feeder stream that is not in the result: that it becomes none is the model's choice (entry 49). -/
def feederFundamentals (ms : List StreamMags) : Tab (Option Nat) 6 :=
  (ms.filter isFeeder).foldl (fun t m => put t (feederPlace m.role m.phase) ((magAt m 1).map (scaledMag m))) (Vector.replicate 6 none)

/-- The hysteresis that a result sets: 2 per cent of √2 times the reference's fundamental, rounded down (R90, R98). -/
def hysteresisOf (m : StreamMags) : Nat := isqrt (8 * fundOf m / (10000 * m.den))

/-- The place a stream gives its turbine in the Contributor List (R99). -/
def placeFor (s : State) (worst : Nat) (m : StreamMags) : Option Place :=
  if m.role = .convI then
    match m.turbine, magAt m worst with
    | some t, some num => if (s.turbines.get t).present then some { turbine := t, current := scaledMag m num } else none
    | _, _ => none
  else none

/-- A place put into a list ordered by current, largest first, then by turbine number (R99). -/
def insertPlace (p : Place) : List Place → List Place
  | [] => [p]
  | q :: qs => if q.current < p.current ∨ (q.current = p.current ∧ p.turbine < q.turbine) then p :: q :: qs else q :: insertPlace p qs

/-- The Contributor List of a result; empty where the window has no worst order (R99). -/
def contributorsOf (s : State) (ms : List StreamMags) (worst : Option Nat) : List Place :=
  match worst with
  | some h => (ms.filterMap (placeFor s h)).foldl (fun acc p => insertPlace p acc) []
  | none => []

/-- An order put among orders by ratio, highest first, the lower order first where two are equal (R108). -/
def insertRatio (p : Nat × Compared) : List (Nat × Compared) → List (Nat × Compared)
  | [] => [p]
  | q :: qs => if q.2.ratio < p.2.ratio ∨ (q.2.ratio = p.2.ratio ∧ p.1 < q.1) then p :: q :: qs else q :: insertRatio p qs

/-- The values of GRID_SUMMARY: up to six pairs of an order above one half and its ratio (R108). -/
def summaryValues (rs : List (Nat × Compared)) : List Word32 :=
  ((((rs.filter (fun p => p.2.half)).foldl (fun acc p => insertRatio p acc) []).take 6).map (fun p => [vNat p.1, vNat p.2.ratio])).flatten

/-- The count toward the summary, and GRID_SUMMARY where it reaches or passes the postscale (R108). -/
def gridSummaryStep (s : State) (rs : List (Nat × Compared)) : State :=
  let n := s.active.settings.gridPostscale
  if n = 0 then s
  else if s.harm.summary + 1 < n then setHarm s { s.harm with summary := s.harm.summary + 1 }
  else raise (setHarm s { s.harm with summary := 0 }) .gridSummary (some 0) .none (summaryValues rs)

/-- The grid record and the counts with a result stored (R98). -/
def storeResult (h : HarmWatch) (l : Limits) (ms : List StreamMags) (primary : StreamMags) (meanFund : Nat) : HarmWatch :=
  let worst := worstOrder (windowRatios l ms)
  let v := verdictOf l ms
  { h with
    grid := { h.grid with verdict := some v, worst := worst.map (fun p => p.1), worstRatio := worst.map (fun p => p.2.ratio),
                          thdV := (thdOf l ms .gridV).map (fun c => c.ratio), thdI := (thdOf l ms .gridI).map (fun c => c.ratio),
                          meanFund := some meanFund, fundamentals := feederFundamentals ms },
    detector := { h.detector with h := hysteresisOf primary },
    analysed := bump h.analysed,
    exceedings := if v = .exceeding then bump h.exceedings else h.exceedings }

/-- A result of job HARM used by the Watch, from the magnitudes of its streams, the reference first (R98): stored, then
the Contributor List, the grid state and the summary, in this order. -/
def useMagnitudes (s : State) (primary : StreamMags) (rest : List StreamMags) (meanFund openMs : Nat) : State :=
  let ms := primary :: rest
  let l := s.active.limits
  let h1 := storeResult s.harm l ms primary meanFund
  let s1 := setHarm s { h1 with contributors := contributorsOf s ms h1.grid.worst }
  gridSummaryStep (gridStep s1 (verdictOf l ms) openMs) (windowRatios l ms)

/-- A result of job HARM that passed the check at delivery; streams whose slot has changed are left out and counted
(R61, R62, R97). -/
def harmResult (s : State) (r : HarmRecord) : State :=
  let s1 := { s with engine := { s.engine with omitted := bumpBy s.engine.omitted (struckCount s r) } }
  useMagnitudes s1 (primaryMags s r) ((keptSecondaries s r).map (secondaryMags s r)) r.meanFund (msOf r.opening)

/-! ## Commits (R98, R107) -/

/-- A commit that changes the limits (R107). -/
def limitsChanged (s : State) : State :=
  setGrid s { s.harm.grid with exceedRun := 0, cleanRun := 0, escalation := 0, verdict := none, worst := none,
                               worstRatio := none, thdV := none, thdI := none }

/-- The most recently added turbines withdrawn, one by one, until the list holds Cmax (R107). -/
def trimRequests (s : State) : State :=
  (s.harm.grid.requests.drop s.active.settings.cmax).reverse.foldl withdraw s

end Sys2Proof.Machine
end

