-- ==== Sys2Proof/Machine/Icing.lean ====
section
/-! DEFINITION. Machine/Icing.lean: the Blade Icing Watch (chapter 7): reports, blocks, evidence, the ice state, the thaw
and the hold request. -/

namespace Sys2Proof.Machine

/-- One operating report: rotor state, power, wind and ambient temperature (R25, R114). -/
structure Report where
  rotor : OperState
  power : Int
  wind  : Nat
  temp  : Int
  deriving DecidableEq, Repr

/-- The state with `f` applied to a turbine's ice record. -/
def updIce (s : State) (t : Tid) (f : IceRec → IceRec) : State := { s with ice := upd s.ice t f }

/-! ## Qualifying reports (R26, R115, R116) -/

/-- Whether a power is plausible: from minus one quarter to five quarters of rated power, the bounds rounded toward zero
(R26). -/
def plausible (rated : Nat) (power : Int) : Bool :=
  decide (-((rated / 4 : Nat) : Int) ≤ power) && decide (power ≤ ((5 * rated / 4 : Nat) : Int))

/-- The bin of a wind in 0.1 m/s, as its place in the curve: the nearest whole m/s from 3 to 27, a half being rounded up
(R115). -/
def windBin (wind : Nat) : Option (Fin 25) :=
  if (wind + 5) / 10 < 3 then none else placeOf 25 ((wind + 5) / 10 - 3)

/-- The expected power of a class at a wind, where the bin is used (R110, R115). -/
def expectedPower (s : State) (cls wind : Nat) : Option Nat :=
  match placeOf 4 cls, windBin wind with
  | some c, some b => if (s.active.curves.get c).get b = 0 then none else some ((s.active.curves.get c).get b)
  | _, _ => none

/-- The deficit of a power against the expected power, in 0.1 % (R116). -/
def deficit (expected : Nat) (power : Int) : Nat := min (((expected : Int) - power).toNat * 1000 / expected) 1000

/-- Whether the temperature of a report passes the gate; in THAWING it is not checked (R115). -/
def gatePasses (s : State) (st : IceState) (temp : Int) : Bool :=
  decide (st = .thawing) || decide (temp ≤ s.active.settings.tempGate)

/-- The deficit of a report that qualifies, none where it does not (R115, R116). -/
def qualifies (s : State) (t : Tid) (p : Report) : Option Nat :=
  let r := s.turbines.get t
  if p.rotor = .generating ∧ (s.advice.recs.get t).advice = .none ∧ r.service = false ∧ plausible r.rated p.power = true ∧
      gatePasses s (s.ice.get t).state p.temp = true then
    (expectedPower s r.cls p.wind).map (fun e => deficit e p.power)
  else none

/-! ## The ice state and what is told of it (R124, R127) -/

/-- The ice counter's gate at a change of ice state: opened on entry into the pair ICED and THAWING, closed on leaving it
(R127, R136). -/
def iceGate (s : State) (t : Tid) (old new : IceState) : State :=
  if iceFreezes old = iceFreezes new then s else setGate s t .ice (iceFreezes new)

/-- The beginning or end of a turbine's hold request told: the Advice Unit recomputes, and at a beginning the Harmonic
Watch withdraws any curtail request (R106, R124). `before` is whether hold was requested. -/
def tellHold (before : Bool) (s : State) (t : Tid) : State :=
  if before = holdRequested s t then s
  else if holdRequested s t then withdraw (computeAdvice s t) t
  else computeAdvice s t

/-- The ice record written, with the gate acting on a change of state (R127). -/
def writeIce (s : State) (t : Tid) (r : IceRec) : State :=
  iceGate { s with ice := put s.ice t r } t (s.ice.get t).state r.state

/-- A transition of a turbine's ice record: the record written, the findings raised in order, then the hold request told
(R120, R124, R127). -/
def iceTransition (s : State) (t : Tid) (r : IceRec) (findings : List (FindingKind × List Word32)) : State :=
  let s1 := findings.foldl (fun x f => raise x f.1 (some (tnum t)) .none f.2) (writeIce s t r)
  tellHold (holdRequested s t) s1 t

/-- Causes that ICE_CONFIRMED and ICE_CLEARED carry (R194): EVIDENCE 0, TRIAL 1, DECLARED 2. -/
inductive IceCause where
  | evidence
  | trial
  | declared
  deriving DecidableEq, Repr

/-- Code of an ice cause (R194). -/
def iceCauseCode : IceCause → Nat
  | .evidence => 0
  | .trial => 1
  | .declared => 2

/-! ## Block ends (R117, R119, R120, R123) -/

/-- Whether a block mean is at or above the on-deficit (R117). -/
def atOn (st : Settings) (mean : Nat) : Bool := decide (st.onDeficit * 10 ≤ mean)

/-- Whether a block mean is at or below the off-deficit (R117). -/
def atOff (st : Settings) (mean : Nat) : Bool := decide (mean ≤ st.offDeficit * 10)

/-- The evidence brought up to date by a block mean (R119). -/
def evidenceAfter (st : Settings) (mean ev : Nat) : Nat :=
  if atOn st mean then min (ev + 1) st.confirm else if atOff st mean then ev - 1 else ev

/-- The rows of R120 applied to a record whose evidence is up to date, each row checked against the state that the row
before it left: the record, and the findings in order. -/
def evidenceRows (st : Settings) (mean : Nat) (r : IceRec) : IceRec × List (FindingKind × List Word32) :=
  let r1 : IceRec × List (FindingKind × List Word32) :=
    if r.state = .clear ∧ 1 ≤ r.evidence then
      ({ r with state := .suspect }, [(.iceSuspect, [vNat mean, vNat r.evidence, vNat st.confirm])])
    else (r, [])
  if r1.1.state = .suspect ∧ r.evidence = 0 then
    ({ r1.1 with state := .clear }, r1.2 ++ [(.iceCleared, [vNat (iceCauseCode .evidence), vNat mean])])
  else if r1.1.state = .suspect ∧ r.evidence = st.confirm then
    ({ r1.1 with state := .iced, thawTimer := 0, thawDue := false },
     r1.2 ++ [(.iceConfirmed, [vNat (iceCauseCode .evidence), vNat mean, vOptInt r.lastAmbient])])
  else if r1.1.state = .iced ∧ r.evidence = 0 then
    ({ r1.1 with state := .clear, thawTimer := 0, thawDue := false },
     r1.2 ++ [(.iceCleared, [vNat (iceCauseCode .evidence), vNat mean])])
  else r1

/-- A block end in THAWING (R123): the record, and the findings. -/
def trialRow (st : Settings) (mean : Nat) (r : IceRec) : IceRec × List (FindingKind × List Word32) :=
  if atOn st mean then
    ({ r with state := .iced, evidence := st.confirm, thawTimer := 0, thawDue := false, trial := 0 },
     [(.iceReturned, [vNat mean, vNat r.trial])])
  else if st.trialBlocks ≤ r.trial + 1 then
    ({ r with state := .clear, evidence := 0, trial := 0 }, [(.iceCleared, [vNat (iceCauseCode .trial), vNat mean])])
  else ({ r with trial := r.trial + 1 }, [])

/-- The record after a block end, with its findings (R119, R120, R123). -/
def blockEnd (st : Settings) (mean : Nat) (r : IceRec) : IceRec × List (FindingKind × List Word32) :=
  let r1 := { r with lastMean := some mean, ended := bump r.ended, blockCount := 0, blockSum := 0 }
  if r1.state = .thawing then trialRow st mean r1
  else evidenceRows st mean { r1 with evidence := evidenceAfter st mean r1.evidence }

/-- A qualifying report of deficit `d` taken into the block, which ends where its count reaches or passes M (R117). -/
def takeIntoBlock (s : State) (t : Tid) (d : Nat) : State :=
  let r := s.ice.get t
  let r1 := { r with blockCount := r.blockCount + 1, blockSum := r.blockSum + d, qualifying := bump r.qualifying }
  if s.active.settings.blockSize ≤ r1.blockCount then
    let out := blockEnd s.active.settings (r1.blockSum / r1.blockCount) r1
    iceTransition s t out.1 out.2
  else { s with ice := put s.ice t r1 }

/-! ## Notices of the OPSTAT stream (R114, R121) -/

/-- The temperature of a report taken: last ambient, warm, and in ICED the thaw timer (R121). A dwell that an earlier tick has
reached is not undone: THAWING still follows (R122; entry 7). -/
def takeAmbient (thawTemp : Int) (temp : Int) (r : IceRec) : IceRec :=
  let warm := decide (thawTemp ≤ temp)
  if r.state = .iced ∧ warm = false then { r with lastAmbient := some temp, warm := warm, thawTimer := 0 }
  else { r with lastAmbient := some temp, warm := warm }

/-- DATA notice at the Icing Watch (R114 to R117, R121). -/
def iceReport (s : State) (t : Tid) (p : Report) : State :=
  let s1 := updIce s t (takeAmbient s.active.settings.thawTemp p.temp)
  match qualifies s1 t p with
  | some d => takeIntoBlock s1 t d
  | none => updIce s1 t (fun r => { r with skipped := bump r.skipped })

/-- LIVE notice at the Icing Watch (R114). -/
def iceLive (s : State) (t : Tid) : State := updIce s t (fun r => { r with reportsLive := true })

/-- ENDED notice at the Icing Watch (R114). -/
def iceEnded (s : State) (t : Tid) : State :=
  discardBlock .streamEnded (updIce s t (fun r => { r with reportsLive := false })) t

/-! ## Thaw (R121, R122) -/

/-- Ticks of the thaw dwell (R122). -/
def dwellTicks (st : Settings) : Nat := st.thawDwell * 600

/-- The top of the thaw timer (R121). -/
def thawTop : Nat := 864000

/-- The thaw timer at a tick: in ICED with reports live and warm it rises, and marks the dwell reached (R121, R122). -/
def tickThaw (st : Settings) (r : IceRec) : IceRec :=
  if r.state = .iced ∧ r.reportsLive = true ∧ r.warm = true then
    { r with thawTimer := min (r.thawTimer + 1) thawTop,
             thawDue := decide (dwellTicks st ≤ min (r.thawTimer + 1) thawTop) }
  else r

/-- The thaw dwell reached: ICED becomes THAWING (R122). ICE_THAWING carries the dwell and the last ambient as they stand at
this step, also where a COMMIT or a report came after the tick that reached the dwell: the model's choice (entry 7). -/
def thawReached (s : State) (t : Tid) : State :=
  let r := s.ice.get t
  iceTransition s t { r with state := .thawing, thawTimer := 0, thawDue := false, trial := 0 }
    [(.iceThawing, [vNat s.active.settings.thawDwell, vOptInt r.lastAmbient])]

/-! ## Declarations (R125, R126) -/

/-- DECLARE ICE on a present turbine (R125). -/
def declareIced (s : State) (t : Tid) : State :=
  let s1 := discardBlock .declared s t
  let r := s1.ice.get t
  iceTransition s1 t { r with state := .iced, evidence := s1.active.settings.confirm, thawTimer := 0, thawDue := false, trial := 0 }
    (if r.state = .iced then []
     else [(.iceConfirmed, [vNat (iceCauseCode .declared), vOpt none, vOptInt r.lastAmbient])])

/-- DECLARE CLEAR on a present turbine (R126). -/
def declareCleared (s : State) (t : Tid) : State :=
  let s1 := discardBlock .declared s t
  let r := s1.ice.get t
  iceTransition s1 t { r with state := .clear, evidence := 0, thawTimer := 0, thawDue := false, trial := 0 }
    (if r.state = .clear then [] else [(.iceCleared, [vNat (iceCauseCode .declared), vOpt none])])

/-! ## Commits and RESTART (R111, R113, R119, R124) -/

/-- A rise of the curve generation: every turbine's block is discarded (R111). -/
def curvesChanged (s : State) : State := allTurbines.foldl (discardBlock .curve) s

/-- Evidence above a lowered confirm count set to it (R119). -/
def clampEvidence (s : State) : State :=
  { s with ice := mapTab (fun r => { r with evidence := min r.evidence s.active.settings.confirm }) s.ice }

/-- The ice record at RESTART, before the notices ENDED (R113). -/
def iceRestarted (r : IceRec) : IceRec :=
  { r with blockCount := 0, blockSum := 0, lastMean := none, qualifying := 0, skipped := 0, ended := 0,
           discarded := Vector.replicate 7 0 }

end Sys2Proof.Machine
end

