-- ==== Sys2Proof/Machine/TurbineTable.lean ====
section
/-! DEFINITION. Machine/TurbineTable.lean: the Turbine Table (chapter 2): operating reports, changes of the operating
state, starts, presence and service mode. -/

namespace Sys2Proof.Machine

/-- The state with `f` applied to a turbine's record. -/
def updTurbine (s : State) (t : Tid) (f : TurbineRec → TurbineRec) : State := { s with turbines := upd s.turbines t f }

/-- Whether an entry into GENERATING from a state is a start (R29). -/
def startsFrom : OperState → Bool
  | .unknown => true
  | .parked => true
  | .idling => true
  | .generating => false
  | .faulted => false

/-- A start (R29): counted, a window series begun, blanking requested. -/
def startTurbine (s : State) (t : Tid) : State := requestBlanking (vibStart (countStart s t) t) t

/-- The notices of a change of operating state (R28): the run gate, the Vibration Watch and the Icing Watch. -/
def operNotices (s : State) (t : Tid) (old new : OperState) : State :=
  if new = .generating then setGate s t .run true
  else if old = .generating then discardBlock .notGenerating (vibNotGenerating (setGate s t .run false) t) t
  else s

/-- The operating state set; a change acts as R28 and R29 state. -/
def setOper (s : State) (t : Tid) (new : OperState) : State :=
  let old := (s.turbines.get t).oper
  if new = old then s
  else
    let s1 := updTurbine s t (fun r => { r with oper := new })
    let s2 := if new = .generating ∧ startsFrom old = true then startTurbine s1 t else s1
    operNotices s2 t old new

/-- The values of a report stored; an implausible power is counted and withheld (R25, R26). -/
def storeReport (p : Report) (r : TurbineRec) : TurbineRec :=
  if plausible r.rated p.power then
    { r with lastPower := some p.power, lastWind := some p.wind, lastTemp := some p.temp }
  else { r with lastWind := some p.wind, lastTemp := some p.temp, implausible := bump r.implausible }

/-- DATA notice at the Turbine Table (R25, R26). -/
def operReport (s : State) (t : Tid) (p : Report) : State := setOper (updTurbine s t (storeReport p)) t p.rotor

/-- ENDED notice at the Turbine Table (R27). -/
def operEnded (s : State) (t : Tid) : State := setOper s t .unknown

/-! ## LOAD TURBINE (R22 to R24) -/

/-- A turbine made not present, in the order of R23; the ATTN line is formed at the end of every step (entry 11). A turbine
that leaves GENERATING so loses its icing block under NOT_GENERATING (R23, R28, R118), where R113 has its ice record stay as it
stands: that the block is discarded and counted is the model's choice (entry 50). -/
def removeTurbine (s : State) (t : Tid) : State :=
  let s1 := setOper (updTurbine s t (fun r => { r with present := false, cls := 0, rated := 0 })) t .unknown
  let s2 := updTurbine s1 t (fun r =>
    { r with lastPower := none, lastWind := none, lastTemp := none, blanking := none,
             implausible := if r.rated = (s.turbines.get t).rated then r.implausible else 0 })
  let s3 := withdraw s2 t
  setHarm s3 { s3.harm with contributors := s3.harm.contributors.filter (fun p => p.turbine ≠ t) }

/-- A turbine present with the class and rated power given (R24, R26): a change of rated power sets the
implausible-reports count to 0, and a change of a present turbine's class discards its block. -/
def configureTurbine (s : State) (t : Tid) (cls rated : Nat) : State :=
  let old := s.turbines.get t
  let s1 := updTurbine s t (fun r =>
    { r with present := true, cls := cls, rated := rated, implausible := if r.rated = rated then r.implausible else 0 })
  if old.present = true ∧ old.cls ≠ cls then discardBlock .cls s1 t else s1

/-- The configuration of a LOAD TURBINE that passed its checks (R22 to R24). -/
def loadConfiguration (s : State) (t : Tid) (present : Bool) (cls rated : Nat) : State :=
  if present then configureTurbine s t cls rated
  else if (s.turbines.get t).present then removeTurbine s t
  else s

/-! ## Service mode (R30 to R32) -/

/-- Ticks to the hour (R30). -/
def hourTicks : Nat := 36000

/-- The limit of BEGIN SERVICE loaded: the timer, and overrun raised NO (R30; entry 34). -/
def loadServiceLimit (s : State) (t : Tid) (limit : Nat) : State :=
  updTurbine s t (fun r =>
    { r with limitTimer := loadTimer (limit * hourTicks), limitHours := limit, overrun := false })

/-- BEGIN SERVICE on a present turbine (R30). -/
def beginServiceOn (s : State) (t : Tid) (limit : Nat) : State :=
  if (s.turbines.get t).service then loadServiceLimit s t limit
  else
    let s1 := updTurbine (loadServiceLimit s t limit) t (fun r => { r with service := true })
    computeAdvice (discardBlock .service (withdraw (vibServiceBegun s1 t) t) t) t

/-- END SERVICE (R32). -/
def endServiceOn (s : State) (t : Tid) : State :=
  if (s.turbines.get t).service then
    let s1 := updTurbine s t (fun r => { r with service := false, limitTimer := none, overrun := false })
    requestBlanking (computeAdvice (vibServiceEnded s1 t) t) t
  else s

/-- The service limit timer's expiry (R31). -/
def serviceOverrun (s : State) (t : Tid) : State :=
  let r := s.turbines.get t
  let s1 := updTurbine s t (fun r => { r with limitTimer := none, overrun := true })
  if r.overrun then s1 else raise s1 .serviceOverrun (some (tnum t)) .none [vNat r.limitHours]

end Sys2Proof.Machine
end

