-- ==== Sys2Proof/Machine/Speed.lean ====
section
/-! DEFINITION. Machine/Speed.lean: the Speed Tracker (chapter 3): edges, revolution boundaries, speed states and the
notices it gives. -/

namespace Sys2Proof.Machine

/-- One edge record of an EDGE frame (R193). -/
structure EdgeRec where
  offset   : Nat
  polarity : Polarity
  marker   : Bool
  deriving DecidableEq, Repr

/-- The state with `f` applied to a turbine's speed record. -/
def updSpeed (s : State) (t : Tid) (f : SpeedRec → SpeedRec) : State := { s with speeds := upd s.speeds t f }

/-- The time of an edge: the frame's stamp and the record's offset in µs (R39). -/
def edgeTime (stamp : Nat) (e : EdgeRec) : Time := { stamp := stamp, sub := e.offset * 16 }

/-- Expected count of a revolution (R38). -/
def expectedCount (e : StreamEntry) : Nat := if e.edges = .both then 2 * e.pulses else e.pulses

/-- The sorts of an edge record (R38). -/
inductive EdgeSort where
  | marker
  | counted
  | ignored
  deriving DecidableEq, Repr

/-- Whether a polarity is counted (R38). -/
def polarityCounted (edges : CountedEdges) (p : Polarity) : Bool :=
  match edges with
  | .both => true
  | .rising => decide (p = .rising)
  | .falling => decide (p = .falling)

/-- The sort of an edge record under an entry (R38). -/
def sortOf (e : StreamEntry) (x : EdgeRec) : EdgeSort :=
  if x.marker then
    if e.markerPresent = true ∧ x.polarity = e.markerPolarity then .marker else .ignored
  else if polarityCounted e.edges x.polarity then .counted
  else .ignored

/-- Whether an edge is rejected as disorder against the last edge of its own sort: the difference, new less last, is not
above zero (R39). Stamps exactly 2^31 ms apart read as -2,147,483,648 ms either way round, so they are disorder. -/
def disordered (last : Option Time) (b : Time) : Bool :=
  match last with
  | some l => decide (timeDiff b l ≤ 0)
  | none => false

/-- Whether a counted edge that passed the disorder check is closer than the minimum spacing to the last counted edge (R40).
Its difference is above zero there, so nothing is too close where the spacing is 0. -/
def tooClose (spacing : Nat) (last : Option Time) (b : Time) : Bool :=
  match last with
  | some l => decide (timeDiff b l < (spacing : Int) * 16)
  | none => false

/-! ## Period, speed and judgement (R44 to R49) -/

/-- The period held for two boundaries, in µs; free where the manual's field cannot hold the difference (R37, R46; entry
14). -/
def periodOf (b ref : Time) : Nat :=
  let us := usDiff b ref
  if 1 ≤ us ∧ us ≤ 4294967295 then us.toNat else Config.unstatedPeriod us

/-- The speed of a period, in 0.1 rpm (R46). -/
def speedOf (period : Nat) : Nat := min (600000000 / period) 65535

/-- The speed of the revolution between two boundaries: that of their difference, whatever the period's field can hold, and
that of the free period where the difference is not above zero (R46; entry 14). -/
def speedBetween (b ref : Time) : Nat :=
  let us := usDiff b ref
  if 1 ≤ us then speedOf us.toNat else speedOf (Config.unstatedPeriod us)

/-- Whether a new speed is a step from the speed held (R47). -/
def isStep (tolerance held new : Nat) : Bool :=
  decide (tolerance * held < ((new : Int) - (held : Int)).natAbs * 100)

/-- Values stored for a good revolution from `ref` to `b` (R46). -/
def goodRevolution (b ref : Time) (r : SpeedRec) : SpeedRec :=
  { r with period := some (periodOf b ref), speed := some (speedBetween b ref) }

/-- The third slip in a row: UNRELIABLE, SPEED_UNRELIABLE, TRACKING LOST (R48). -/
def becomeUnreliable (s : State) (t : Tid) (count expected : Nat) : State :=
  let s1 := updSpeed s t (fun r => { r with state := .unreliable, goodRun := 0 })
  let s2 := raise s1 .speedUnreliable (some (tnum t)) .none [vNat count, vNat expected, vNat (s1.speeds.get t).slips]
  vibTrackingLost s2 t

/-- A slip in TRACKING after its slips and lost-revolutions counts have been raised: consecutive slips, SLIP, and at the
third UNRELIABLE (R41, R48). -/
def slipInTracking (s : State) (t : Tid) (count expected : Nat) : State :=
  let s1 := vibSlip (updSpeed s t (fun r => { r with consecSlips := r.consecSlips + 1 })) t
  if 3 ≤ (s1.speeds.get t).consecSlips then becomeUnreliable s1 t count expected else s1

/-- Slips and lost revolutions raised by 1 (R41, R48). -/
def countSlip (r : SpeedRec) : SpeedRec := { r with slips := bump r.slips, lost := bump r.lost }

/-- A revolution judged in ACQUIRING (R44). -/
def judgeAcquiring (s : State) (t : Tid) (b ref : Time) (correct : Bool) : State :=
  if correct then
    vibBoundary
      (updSpeed s t (fun r => { goodRevolution b ref r with consecSlips := 0, state := .tracking, lost := bump r.lost })) t b
  else updSpeed s t countSlip

/-- A good revolution in TRACKING (R45, R47): the step, the values stored, then the revolution event to the Vibration
Watch and the Usage Counters. R45 gives no order of the two: that the Watch takes it first is the model's choice
(entry 17). -/
def goodInTracking (s : State) (t : Tid) (b ref : Time) : State :=
  let step := isStep s.active.settings.tolerance ((s.speeds.get t).speed.getD 0) (speedBetween b ref)
  let s1 := if step then requestBlanking (vibStep s t) t else s
  let s2 := updSpeed s1 t (fun r => { goodRevolution b ref r with consecSlips := 0 })
  countRevolution (vibRevolution s2 t b step) t

/-- A revolution judged in UNRELIABLE (R49). -/
def judgeUnreliable (s : State) (t : Tid) (b ref : Time) (correct : Bool) : State :=
  if correct then
    let s1 := updSpeed s t (fun r => { goodRevolution b ref r with goodRun := r.goodRun + 1, lost := bump r.lost })
    if 8 ≤ (s1.speeds.get t).goodRun then
      vibBoundary
        (raise (updSpeed s1 t (fun r => { r with state := .tracking, consecSlips := 0, goodRun := 0 }))
          .speedRegained (some (tnum t)) .none [vNat (speedBetween b ref)])
        t b
    else s1
  else updSpeed s t (fun r => { countSlip r with goodRun := 0 })

/-- The revolution from a reference to a boundary judged by the present speed state (R41, R42, R44, R45, R48, R49, R50). -/
def judge (s : State) (t : Tid) (b ref : Time) (count expected : Nat) : State :=
  let correct := decide (count = expected)
  match (s.speeds.get t).state with
  | .acquiring => judgeAcquiring s t b ref correct
  | .tracking =>
    if correct then goodInTracking s t b ref else slipInTracking (updSpeed s t countSlip) t count expected
  | .unreliable => judgeUnreliable s t b ref correct
  | .stopped => s
  | .noSignal => s

/-- A boundary: the revolution judged where a reference is held, then the boundary the new reference with edges since
boundary 0 (R41, R42). -/
def boundaryAt (s : State) (t : Tid) (b : Time) (expected : Nat) : State :=
  let s1 := match (s.speeds.get t).reference with
    | some ref => judge s t b ref (s.speeds.get t).edges expected
    | none => s
  updSpeed s1 t (fun r => { r with reference := some b, edges := 0 })

/-- A missing marker (R41). -/
def missingMarker (s : State) (t : Tid) (count expected : Nat) : State :=
  let s1 := updSpeed s t (fun r => { countSlip r with reference := none, edges := 0 })
  match (s.speeds.get t).state with
  | .tracking => slipInTracking s1 t count expected
  | .unreliable => updSpeed s1 t (fun r => { r with goodRun := 0 })
  | .acquiring => s1
  | .stopped => s1
  | .noSignal => s1

/-! ## Edges (R39 to R42, R50) -/

/-- The stop time as the timer is loaded (R50). -/
def stopLoad (s : State) : Timer := loadTimer s.active.settings.stopTime

/-- A marker (R39, R41). -/
def takeMarker (s : State) (t : Tid) (b : Time) (expected : Nat) : State :=
  if disordered (s.speeds.get t).lastMarker b then updSpeed s t (fun r => { r with disorderRejects := bump r.disorderRejects })
  else boundaryAt (updSpeed s t (fun r => { r with lastMarker := some b })) t b expected

/-- What an accepted counted edge does to the record before it acts as a boundary: out of STOPPED into ACQUIRING, the last
counted edge, the stop timer, edges since boundary (R40, R50; entry 19). -/
def acceptCounted (stop : Timer) (b : Time) (r : SpeedRec) : SpeedRec :=
  let r1 := if r.state = .stopped then { r with state := .acquiring, speed := none } else r
  { r1 with lastCounted := some b, stopTimer := stop, edges := if r1.reference.isSome then r1.edges + 1 else r1.edges }

/-- An accepted counted edge as a boundary or as the edge that shows a marker missing (R41, R42). -/
def actCounted (s : State) (t : Tid) (e : StreamEntry) (b : Time) : State :=
  let r := s.speeds.get t
  if e.markerPresent then
    if r.reference.isSome = true ∧ r.edges = 2 * expectedCount e then missingMarker s t r.edges (expectedCount e) else s
  else if r.reference.isNone = true ∨ r.edges = expectedCount e then boundaryAt s t b (expectedCount e)
  else s

/-- A counted edge (R39, R40). -/
def takeCounted (s : State) (t : Tid) (e : StreamEntry) (b : Time) : State :=
  let r := s.speeds.get t
  if disordered r.lastCounted b then updSpeed s t (fun r => { r with disorderRejects := bump r.disorderRejects })
  else if tooClose e.spacing r.lastCounted b then
    updSpeed s t (fun r => { r with spacingRejects := bump r.spacingRejects })
  else actCounted (updSpeed s t (acceptCounted (stopLoad s) b)) t e b

/-- One edge record (R38). -/
def takeEdge (t : Tid) (e : StreamEntry) (stamp : Nat) (s : State) (x : EdgeRec) : State :=
  match sortOf e x with
  | .marker => takeMarker s t (edgeTime stamp x) (expectedCount e)
  | .counted => takeCounted s t e (edgeTime stamp x)
  | .ignored => s

/-! ## Notices of the TACH stream (R43) and the stop timer (R50) -/

/-- DATA notice: the records one after another (R38). -/
def speedData (s : State) (t : Tid) (e : StreamEntry) (stamp : Nat) (xs : List EdgeRec) : State :=
  xs.foldl (takeEdge t e stamp) s

/-- A record on entry into ACQUIRING by LIVE or GAP (R43). -/
def acquiring (stop : Timer) (r : SpeedRec) : SpeedRec :=
  { r with state := .acquiring, reference := none, edges := 0, speed := none, period := none, consecSlips := 0,
           goodRun := 0, stopTimer := stop }

/-- TRACKING LOST told where the record was TRACKING (R43, R50, R51). -/
def tellLost (was : SpeedState) (s : State) (t : Tid) : State := if was = .tracking then vibTrackingLost s t else s

/-- LIVE notice (R43). -/
def speedLive (s : State) (t : Tid) : State :=
  if (s.speeds.get t).state = .noSignal then updSpeed s t (acquiring (stopLoad s)) else s

/-- GAP notice (R43). -/
def speedGap (s : State) (t : Tid) : State :=
  if (s.speeds.get t).state = .noSignal then s
  else tellLost (s.speeds.get t).state (updSpeed s t (acquiring (stopLoad s))) t

/-- A record on entry into NO_SIGNAL (R43). -/
def noSignal (r : SpeedRec) : SpeedRec :=
  { r with state := .noSignal, reference := none, lastCounted := none, lastMarker := none, speed := none, period := none,
           edges := 0, consecSlips := 0, goodRun := 0, stopTimer := none }

/-- ENDED notice (R43). -/
def speedEnded (s : State) (t : Tid) : State := tellLost (s.speeds.get t).state (updSpeed s t noSignal) t

/-- A record on entry into STOPPED (R50). -/
def stopped (r : SpeedRec) : SpeedRec :=
  { r with state := .stopped, speed := some 0, period := none, reference := none, edges := 0, consecSlips := 0, goodRun := 0,
           stopTimer := none }

/-- The stop timer's expiry (R50). -/
def stopExpired (s : State) (t : Tid) : State := tellLost (s.speeds.get t).state (updSpeed s t stopped) t

end Sys2Proof.Machine
end

