-- ==== Sys2Proof/Machine/Streams.lean ====
section
/-! DEFINITION. Machine/Streams.lean: the Stream Classifier (chapter 1): payloads, matching, stream states, notices,
silence, holding and disposition. -/

namespace Sys2Proof.Machine

/-! ## Payloads (R11, R193) -/

/-- What a well-formed sample-bearing frame carries. -/
inductive FrameData where
  | samples (rate : RateCode) (xs : List Int)
  | edges (xs : List EdgeRec)
  | report (p : Report)
  deriving DecidableEq, Repr

/-- Signed 16-bit samples of a payload. -/
def samplesOf : List Byte → List Int
  | a :: b :: rest => signed16 (a.toNat * 256 + b.toNat) :: samplesOf rest
  | [_] => []
  | [] => []

/-- Edge records of a payload (R193 note 2). -/
def edgeRecsOf : List Byte → List EdgeRec
  | a :: b :: f :: rest =>
    { offset := a.toNat * 256 + b.toNat, polarity := if f.getLsbD 0 then .rising else .falling, marker := f.getLsbD 1 } ::
      edgeRecsOf rest
  | [_, _] => []
  | [_] => []
  | [] => []

/-- A SAMPLE payload: rate code 1 to 5, then n signed samples, n = 1 to 128 (R11, R193). -/
def sampleData (p : List Byte) : Option FrameData :=
  match rateOf (byteAt p 0) with
  | some rate =>
    if 3 ≤ p.length ∧ p.length ≤ 257 ∧ p.length % 2 = 1 then some (.samples rate (samplesOf (p.drop 1))) else none
  | none => none

/-- An EDGE payload: record count 1 to 32, then that many records of 3 bytes (R11, R193). -/
def edgeData (p : List Byte) : Option FrameData :=
  if 1 ≤ byteAt p 0 ∧ byteAt p 0 ≤ 32 ∧ p.length = 1 + 3 * byteAt p 0 then some (.edges (edgeRecsOf (p.drop 1))) else none

/-- A STATUS payload of 7 bytes with one of the four rotor states (R11, R193). -/
def statusData (p : List Byte) : Option FrameData :=
  match rotorOf (byteAt p 0) with
  | some rotor =>
    if p.length = 7 then
      some (.report { rotor := rotor, power := signed16 (ofBe ((p.drop 1).take 2)), wind := ofBe ((p.drop 3).take 2),
                      temp := signed16 (ofBe ((p.drop 5).take 2)) })
    else none
  | none => none

/-- The data of a payload of an expected kind, none where the frame is malformed (R11). -/
def frameData (kind : StreamKind) (p : List Byte) : Option FrameData :=
  match kind with
  | .sample => sampleData p
  | .edge => edgeData p
  | .status => statusData p

/-! ## Notices (R18) -/

/-- The turbine a stream entry names, for roles that name one. -/
def entryTurbine (e : StreamEntry) : Option Tid := turbineOf e.source

/-- Notice LIVE (R18); a VIB stream's has no effect (R68), nor has an OPSTAT stream's at the Turbine Table (R27). -/
def tellLive (s : State) (i : SlotId) (e : StreamEntry) : State :=
  match e.role, entryTurbine e with
  | .tach, some t => speedLive s t
  | .opstat, some t => iceLive s t
  | .gridV, _ => harmLive s i e
  | .gridI, _ => harmLive s i e
  | .convI, _ => harmLive s i e
  | _, _ => s

/-- Notice GAP (R18); it changes nothing for an OPSTAT stream (R27, R114). -/
def tellGap (s : State) (i : SlotId) (e : StreamEntry) : State :=
  match e.role, entryTurbine e with
  | .vib, _ => vibGap s i
  | .tach, some t => speedGap s t
  | .gridV, _ => harmGap s i e
  | .gridI, _ => harmGap s i e
  | .convI, _ => harmGap s i e
  | _, _ => s

/-- Notice DATA (R18); an OPSTAT stream's reaches the Turbine Table and then the Icing Watch (entry 17). -/
def tellData (s : State) (i : SlotId) (e : StreamEntry) (stamp : Nat) (d : FrameData) : State :=
  match e.role, entryTurbine e, d with
  | .vib, some t, .samples rate xs => vibData s t i stamp rate xs
  | .tach, some t, .edges xs => speedData s t e stamp xs
  | .opstat, some t, .report p => iceReport (operReport s t p) t p
  | .gridV, _, .samples rate xs => harmData s i e stamp rate xs
  | .gridI, _, .samples rate xs => harmData s i e stamp rate xs
  | .convI, _, .samples rate xs => harmData s i e stamp rate xs
  | _, _, _ => s

/-- Notice ENDED (R18); an OPSTAT stream's reaches the Turbine Table and then the Icing Watch (entry 17). -/
def tellEnded (s : State) (i : SlotId) (e : StreamEntry) (cause : EndCause) : State :=
  match e.role, entryTurbine e with
  | .vib, _ => vibEnded s i cause
  | .tach, some t => speedEnded s t
  | .opstat, some t => iceEnded (operEnded s t) t
  | .gridV, _ => harmEnded s i e
  | .gridI, _ => harmEnded s i e
  | .convI, _ => harmEnded s i e
  | _, _ => s

/-! ## Slots -/

/-- The state with a slot replaced. -/
def setSlot (s : State) (i : SlotId) (x : Slot) : State :=
  { s with streams := { s.streams with slots := put s.streams.slots i x } }

/-- The state with `f` applied to a slot. -/
def updSlot (s : State) (i : SlotId) (f : Slot → Slot) : State := setSlot s i (f (s.streams.slots.get i))

/-- A finding of the Classifier: the slot as subject, the source as turbine where that is 1 to 24 (R8, R10, R12, R13). -/
def raiseStream (s : State) (i : SlotId) (e : StreamEntry) (k : FindingKind) (values : List Word32) : State :=
  raise s k (sourceTurbine e.source) (.slot i) values

/-- ENDED told to a stream that was LIVE (R18). -/
def endIfLive (was : StreamState) (s : State) (i : SlotId) (e : StreamEntry) (cause : EndCause) : State :=
  if was = .live then tellEnded s i e cause else s

/-! ## Disposition (R17) -/

/-- Whether a frame of a disposition is forwarded, and the thinning counter after it (R17). -/
def disposed (e : StreamEntry) (thin : Nat) : Bool × Nat :=
  match e.disposition with
  | .pass => (true, thin)
  | .take => (false, thin)
  | .thin => if e.thinN ≤ thin + 1 then (true, 0) else (false, thin + 1)

/-- An accepted frame disposed of (R17). -/
def disposeFrame (s : State) (i : SlotId) (e : StreamEntry) (f : Frame) : State :=
  let out := disposed e (s.streams.slots.get i).thin
  let s1 := updSlot s i (fun x => { x with thin := out.2 })
  if out.1 then offerTransit s1 .d f else s1

/-- A malformed frame counted (R11). -/
def countMalformed (d : Option FrameData) (x : Slot) : Slot :=
  match d with
  | some _ => x
  | none => { x with malformed := bump x.malformed }

/-! ## Matching (R6, R7) -/

/-- Whether a slot, not EMPTY, holds a key (R6). -/
def holdsKey (source channel : Nat) (x : Slot) : Bool :=
  !decide (x.state = .empty) &&
  match x.entry with
  | some e => decide (e.source = source) && decide (e.channel = channel)
  | none => false

/-- The slot that holds a key (R6). -/
def findSlot (s : State) (source channel : Nat) : Option SlotId :=
  allSlots.find? (fun i => holdsKey source channel (s.streams.slots.get i))

/-- A frame handled by the unknown-stream policy (R7). -/
def byPolicy (s : State) (f : Frame) : State :=
  match s.active.settings.policy with
  | .forward => offerTransit s .d f
  | .discard => s

/-- An unknown frame (R7). -/
def unknownFrame (s : State) (f : Frame) : State :=
  byPolicy { s with streams := { s.streams with unknown := bump s.streams.unknown } } f

/-- A mismatched frame (R7). -/
def mismatchedFrame (s : State) (f : Frame) : State :=
  byPolicy { s with streams := { s.streams with mismatched := bump s.streams.mismatched } } f

/-! ## The reference check (R8) -/

/-- Reasons carried by STREAM_FAULTY (R8, R194): band set not loaded 0, turbine not present 1. -/
inductive FaultyReason where
  | bandSet
  | turbine
  deriving DecidableEq, Repr

/-- Code of a reason of STREAM_FAULTY (R194). -/
def faultyCode : FaultyReason → Nat
  | .bandSet => 0
  | .turbine => 1

/-- Whether a role's streams need their turbine present (R8). -/
def needsTurbine : Role → Bool
  | .vib => true
  | .tach => true
  | .convI => true
  | .opstat => true
  | .gridV => false
  | .gridI => false
  | .plain => false

/-- Whether the turbine an entry names is not present. -/
def turbineMissing (s : State) (e : StreamEntry) : Bool :=
  match entryTurbine e with
  | some t => !(s.turbines.get t).present
  | none => false

/-- The failure that the reference check finds, if any (R8). Where the band set is not loaded and the turbine is not present
as well, R8 names no precedence: that the band set is reported is the model's choice (entry 42). -/
def referenceFailure (s : State) (e : StreamEntry) : Option FaultyReason :=
  if e.role = .vib ∧ (setOf s e).bands.isEmpty = true then some .bandSet
  else if needsTurbine e.role = true ∧ turbineMissing s e = true then some .turbine
  else none

/-- A frame of a FAULTY slot (R16). -/
def faultyFrame (s : State) (i : SlotId) (e : StreamEntry) (f : Frame) (d : Option FrameData) : State :=
  disposeFrame (updSlot s i (fun x => countMalformed d { x with taken := bump x.taken })) i e f

/-- A slot that fails the reference check (R8): FAULTY, STREAM_FAULTY, ENDED where it was LIVE, and the frame handled as
one of a FAULTY stream (entry 18). -/
def becomeFaulty (s : State) (i : SlotId) (e : StreamEntry) (f : Frame) (d : Option FrameData) (why : FaultyReason) : State :=
  let was := (s.streams.slots.get i).state
  let s1 := updSlot s i (fun x => { x with state := .faulty, expected := none, silence := none })
  let s2 := raiseStream s1 i e .streamFaulty [vNat (faultyCode why)]
  faultyFrame (endIfLive was s2 i e .faulty) i e f d

/-! ## Accepted frames (R9, R10, R11, R13) -/

/-- A slot that has accepted a frame of sequence `q`: expected next sequence, frames taken, silence timer (R9, R10, R13). -/
def acceptFrame (e : StreamEntry) (q : Nat) (d : Option FrameData) (x : Slot) : Slot :=
  countMalformed d { x with expected := some ((q + 1) % 256), taken := bump x.taken, silence := loadTimer e.silence }

/-- The data of an accepted frame handed on, or GAP for a malformed one, and the frame disposed of (R10, R11, R17). -/
def handOn (s : State) (i : SlotId) (e : StreamEntry) (f : Frame) (d : Option FrameData) : State :=
  let s1 := match d with
    | some x => tellData s i e (headerOf f.bytes).stamp x
    | none => tellGap s i e
  disposeFrame s1 i e f

/-- The first frame on an IDLE slot (R9). -/
def firstFrame (s : State) (i : SlotId) (e : StreamEntry) (f : Frame) (d : Option FrameData) : State :=
  let s1 := updSlot s i (fun x => acceptFrame e (headerOf f.bytes).seq d { x with state := .live })
  handOn (tellLive s1 i e) i e f d

/-- A frame on a SILENT slot (R13). -/
def frameAfterSilence (s : State) (i : SlotId) (e : StreamEntry) (f : Frame) (d : Option FrameData) : State :=
  let ticks := (s.streams.slots.get i).silentTicks
  let s1 := updSlot s i (fun x => acceptFrame e (headerOf f.bytes).seq d { x with state := .live })
  handOn (tellLive (raiseStream s1 i e .streamBack [vNat ticks]) i e) i e f d

/-- A stale frame (R10). -/
def staleFrame (s : State) (i : SlotId) (e : StreamEntry) (f : Frame) : State :=
  let s1 := updSlot s i (fun x => { x with stale := bump x.stale })
  if e.disposition = .pass then offerTransit s1 .d f else s1

/-- The gap a LIVE frame shows: (s − e) modulo 256 (R10). -/
def seqGap (expected q : Nat) : Nat := (q + 256 - expected) % 256

/-- A frame on a LIVE slot after the reference check (R10). -/
def liveFrame (s : State) (i : SlotId) (e : StreamEntry) (f : Frame) (d : Option FrameData) : State :=
  let q := (headerOf f.bytes).seq
  let x := s.streams.slots.get i
  let ex := x.expected.getD q
  let gap := seqGap ex q
  if gap = 0 then handOn (updSlot s i (acceptFrame e q d)) i e f d
  else if gap ≤ 127 then
    let s1 := updSlot s i (fun x => acceptFrame e q d { x with gaps := bumpBy x.gaps gap })
    let s2 := raiseStream (tellGap s1 i e) i e .streamGap [vNat gap, vNat (bumpBy x.gaps gap), vNat ex, vNat q]
    handOn s2 i e f d
  else staleFrame s i e f

/-- A frame of a HELD slot (R16). -/
def heldFrame (s : State) (i : SlotId) (f : Frame) (d : Option FrameData) : State :=
  offerTransit (updSlot s i (fun x => countMalformed d { x with taken := bump x.taken })) .d f

/-- A frame on a slot in IDLE, LIVE or SILENT, given what is done after the reference check (R8). -/
def afterReference (s : State) (i : SlotId) (e : StreamEntry) (f : Frame) (d : Option FrameData) (good : State) : State :=
  match referenceFailure s e with
  | some why => becomeFaulty s i e f d why
  | none => good

/-- A frame that belongs to a slot's stream (R8 to R16). -/
def streamFrame (s : State) (i : SlotId) (e : StreamEntry) (f : Frame) : State :=
  let d := frameData e.kind (payloadOf f.bytes)
  match (s.streams.slots.get i).state with
  | .empty => s
  | .idle => afterReference s i e f d (firstFrame s i e f d)
  | .live => afterReference s i e f d (liveFrame s i e f d)
  | .silent => afterReference s i e f d (frameAfterSilence s i e f d)
  | .faulty => faultyFrame s i e f d
  | .held => heldFrame s i f d

/-- A sample-bearing frame from Port U taken by the Classifier (R6). -/
def classify (s : State) (f : Frame) : State :=
  let h := headerOf f.bytes
  match findSlot s h.source h.channel with
  | none => unknownFrame s f
  | some i =>
    match entryAt s i with
    | none => unknownFrame s f
    | some e => if streamKindCode e.kind = h.kind then streamFrame s i e f else mismatchedFrame s f

/-! ## Silence and holding (R12, R14, R15) -/

/-- The silence timer's expiry (R12). -/
def becomeSilent (s : State) (i : SlotId) (e : StreamEntry) : State :=
  let s1 := updSlot s i (fun x => { x with state := .silent, silence := none, silentTicks := 0, expected := none })
  tellEnded (raiseStream s1 i e .streamSilent [vNat e.silence]) i e .silent

/-- A slot at a tick: a LIVE slot's silence timer counts, a SILENT slot's silent ticks rise (R12). -/
def tickSlot (x : Slot) : Slot :=
  match x.state with
  | .live => { x with silence := tickTimer x.silence }
  | .silent => { x with silentTicks := min (x.silentTicks + 1) 65535 }
  | .empty => x
  | .idle => x
  | .faulty => x
  | .held => x

/-- HOLD STREAM on a slot in IDLE, LIVE or SILENT (R14). -/
def holdSlot (s : State) (i : SlotId) (e : StreamEntry) : State :=
  let was := (s.streams.slots.get i).state
  endIfLive was (updSlot s i (fun x => { x with state := .held, silence := none, expected := none })) i e .held

/-- RESUME STREAM on a HELD slot (R15). -/
def resumeSlot (s : State) (i : SlotId) : State := updSlot s i (fun x => { x with state := .idle, thin := 0 })

end Sys2Proof.Machine
end

