-- ==== Sys2Proof/Machine/Staging.lean ====
section
/-! DEFINITION. Machine/Staging.lean: the Staging Area and the commit (chapter 12): the check of the staged Stream Table,
the tables made active, groups, changeovers, and the end of every step. -/

namespace Sys2Proof.Machine

/-! ## Staged contents (R183 to R185) -/

/-- The state with the Staging Area replaced. -/
def setStaged (s : State) (x : Staged) : State := { s with staged := x }

/-- The staged entry of a slot. -/
def stagedAt (s : State) (i : SlotId) : Option StreamEntry := s.staged.streams.get i

/-- One pair of LOAD STREAM written to a staged Stream Table (R184). -/
def stageEntry (x : Tab (Option StreamEntry) 192) (r : RawEntry) : Tab (Option StreamEntry) 192 :=
  match placeOf 192 r.slot with
  | some i => put x i (some (entryOf r))
  | none => x

/-- One slot of DROP STREAM emptied in a staged Stream Table (R184). -/
def unstageSlot (x : Tab (Option StreamEntry) 192) (k : Nat) : Tab (Option StreamEntry) 192 :=
  match placeOf 192 k with
  | some i => put x i none
  | none => x

/-- The Staging Area made equal to the active copies (R185). -/
def stageOfActive (s : State) : Staged :=
  { streams := mapTab (fun x => x.entry) s.streams.slots, bands := s.active.bands, limits := s.active.limits,
    curves := s.active.curves, settings := s.active.settings }

/-! ## The check of the staged Stream Table (R3, R186) -/

/-- Whether two entries have the same key. -/
def sameKey (a b : StreamEntry) : Bool := decide (a.source = b.source) && decide (a.channel = b.channel)

/-- Roles that a source may have once (R3). -/
def oncePerSource : Role → Bool
  | .tach => true
  | .opstat => true
  | .convI => true
  | .vib => false
  | .gridV => false
  | .gridI => false
  | .plain => false

/-- Roles of the feeder (R3). -/
def feederRole : Role → Bool
  | .gridV => true
  | .gridI => true
  | .vib => false
  | .tach => false
  | .convI => false
  | .opstat => false
  | .plain => false

/-- Whether two entries are both TACH, OPSTAT or CONV_I of one source. -/
def sameOnceRole (a b : StreamEntry) : Bool :=
  decide (a.role = b.role) && oncePerSource a.role && decide (a.source = b.source)

/-- Whether two entries have one feeder role and phase. -/
def sameFeeder (a b : StreamEntry) : Bool := decide (a.role = b.role) && feederRole a.role && decide (a.phase = b.phase)

/-- Whether two entries are both VIB of one turbine. -/
def sameVibTurbine (a b : StreamEntry) : Bool :=
  decide (a.role = .vib) && decide (b.role = .vib) && decide (a.source = b.source)

/-- The staged entries of the slots below a slot. -/
def stagedBelow (s : State) (i : SlotId) : List StreamEntry :=
  (allSlots.filter (fun j => decide (j < i))).filterMap (stagedAt s)

/-- Whether a slot's staged entry has the key of a lower slot's (R186). -/
def repeatsKey (s : State) (i : SlotId) : Bool :=
  match stagedAt s i with
  | some e => (stagedBelow s i).any (sameKey e)
  | none => false

/-- Whether a slot's staged entry breaks a role limit with the lower slots' (R3, R186). -/
def repeatsRole (s : State) (i : SlotId) : Bool :=
  match stagedAt s i with
  | some e =>
    (stagedBelow s i).any (fun x => sameOnceRole e x || sameFeeder e x) ||
      decide (4 ≤ ((stagedBelow s i).filter (sameVibTurbine e)).length)
  | none => false

/-- The refusal of a COMMIT by its check of the whole staged Stream Table (R186). -/
def commitRefusal (s : State) : Option (Reason × Nat) :=
  match allSlots.find? (repeatsKey s) with
  | some i => some (.duplicateKey, i.val)
  | none =>
    match allSlots.find? (repeatsRole s) with
    | some i => some (.duplicateRole, i.val)
    | none => none

/-! ## Slots taking their entries (R5, R67, R81) -/

/-- Whether a slot counts as changed by a commit (R5). -/
def slotChanged (s : State) (i : SlotId) : Bool :=
  slotDiffers s i || (decide ((s.streams.slots.get i).state = .faulty) && (stagedAt s i).isSome)

/-- The changed slots, in ascending order (R5, R187). -/
def changedSlots (s : State) : List SlotId := allSlots.filter (slotChanged s)

/-- A slot that becomes EMPTY: its instance number is kept (R4, R5). -/
def emptiedSlot (x : Slot) : Slot := { Slot.reset with inst := x.inst }

/-- A slot that takes an entry as a new instance (R4, R5). -/
def newInstance (x : Slot) (e : StreamEntry) : Slot :=
  { Slot.reset with state := .idle, entry := some e, inst := (x.inst + 1) % 65536 }

/-- A slot given its staged copy (R5). -/
def slotTaking (x : Slot) : Option StreamEntry → Slot
  | some e => newInstance x e
  | none => emptiedSlot x

/-- The Vibration Watch's record for an entry a slot takes: a new one for a VIB entry, none otherwise (R67). -/
def recordFor (s : State) : Option StreamEntry → Option VibRec
  | some e => if e.role = .vib then some (newVibRec (setOf s e)) else none
  | none => none

/-- The cause of the ENDED that a slot's staged copy brings (R5). -/
def changeCause : Option StreamEntry → EndCause
  | some _ => .replaced
  | none => .dropped

/-- The end of a changing slot's old stream, where it is LIVE (R5). -/
def leaveOld (s : State) (i : SlotId) : State :=
  match entryAt s i with
  | some e => endIfLive (s.streams.slots.get i).state s i e (changeCause (stagedAt s i))
  | none => s

/-- Whether an entry, if any, is the reference. -/
def refersGrid : Option StreamEntry → Bool
  | some e => isReference e
  | none => false

/-- A slot given its staged copy, with its record; the hysteresis becomes 0 where the new entry is the reference (R5, R67,
R90). R90 does not say whether h becomes 0 where the slot that held the reference, not LIVE, takes another role or becomes
EMPTY: that h is left there is the model's choice (entry 58). -/
def takeStaged (s : State) (i : SlotId) : State :=
  let new := stagedAt s i
  let s1 := setVib (updSlot s i (fun x => slotTaking x new)) i (recordFor s new)
  if refersGrid new then setHarm s1 { s1.harm with detector := { s1.harm.detector with h := 0 } } else s1

/-- The turbine of a VIB entry. -/
def vibTurbine : Option StreamEntry → Option Tid
  | some e => if e.role = .vib then entryTurbine e else none
  | none => none

/-- The turbines whose vibration records a changeover of slots creates or removes. -/
def turbinesTouched (s : State) (g : List SlotId) : List Tid :=
  g.filterMap (fun i => vibTurbine (entryAt s i)) ++ g.filterMap (fun i => vibTurbine (stagedAt s i))

/-- Slots that change over in one step: the old entries leave, the new ones are taken, and the grades are formed again
(R5, R81, R188; entry 30). -/
def changeOver (s : State) (g : List SlotId) : State :=
  (turbinesTouched s g).foldl formGrades (g.foldl takeStaged (g.foldl leaveOld s))

/-! ## Tables made active (R187) -/

/-- Whether a band set's staged copy differs from its active copy (R66). -/
def setDiffers (s : State) (b : SetId) : Bool := decide (s.staged.bands.get b ≠ s.active.bands.get b)

/-- A generation raised by 1 where its table changed, modulo 65,536 (R53, R111, R187). For the Stream Table no rule states what
follows 65,535: that it wraps like the others is the model's choice (entry 43). -/
def raisedGen (changed : Bool) (g : Nat) : Nat := if changed then (g + 1) % 65536 else g

/-- The staged tables and settings made active, with their generations (R187). -/
def activeOfStaged (s : State) : Active :=
  { bands := s.staged.bands, bandGen := raisedGen (decide (s.staged.bands ≠ s.active.bands)) s.active.bandGen,
    limits := s.staged.limits, limitGen := raisedGen (decide (s.staged.limits ≠ s.active.limits)) s.active.limitGen,
    curves := s.staged.curves, curveGen := raisedGen (decide (s.staged.curves ≠ s.active.curves)) s.active.curveGen,
    settings := s.staged.settings }

/-- Whether a slot's VIB entry names one of some band sets. -/
def namesSet (s : State) (sets : List SetId) (i : SlotId) : Bool :=
  match entryAt s i with
  | some e => decide (e.role = .vib) && sets.any (fun b => decide (b.val = e.bandSet))
  | none => false

/-- The VIB streams that changed band sets reset: their slots are not themselves changed (R66). -/
def slotsReset (s : State) (sets : List SetId) (changed : List SlotId) : List SlotId :=
  allSlots.filter (fun i => namesSet s sets i && !changed.contains i)

/-- The streams of changed band sets reset, and the grades formed again (R66, R81). That a turbine's grades are formed once all
the streams of one commit have been reset, and not between two of them, is the model's choice (entry 30). -/
def bandsChanged (s : State) (immediate : Bool) (slots : List SlotId) : State :=
  (slots.filterMap (fun i => vibTurbine (entryAt s i))).foldl formGrades (slots.foldl (resetForSet immediate) s)

/-- A change of hold-on-ice told for one turbine (R124): `old` are the settings before the commit. -/
def holdSettingAt (old : Settings) (s : State) (t : Tid) : State :=
  tellHold (decide ((s.ice.get t).state = .iced) && old.holdOnIce) s t

/-- What the new settings do at the commit: Cmax, the confirm count, hold-on-ice and the reduction (R107, R119, R124,
R167); the others are read where they act. That the requests are trimmed to a lowered Cmax before a hold-on-ice turned ON
withdraws turbines, and that a changed reduction is computed last, is the model's choice (entry 30). -/
def settingsChanged (s : State) (old : Settings) : State :=
  let s1 := allTurbines.foldl (holdSettingAt old) (clampEvidence (trimRequests s))
  if old.reduction = s1.active.settings.reduction then s1 else computeAllAdvice s1

/-- The staged tables and settings made active and the blocks told (R187; entry 30). -/
def applyTables (s : State) (immediate : Bool) (changed : List SlotId) : State :=
  let sets := allSets.filter (setDiffers s)
  let slots := slotsReset s sets changed
  let s1 := { s with
    active := activeOfStaged s,
    streams := { s.streams with gen := raisedGen (!changed.isEmpty) s.streams.gen } }
  let s2 := bandsChanged s1 immediate slots
  let s3 := if s.staged.limits = s.active.limits then s2 else limitsChanged s2
  let s4 := if s.staged.curves = s.active.curves then s3 else curvesChanged s3
  settingsChanged s4 s.active.settings

/-! ## Groups (R188) -/

/-- Whether an old entry and a new entry share a bond (R188). -/
def bondBetween (old new : Option StreamEntry) : Bool :=
  match old, new with
  | some a, some b => sameKey a b || sameOnceRole a b || sameFeeder a b || sameVibTurbine a b
  | _, _ => false

/-- Whether two changed slots belong to one group by their own entries (R188). -/
def bonded (s : State) (i j : SlotId) : Bool :=
  bondBetween (entryAt s i) (stagedAt s j) || bondBetween (entryAt s j) (stagedAt s i)

/-- A slot joined to groups: the groups with a bonded member become one with it (R188). -/
def joinGroups (s : State) (gs : List (List SlotId)) (i : SlotId) : List (List SlotId) :=
  let isBonded := fun g : List SlotId => g.any (bonded s i)
  gs.filter (fun g => !isBonded g) ++ [(gs.filter isBonded).flatten ++ [i]]

/-- The groups of the changed slots, each in ascending order (R188), in the order of their highest slots. That groups free
together change over in this order is the model's choice (entry 30). -/
def groupsOf (s : State) (changed : List SlotId) : List (List SlotId) :=
  (changed.foldl (joinGroups s) []).map (fun g => changed.filter (fun i => g.contains i))

/-- Whether the harmonic window former has an open window. -/
def harmWindowOpen (s : State) : Bool :=
  match s.harm.former with
  | .opened _ => true
  | .suspended => false
  | .waiting => false

/-- Whether a slot has an open or closing window: its own, or the harmonic window of the reference slot (R188). -/
def slotHasWindow (s : State) (i : SlotId) : Bool := (windowAt s i).isSome || (refersGrid (entryAt s i) && harmWindowOpen s)

/-- The first waiting group without a window, and the groups that go on waiting (R188). -/
def firstFree (s : State) : List (List SlotId) → Option (List SlotId × List (List SlotId))
  | [] => none
  | g :: gs =>
    if g.any (slotHasWindow s) then
      match firstFree s gs with
      | some (h, rest) => some (h, g :: rest)
      | none => none
    else some (g, gs)

/-! ## The end of a commit (R187 to R189) -/

/-- The code of COMMIT (R192). -/
def commitCode : Nat := 23

/-- The four generations as a reply carries them (R194). -/
def generationBytes (s : State) : List Byte :=
  u16 s.streams.gen ++ u16 s.active.bandGen ++ u16 s.active.limitGen ++ u16 s.active.curveGen

/-- The reply that ends a commit: slots changed, forced flag, forced count, generations (R187 to R189, R194). -/
def commitReply (s : State) (o : Origin) (changed forced : Nat) (flag : Bool) : State :=
  replyDone s o commitCode (u8 changed ++ u8 (flagCode flag) ++ u8 forced ++ generationBytes s)

/-- A commit with no group left waiting ends: the reply, and the unit READY (R188). -/
def endCommit (s : State) : State :=
  match s.cmd with
  | .commit p => if p.groups.isEmpty then commitReply { s with cmd := .ready } p.origin p.changed 0 false else s
  | .ready => s
  | .save _ _ => s
  | .restart _ => s

/-- Waiting groups without a window changed over, one after another; `k` bounds their number (R188). -/
def settleLoop : Nat → State → State
  | 0, s => s
  | k + 1, s =>
    match s.cmd with
    | .commit p =>
      match firstFree s p.groups with
      | some (g, rest) => settleLoop k (changeOver { s with cmd := .commit { p with groups := rest } } g)
      | none => s
    | .ready => s
    | .save _ _ => s
    | .restart _ => s

/-- The groups a commit has waiting. -/
def waitingGroups (s : State) : List (List SlotId) :=
  match s.cmd with
  | .commit p => p.groups
  | .ready => []
  | .save _ _ => []
  | .restart _ => []

/-- The Command Unit's look at a waiting commit: groups without a window change over, and with none left the commit ends
(R188; entry 10). -/
def settleCommit (s : State) : State := endCommit (settleLoop (waitingGroups s).length s)

/-- The timeout of a waiting commit: every waiting group forced over at once, the reply, the unit READY (R189). That the forced
groups change over as one step, and not one group after another, is the model's choice (entry 30). -/
def forceCommit (s : State) (p : PendingCommit) : State :=
  let g := p.groups.flatten
  commitReply (changeOver { s with cmd := .ready } g) p.origin p.changed g.length true

/-- COMMIT IMMEDIATE past its check (R187). -/
def commitNow (s : State) (o : Origin) : State :=
  let changed := changedSlots s
  let s1 := changed.foldl (fun x i => changeOver x [i]) (applyTables s true changed)
  commitReply s1 o changed.length 0 false

/-- COMMIT AT_BOUNDARY past its check: the pending-commit record stands, and the end of the step changes over every group
without a window (R188). -/
def commitWaiting (s : State) (o : Origin) (ticks : Nat) : State :=
  let changed := changedSlots s
  let groups := groupsOf s changed
  { applyTables s false changed with
    cmd := .commit { origin := o, ticks := ticks, groups := groups, changed := changed.length } }

/-! ## The end of every step -/

/-- The end of a step: waiting groups whose windows have ended change over, and the ATTN line is formed again (entries 10
and 11). -/
def settle (s : State) : State := formAttn (settleCommit s)

/-- The outcome of a step that ends in a state. -/
def done (s : State) : Host.Outcome State Fault Refusal := .next (settle s)

end Sys2Proof.Machine
end

