-- ==== Sys2Proof/Machine/Reads.lean ====
section
/-! DEFINITION. Machine/Reads.lean: the results of the ten reads, field by field (R190, R194; entry 24). -/

namespace Sys2Proof.Machine

/-- An edge time: µs as stamp × 1,000 plus offset, 8 bytes, none all ones. -/
def uTime (t : Option Time) : List Byte := noneOnes 8 (t.map (fun x => x.stamp * 1000 + x.sub / 16))

/-! ## READ STATUS (R63, R128, R149, R165, R180, R183, R190) -/

/-- Path state: BYPASS 0, ACTIVE 1. -/
def pathCode (s : State) : Nat := if s.standing = .active then 1 else 0

/-- A port's link state (UP 0, DOWN 1), counts, queue lengths (transit, local) and local run count (R180). That they stand in the
order of R180, counts before queue lengths, where R190 names the queue depths first, is the model's choice (entry 24). -/
def portBytes (r : PortRec) : List Byte :=
  u8 (if r.up then 0 else 1) ++ uCounts [r.badCheck, r.overflow, r.repliesDropped] ++ u8 r.transit.length ++
  u8 r.localQ.length ++ u8 r.run

/-- Job of the record in analysis. -/
def jobClass : JobRecord → JobClass
  | .vib _ => .vib
  | .harm _ => .harm

/-- Counts of a class (R63). -/
def classBytes (c : ClassCounts) : List Byte :=
  uCounts [c.queued, c.overrun, c.staleAtStart, c.analysed, c.staleAtDelivery]

/-- The engine's part (R63): state IDLE 0 or ANALYSING 1, job, records waiting, harmonic run, counts. That the state and what
is told with it stand before the counts, as R190 names them, and that of the records waiting and of the counts the vibration
class's stand before the harmonic class's, is the model's choice (entry 24). -/
def engineBytes (e : Engine) : List Byte :=
  uFlag e.analysing.isSome ++ noneOnes 1 (e.analysing.map (fun r => classCode (jobClass r))) ++ u8 e.vibQueue.length ++
  u8 e.harmQueue.length ++ u8 e.harmRun ++ classBytes e.vibCounts ++ classBytes e.harmCounts ++ u32 e.omitted

/-- The clock's part (R128). -/
def clockBytes (c : Clock) : List Byte :=
  u8 (clockStateCode c.state) ++ u16 c.day ++ u8 c.hour ++ u8 c.minute ++ u8 c.second ++ u8 c.tenth ++
  uCounts [c.heldTicks, c.sinceStart]

/-- The Store Controller's part (R149). -/
def storeBytes (c : StoreCtl) : List Byte :=
  u8 (storeStateCode c.state) ++ uFlag c.pending ++ uFlag c.faultRaised ++ u32 (timerTicks c.timer) ++
  uCounts [c.started, c.completed, c.failed] ++ noneOnes 1 c.failedPos

/-- Number of queued records of a severity (R165). -/
def ofSeverity (fu : FindingUnit) (v : Severity) : Nat := (fu.queue.filter (fun f => decide (severity f.kind = v))).length

/-- The Finding Unit's part, with ATTN and its three causes (R165, R166). -/
def findingBytes (s : State) : List Byte :=
  u8 s.findings.queue.length ++
  ([Severity.info, .notice, .alert, .alarm].map (fun v => u8 (ofSeverity s.findings v))).flatten ++
  u16 s.findings.nextSeq ++ u32 s.findings.lost ++ (s.findings.masks.toList.map uFlag).flatten ++ uFlag s.findings.attn ++
  uFlag (attnVib s) ++ uFlag (attnGrid s) ++ uFlag (attnItem s)

/-- Advice mode: ACTIVE 0, SILENT 1 (R194). -/
def modeCode (active : Bool) : Nat := if active then 0 else 1

/-- Results of READ STATUS, its groups in the order of R190. -/
def statusBytes (s : State) : List Byte :=
  u8 (pathCode s) ++ u8 s.node ++ uFlag s.umgt ++ portBytes s.portU ++ portBytes s.portD ++
  uCounts [s.streams.unknown, s.streams.mismatched] ++ engineBytes s.engine ++ generationBytes s ++
  ((stagedDiffers s).map uFlag).flatten ++ clockBytes s.clock ++ storeBytes s.store ++ findingBytes s ++
  u8 (modeCode s.advice.active)

/-! ## READ STREAM (R1, R4) -/

/-- A stream entry of a slot, 18 bytes; an empty one has zeros after its slot (R194). -/
def entryBytes (i : SlotId) (e : Option StreamEntry) : List Byte :=
  u8 i.val ++
  match e with
  | some e =>
    u8 e.source ++ u8 e.channel ++ u8 (streamKindCode e.kind) ++ u8 (roleCode e.role) ++ u8 (phaseCode e.phase) ++
    u8 e.bandSet ++ u8 e.scale ++ u16 e.pulses ++ u8 (edgesCode e.edges) ++ uFlag e.markerPresent ++
    u8 (polarityCode e.markerPolarity) ++ u16 e.spacing ++ u8 (dispositionCode e.disposition) ++ u8 e.thinN ++ u8 e.silence
  | none => List.replicate 17 0

/-- A slot's runtime (R4). -/
def runtimeBytes (x : Slot) : List Byte :=
  u8 (streamStateCode x.state) ++ u16 x.inst ++ noneOnes 2 x.expected ++ uCounts [x.gaps, x.stale, x.malformed, x.taken] ++
  u8 x.thin ++ u8 (timerTicks x.silence) ++ u16 x.silentTicks

/-- Results of READ STREAM (R190, R194). -/
def streamBytes (s : State) (i : SlotId) : List Byte :=
  uFlag (entryAt s i).isNone ++ entryBytes i (entryAt s i) ++ runtimeBytes (s.streams.slots.get i) ++
  entryBytes i (stagedAt s i) ++ uFlag (slotDiffers s i)

/-! ## READ TURBINE (R20, R169) -/

/-- The Turbine Table's fields of a record (R20). -/
def turbineRecBytes (r : TurbineRec) : List Byte :=
  uFlag r.present ++ u8 r.cls ++ u16 r.rated ++ u8 (operCode r.oper) ++ noneSigned r.lastPower ++ noneOnes 4 r.lastWind ++
  noneSigned r.lastTemp ++ u32 r.implausible ++ uFlag r.service ++ u32 (timerTicks r.limitTimer) ++ uFlag r.overrun ++
  u16 (timerTicks r.blanking)

/-- Grade, requests, ice state and advice record (R169, R190). The harmonic request before the hold request is the model's
choice, and so is that R190's 'grades' are the one vibration grade of R20, without the linked grades of R81 (entry 24). -/
def turbineMoreBytes (g : Grade) (harmonic hold : Bool) (ice : IceState) (a : AdviceRec) : List Byte :=
  u8 (gradeCode g) ++ uFlag harmonic ++ uFlag hold ++ u8 (iceStateCode ice) ++ u8 (adviceCode a.advice) ++ u8 a.limit ++
  u16 (timerTicks a.refresh) ++ uFlag a.owed

/-- Results of READ TURBINE for a turbine 1 to 24. -/
def turbineBytes (s : State) (t : Tid) : List Byte :=
  turbineRecBytes (s.turbines.get t) ++
  turbineMoreBytes (s.vib.grades.get t) (curtailRequested s t) (holdRequested s t) (s.ice.get t).state (s.advice.recs.get t)

/-- Results of READ TURBINE for turbine 0: present YES and the grid state, every other field zero or none (R20). That the grid
state stands last is the model's choice (entry 24). -/
def headBytes (s : State) : List Byte :=
  turbineRecBytes { TurbineRec.reset with present := true } ++
  turbineMoreBytes .unknown false false .clear { advice := .none, limit := 0, refresh := none, owed := false } ++
  u8 (gridStateCode s.harm.grid.state)

/-! ## READ SPEED (R37) -/

/-- Results of READ SPEED. -/
def speedBytes (r : SpeedRec) : List Byte :=
  u8 (speedStateCode r.state) ++ noneOnes 4 r.speed ++ noneZero 4 r.period ++ uTime r.reference ++ u16 r.edges ++
  uTime r.lastCounted ++ uTime r.lastMarker ++ u8 r.consecSlips ++ u8 r.goodRun ++ u8 (timerTicks r.stopTimer) ++
  uCounts [r.spacingRejects, r.disorderRejects, r.slips, r.lost]

/-! ## READ BANDS (R86) -/

/-- Window state: NONE 0, OPEN 1, CLOSING 2 (R67). -/
def windowStateCode (w : Option VibWindow) : Nat :=
  match w with
  | none => 0
  | some w => if w.closing.isSome then 2 else 1

/-- Window type: AUTOMATIC 0, TEST 1, none all ones (R67). -/
def windowTypeBytes (w : Option VibWindow) : List Byte := noneOnes 1 (w.map (fun w => flagCode w.test))

/-- One band of a READ BANDS reply (R86, R194). -/
def bandBytes (ice : IceState) (b : Band) (x : BandState) : List Byte :=
  u8 (bandKindCode b.kind) ++ noneOnes 4 x.latest ++ u8 (gradeCode x.grade) ++ u8 x.exceed ++ u8 x.alarm ++ u8 x.fall ++
  uFlag x.beyond ++ uFlag (frozen ice b)

/-- Every band of a set with its state. -/
def bandsBytes (ice : IceState) : List Band → List BandState → List Byte
  | b :: bs, x :: xs => bandBytes ice b x ++ bandsBytes ice bs xs
  | _, _ => []

/-- Results of READ BANDS for a record of a turbine. The last mean speed has the values of R52, 1 to 65,535, and takes 2 bytes
with none as 0; the last test's cause takes the place in R67's list of causes as its code, none being 255, which is the model's
choice (entry 45). -/
def vibBytes (s : State) (t : Tid) (set : BandSet) (r : VibRec) : List Byte :=
  u8 (windowStateCode r.window) ++ windowTypeBytes r.window ++ u8 ((r.window.map (fun w => w.revs)).getD 0) ++
  u8 ((r.window.map (fun w => w.target)).getD 0) ++ u16 ((r.window.map (fun w => w.samples.length)).getD 0) ++
  uFlag r.testPending ++ u8 (testOutcomeCode (r.lastTest.map (fun o => o.1))) ++
  noneOnes 1 ((r.lastTest.bind (fun o => o.2)).map (fun c => (causeIndex c).val)) ++ u8 (gradeCode r.grade) ++
  noneZero 2 r.meanSpeed ++ u8 r.skip ++ u8 r.post ++ uCounts [r.queued, r.graded, r.discarded] ++
  uCounts r.abandoned.toList ++ u8 set.bands.length ++
  bandsBytes (s.ice.get t).state set.bands (fitBands set.bands.length r.bands)

/-! ## READ GRID and READ CONTRIBUTORS (R109) -/

/-- Former state: SUSPENDED 0, WAITING 1, OPEN 2, the order of R88. R194 codes no state that only prose names: these codes are
the model's choice (entry 24). -/
def formerCode : Former → Nat
  | .suspended => 0
  | .waiting => 1
  | .opened _ => 2

/-- Cycles counted in an open window (R109). What the byte holds while no window is open no rule states: that it is sent, and
as 0, is the model's choice (entry 60). -/
def cyclesCounted : Former → Nat
  | .opened w => w.cycles
  | .suspended => 0
  | .waiting => 0

/-- The grid record (R98, R100). -/
def gridRecBytes (g : GridRec) : List Byte :=
  u8 (gridStateCode g.state) ++ u8 g.exceedRun ++ u8 g.cleanRun ++ noneOnes 8 g.onset ++ u8 g.escalation ++ uFlag g.armed ++
  u8 g.requests.length ++ (g.requests.map (fun t => u8 (tnum t))).flatten ++ noneOnes 1 (g.verdict.map verdictCode) ++
  noneZero 1 g.worst ++ noneOnes 4 g.worstRatio ++ noneOnes 4 g.thdV ++ noneOnes 4 g.thdI ++ noneZero 2 g.meanFund ++
  (g.fundamentals.toList.map (noneOnes 4)).flatten

/-- Results of READ GRID: the former state, the grid record and the further items (R109, R194). R109 names the cycles counted with
the former's state, and R194 moves that state to the front without saying whether the cycles go with it: that they stand after the
grid record is the model's choice (entry 60). -/
def gridBytes (s : State) : List Byte :=
  let h := s.harm
  u8 (formerCode h.former) ++ gridRecBytes h.grid ++ u8 (cyclesCounted h.former) ++ u16 h.detector.h ++ u8 h.summary ++
  uCounts [h.queued, h.analysed, h.exceedings, h.omissions, h.discarded] ++ uCounts h.abandoned.toList

/-- One place of a READ CONTRIBUTORS reply: turbine, current, service mode, hold request, curtail request. -/
def placeBytes (s : State) (p : Place) : List Byte :=
  u8 (tnum p.turbine) ++ u32 p.current ++ uFlag (s.turbines.get p.turbine).service ++ uFlag (holdRequested s p.turbine) ++
  uFlag (curtailRequested s p.turbine)

/-- Results of READ CONTRIBUTORS. -/
def contributorBytes (s : State) : List Byte :=
  u8 s.harm.contributors.length ++ (s.harm.contributors.map (placeBytes s)).flatten

/-! ## READ ICE, READ ITEM and READ COUNTERS (R113, R135, R144) -/

/-- Results of READ ICE. -/
def iceBytes (s : State) (t : Tid) : List Byte :=
  let r := s.ice.get t
  u8 (iceStateCode r.state) ++ u8 r.evidence ++ u16 r.blockCount ++ u32 r.blockSum ++ noneOnes 2 r.lastMean ++
  uFlag r.reportsLive ++ uFlag r.warm ++ noneSigned r.lastAmbient ++ u32 r.thawTimer ++ u8 r.trial ++
  uCounts [r.qualifying, r.skipped, r.ended] ++ uCounts r.discarded.toList ++ uFlag (holdRequested s t) ++
  u16 s.active.curveGen

/-- The linked grade of an item's link, UNKNOWN where it has none (R144). -/
def itemLinkedGrade (s : State) (it : Item) : Grade :=
  match it.link with
  | some l => (s.vib.linked.get it.turbine).get l.bandSet
  | none => .unknown

/-- Results of READ ITEM: a flag that is 1 for an empty slot; for an item its fields, v, the thresholds and the linked
grade. -/
def itemBytes (s : State) (i : ItemId) : List Byte :=
  match s.items.get i with
  | none => uFlag true
  | some it =>
    uFlag false ++ u8 (tnum it.turbine) ++ u16 it.label ++ u8 (basisCode it.basis) ++ u32 it.interval ++ u32 it.lead ++
    u32 it.margin ++ u32 it.lastDone ++ u32 it.duePoint ++ noneOnes 4 it.signOff ++ linkBytes it.link ++
    u8 (itemStateCode it.state) ++ u32 (basisValue s it.turbine it.basis) ++ u32 (comingThreshold it) ++
    u32 (overdueThreshold it) ++ u8 (gradeCode (itemLinkedGrade s it))

/-- Results of READ COUNTERS: five main counters, four sub-counters, three gates. -/
def counterBytes (u : Usage) : List Byte :=
  uCounts [u.main.run, u.main.krev, u.main.starts, u.main.ice, u.main.curtailed] ++
  u16 u.run.ticks ++ u16 u.revSub ++ u16 u.ice.ticks ++ u16 u.curtailed.ticks ++
  uFlag u.run.gate ++ uFlag u.ice.gate ++ uFlag u.curtailed.gate

end Sys2Proof.Machine
end

