-- ==== Sys2Proof/Machine/Image.lean ====
section
/-! DEFINITION. Machine/Image.lean: the records of the store image: the contents a record is written with, its check, and what
a record that reads as good gives (R148). The bytes of the contents are the model's choice (entry 48). -/

namespace Sys2Proof.Machine

/-! ## Writing a record -/

/-- Position of a record in the image: the header 0, turbine blocks 1 to 24, item records 25 to 120 (R148). -/
def recordPos : StoreRecord → RecordPos
  | .header => 0
  | .block t _ => ⟨t.val + 1, by omega⟩
  | .item i _ => ⟨i.val + 25, by omega⟩

/-- Contents of the header: format number 1 (R148). -/
def headerContents : List Byte := u8 1

/-- Contents of a turbine block: the five main counters in the order of R135. -/
def blockContents (c : MainCounters) : List Byte := uCounts [c.run, c.krev, c.starts, c.ice, c.curtailed]

/-- Contents of an item record: the empty mark 0, or 1 and every field of R140 in its order. -/
def itemContents : Option Item → List Byte
  | none => u8 0
  | some it =>
    u8 1 ++ u8 (tnum it.turbine) ++ u16 it.label ++ u8 (basisCode it.basis) ++ u32 it.interval ++ u32 it.lead ++
    u32 it.margin ++ u32 it.lastDone ++ u32 it.duePoint ++ noneOnes 4 it.signOff ++ linkBytes it.link ++
    u8 (itemStateCode it.state)

/-- Contents of a record. -/
def recordContents : StoreRecord → List Byte
  | .header => headerContents
  | .block _ c => blockContents c
  | .item _ it => itemContents it

/-- Contents with the check taken over them (R148). -/
def sealed (bs : List Byte) : RawRecord := { contents := bs, check := crc16 bs }

/-! ## Reading a record -/

/-- Whether a record's check matches its contents (R148). -/
def checkMatches (r : RawRecord) : Bool := decide (crc16 r.contents = r.check)

/-- Whether a header reads as good: its check matches and its format number is 1 (R148). -/
def headerGood (r : RawRecord) : Bool := checkMatches r && decide (r.contents = headerContents)

/-- The main counters that a turbine block's contents give; every value of four bytes is in range (R135). -/
def countersOf (bs : List Byte) : Option MainCounters :=
  if bs.length = 20 then
    some { run := fieldAt bs 0 4, krev := fieldAt bs 4 4, starts := fieldAt bs 8 4, ice := fieldAt bs 12 4,
           curtailed := fieldAt bs 16 4 }
  else none

/-- Link state of a code (R140, R194). -/
def linkStateOf : Nat → Option LinkState
  | 0 => some .armed
  | 1 => some .spent
  | 2 => some .owed
  | _ => none

/-- Item state of a code (R140, R194). -/
def itemStateOf : Nat → Option ItemState
  | 0 => some .waiting
  | 1 => some .coming
  | 2 => some .due
  | 3 => some .overdue
  | _ => none

/-- The condition link that the link bytes of an item record give, none where a field is out of its range (R140). -/
def storedLink (bs : List Byte) : Option (Option Link) :=
  match flagOf (byteAt bs 0) with
  | none => none
  | some false => some none
  | some true =>
    match placeOf 32 (byteAt bs 1), linkGradeOf (byteAt bs 2), linkStateOf (byteAt bs 7) with
    | some b, some g, some st =>
      if fieldAt bs 3 4 ≤ 1000000000 then some (some { bandSet := b, alarm := g, pullIn := fieldAt bs 3 4, state := st })
      else none
    | _, _, _ => none

/-- A last sign-off day of four bytes, all ones being none. -/
def storedSignOff (n : Nat) : Option Nat := if n = countTop then none else some n

/-- Whether the numbers of an item lie in their ranges (R140); the other fields are in range by their types. -/
def itemInRange (it : Item) : Bool :=
  decide (it.label ≤ 65535) && inRange 1 1000000000 it.interval && decide (it.lead ≤ it.interval) &&
  decide (it.margin ≤ 1000000000) && decide (it.lastDone ≤ countTop) && decide (it.duePoint ≤ countTop) &&
  it.signOff.all (fun d => decide (d ≤ 65535)) &&
  it.link.all (fun l => decide (l.pullIn ≤ 1000000000))

/-- The item that an item record's contents give, none where a field is out of its range (R140, R148). -/
def storedItem (bs : List Byte) : Option Item :=
  match turbineOf (byteAt bs 1), basisOf (byteAt bs 4), storedLink ((bs.drop 29).take 8), itemStateOf (byteAt bs 37) with
  | some t, some b, some l, some st =>
    let it : Item :=
      { turbine := t, label := fieldAt bs 2 2, basis := b, interval := fieldAt bs 5 4, lead := fieldAt bs 9 4,
        margin := fieldAt bs 13 4, lastDone := fieldAt bs 17 4, duePoint := fieldAt bs 21 4,
        signOff := storedSignOff (fieldAt bs 25 4), link := l, state := st }
    if itemInRange it then some it else none
  | _, _, _, _ => none

/-- What an item record's contents give: the empty mark, or an item (R148). -/
def itemOf (bs : List Byte) : Option (Option Item) :=
  if bs = u8 0 then some none
  else if bs.length = 38 ∧ byteAt bs 0 = 1 then (storedItem bs).map some
  else none

/-- What a record gives where its check matches its contents (R148). -/
def readGood {α : Type} (contents : List Byte → Option α) (r : RawRecord) : Option α :=
  if checkMatches r then contents r.contents else none

/-! ## The image -/

/-- Whether the header reads as good (R148). -/
def Image.header (im : Image) : Bool := headerGood (im.records.get 0)

/-- The main counters of a turbine's block, where it reads as good (R148). -/
def Image.block (im : Image) (t : Tid) : Option MainCounters :=
  readGood countersOf (im.records.get ⟨t.val + 1, by omega⟩)

/-- What an item slot's record gives, where it reads as good; `some none` is the empty mark (R148). -/
def Image.item (im : Image) (i : ItemId) : Option (Option Item) := readGood itemOf (im.records.get ⟨i.val + 25, by omega⟩)

/-- Every turbine block as it reads. -/
def Image.blocks (im : Image) : Tab (Option MainCounters) 24 := tabOf im.block

/-- Every item record as it reads. -/
def Image.items (im : Image) : Tab (Option (Option Item)) 96 := tabOf im.item

/-- The image with a record put at its position as the store holds it. -/
def imagePut (im : Image) (r : StoreRecord) (raw : RawRecord) : Image := { records := put im.records (recordPos r) raw }

/-- The image with a record written: its contents and their check (R148, R151). -/
def imageWith (im : Image) (r : StoreRecord) : Image := imagePut im r (sealed (recordContents r))

/-- The image after a write of a record that did not verify, or that was interrupted and is no header (R153, R157; entry 15). -/
def imageTorn (im : Image) (r : StoreRecord) : TornRecord → Image
  | .old => im
  | .new => imageWith im r
  | .mixed held => imagePut im r held

/-! ## An interrupted write (R157; entry 15) -/

/-- Contents with a check that does not match them. -/
def spoiled (bs : List Byte) : RawRecord := { contents := bs, check := ~~~crc16 bs }

/-- The header as an interruption of its own write leaves it: whatever it holds, it does not read as good (R157; entry 15). -/
def headerInterrupted (im : Image) : TornRecord → RawRecord
  | .old => spoiled (im.records.get 0).contents
  | .new => spoiled headerContents
  | .mixed held => if headerGood held then spoiled held.contents else held

/-- The image after a start-up that interrupted the write of a record: a header is not good, and any other record holds its old
contents, the new ones, or a mix (R157; entry 15). -/
def imageCut (im : Image) (r : StoreRecord) (torn : TornRecord) : Image :=
  match r with
  | .header => imagePut im .header (headerInterrupted im torn)
  | .block t c => imageTorn im (.block t c) torn
  | .item i it => imageTorn im (.item i it) torn

end Sys2Proof.Machine
end

