-- ==== Sys2Proof/Machine/Store.lean ====
section
/-! DEFINITION. Machine/Store.lean: the Store Controller: the image's records, checkpoints, writes and the restore
(chapter 9). -/

namespace Sys2Proof.Machine

/-- The last position of the image (R148). -/
def lastPos : Nat := 120

/-- What the record at a position holds now, read from its owners (R148, R151): position 0 the header, 1 to 24 the
turbine blocks, 25 to 120 the item records. -/
def readRecord (s : State) (pos : Nat) : StoreRecord :=
  if pos = 0 then .header
  else
    match placeOf 24 (pos - 1) with
    | some t => .block t (s.usage.get t).main
    | none =>
      match placeOf 96 (pos - 25) with
      | some i => .item i (s.items.get i)
      | none => .header

/-- The image that an interruption of the present write leaves (R157). -/
def imageInterrupted (s : State) (torn : TornRecord) : Image :=
  match s.store.state with
  | .writing _ r => imageCut s.image r torn
  | .absent => s.image
  | .idle => s.image
  | .faulted => s.image

/-- A SAVE COUNTERS that waits takes the first write that starts after it was accepted (R154). -/
def saveStarted : UnitState → UnitState
  | .save o _ => .save o true
  | .ready => .ready
  | .commit p => .commit p
  | .restart g => .restart g

/-- A write begun at record 0 (R151). -/
def startWrite (s : State) : State :=
  { s with
    store := { s.store with state := .writing 0 (readRecord s 0), started := bump s.store.started },
    cmd := saveStarted s.cmd }

/-- A checkpoint requested of the Store Controller (R150, R152). -/
def requestCheckpoint (s : State) : State :=
  match s.store.state with
  | .absent => s
  | .idle => startWrite s
  | .faulted => startWrite s
  | .writing _ _ => { s with store := { s.store with pending := true } }

/-- The end of a write: a pending write starts at once, otherwise the state is as given (R152). -/
def afterWrite (s : State) (st : StoreState) : State :=
  if s.store.pending then startWrite { s with store := { s.store with pending := false, state := st } }
  else { s with store := { s.store with state := st } }

/-- The command a SAVE COUNTERS reply answers: code 48 (R192). -/
def saveCode : Nat := 48

/-- The end of the write a SAVE COUNTERS waited on: its reply, and the unit READY (R154). `fault` is the failed position
where the write failed. -/
def endSave (s : State) (fault : Option Nat) : State :=
  match s.cmd with
  | .save o true =>
    match fault with
    | none => replyDone { s with cmd := .ready } o saveCode []
    | some p => replyRefused { s with cmd := .ready } o saveCode .storeFault p
  | .save _ false => s
  | .ready => s
  | .commit _ => s
  | .restart _ => s

/-- The completion of a write whose every record verified (R151, R152, R153). No rule orders STORE_OK and the REPLY of a SAVE
COUNTERS that waits on the write (R154): that the finding comes first is the model's choice (entry 17). -/
def writeCompleted (s : State) : State :=
  let s1 := { s with store := { s.store with completed := bump s.store.completed, faultRaised := false } }
  let s2 := if s.store.faultRaised then raise s1 .storeOk none .none [vNat s.store.failed] else s1
  afterWrite (endSave s2 none) .idle

/-- A write ended by a record that did not verify (R152, R153). No rule orders STORE_FAULT and the REPLY of a SAVE COUNTERS that
waits on the write (R154): that the finding comes first is the model's choice (entry 17). -/
def writeFailed (s : State) (pos : Nat) : State :=
  let s1 := { s with store := { s.store with failed := bump s.store.failed, failedPos := some pos, faultRaised := true } }
  let s2 :=
    if s.store.faultRaised then s1
    else raise s1 .storeFault none .none [vNat pos, vNat (bump s.store.failed)]
  afterWrite (endSave s2 (some pos)) .faulted

/-- The end of one record's write and read-back (R151, R153). -/
def recordWritten (s : State) (r : WriteResult) : State :=
  match s.store.state with
  | .writing pos latched =>
    match r with
    | .verified =>
      let s1 := { s with image := imageWith s.image latched }
      if pos < lastPos then
        { s1 with store := { s1.store with state := .writing (pos + 1) (readRecord s1 (pos + 1)) } }
      else writeCompleted s1
    | .failed left => writeFailed { s with image := imageTorn s.image latched left } pos
  | .absent => s
  | .idle => s
  | .faulted => s

/-! ## The restore (R155, R156) -/

/-- The store result that STARTED carries (R155, R173). -/
inductive StoreResult where
  | good
  | part
  | invalid
  | absent
  deriving DecidableEq, Repr

/-- Code of a store result (R194). -/
def storeResultCode : StoreResult → Nat
  | .good => 0
  | .part => 1
  | .invalid => 2
  | .absent => 3

/-- The main counters a turbine block gives, where the store answered its record and it is good (R155). -/
def restoredBlock (im : Image) (answered : Nat) (t : Tid) : Option MainCounters :=
  if t.val + 1 < answered then im.block t else none

/-- What an item record gives, where the store answered it and it is good (R155). -/
def restoredItem (im : Image) (answered : Nat) (i : ItemId) : Option (Option Item) :=
  if i.val + 25 < answered then im.item i else none

/-- Number of turbine blocks that were not good (R155). -/
def badBlocks (im : Image) (answered : Nat) : Nat :=
  (allTurbines.filter (fun t => (restoredBlock im answered t).isNone)).length

/-- Number of item records that were not good (R155). -/
def badItems (im : Image) (answered : Nat) : Nat :=
  (allItems.filter (fun i => (restoredItem im answered i).isNone)).length

/-- The result of a restore from an image of which the store answered the first `answered` records (R155). -/
def restoreResult (im : Image) (answered : Nat) : StoreResult :=
  if answered = 0 then .absent
  else if im.header = false then .invalid
  else if badBlocks im answered = 0 ∧ badItems im answered = 0 then .good
  else .part

/-- Whether the records after the header are read (R155). -/
def recordsRead : StoreResult → Bool
  | .good => true
  | .part => true
  | .invalid => false
  | .absent => false

/-- Counters and items as the restore leaves them (R155). -/
def fillRestored (s : State) (answered : Nat) : State :=
  if recordsRead (restoreResult s.image answered) then
    { s with
      usage := tabOf (fun t => { s.usage.get t with main := (restoredBlock s.image answered t).getD .zero }),
      items := tabOf (fun i => (restoredItem s.image answered i).getD none) }
  else
    { s with usage := mapTab (fun u => { u with main := .zero }) s.usage, items := Vector.replicate 96 none }

/-- The store state and the interval timer as the restore leaves them (R150, R155). -/
def storeAfterRestore (s : State) (answered : Nat) : State :=
  match restoreResult s.image answered with
  | .absent => { s with store := { s.store with state := .absent } }
  | .invalid => { s with store := { s.store with state := .idle, timer := loadTimer (s.active.settings.ckptInterval * 36000) } }
  | .part => { s with store := { s.store with state := .idle, timer := loadTimer (s.active.settings.ckptInterval * 36000) } }
  | .good => { s with store := { s.store with state := .idle, timer := loadTimer (s.active.settings.ckptInterval * 36000) } }

/-- The numbers of turbine blocks and item records that were not good, 0 where none were read (R155, R173; entry 26). -/
def badCounts (im : Image) (answered : Nat) : Nat × Nat :=
  if recordsRead (restoreResult im answered) then (badBlocks im answered, badItems im answered) else (0, 0)

/-- The finding of a restore (R155). -/
def restoreFinding (s : State) (im : Image) (answered : Nat) : State :=
  match restoreResult im answered with
  | .absent => raise s .storeAbsent none .none []
  | .invalid => raise s .storeInvalid none .none []
  | .part => raise s .storePartial none .none [vNat (badCounts im answered).1, vNat (badCounts im answered).2]
  | .good => s

end Sys2Proof.Machine
end

