-- ==== Sys2Proof/Machine/Commands.lean ====
section
/-! DEFINITION. Machine/Commands.lean: the Command Unit (chapter 12): its checks, and what each of the 38 commands of R192
does past them. `doX` is what the unit does with command X in READY. -/

namespace Sys2Proof.Machine

/-- A refusal BAD_PARAMETER with a parameter's index (R181, R182). -/
def badParam (s : State) (o : Origin) (code index : Nat) : State := replyRefused s o code .badParameter index

/-- A refusal BAD_ENTRY with an entry's index (R182, R184). -/
def badEntry (s : State) (o : Origin) (code index : Nat) : State := replyRefused s o code .badEntry index

/-- What is done for a turbine 1 to 24 named by parameter 1, a number outside being refused. -/
def forTurbine (s : State) (o : Origin) (code k : Nat) (f : Tid → State) : State :=
  match turbineOf k with
  | some t => f t
  | none => badParam s o code 1

/-- What is done for a slot 0 to 191 named by parameter 1, a number outside being refused. -/
def forSlot (s : State) (o : Origin) (code k : Nat) (f : SlotId → State) : State :=
  match placeOf 192 k with
  | some i => f i
  | none => badParam s o code 1

/-- What is done for an item slot 0 to 95 named by parameter 1, a number outside being refused. -/
def forItem (s : State) (o : Origin) (code k : Nat) (f : ItemId → State) : State :=
  match placeOf 96 k with
  | some i => f i
  | none => badParam s o code 1

/-! ## Reads (R190) -/

/-- READ STATUS. -/
def doReadStatus (o : Origin) (s : State) : State := replyDone s o 1 (statusBytes s)

/-- READ STREAM. -/
def doReadStream (o : Origin) (slot : Nat) (s : State) : State :=
  forSlot s o 2 slot (fun i => replyDone s o 2 (streamBytes s i))

/-- READ TURBINE; turbine 0 is the string head (R20). -/
def doReadTurbine (o : Origin) (turbine : Nat) (s : State) : State :=
  if turbine = 0 then replyDone s o 3 (headBytes s)
  else forTurbine s o 3 turbine (fun t => replyDone s o 3 (turbineBytes s t))

/-- READ SPEED (R37). -/
def doReadSpeed (o : Origin) (turbine : Nat) (s : State) : State :=
  forTurbine s o 4 turbine (fun t => replyDone s o 4 (speedBytes (s.speeds.get t)))

/-- READ BANDS of a slot: one without a VIB entry is refused (R86). -/
def readBandsOf (o : Origin) (s : State) (i : SlotId) : State :=
  match entryAt s i, s.vib.recs.get i with
  | some e, some r =>
    match vibTurbine (some e) with
    | some t => replyDone s o 5 (vibBytes s t (setOf s e) r)
    | none => badParam s o 5 1
  | _, _ => badParam s o 5 1

/-- READ BANDS (R86). -/
def doReadBands (o : Origin) (slot : Nat) (s : State) : State := forSlot s o 5 slot (readBandsOf o s)

/-- READ GRID (R109). -/
def doReadGrid (o : Origin) (s : State) : State := replyDone s o 6 (gridBytes s)

/-- READ CONTRIBUTORS (R109). -/
def doReadContributors (o : Origin) (s : State) : State := replyDone s o 7 (contributorBytes s)

/-- READ ICE (R113). -/
def doReadIce (o : Origin) (turbine : Nat) (s : State) : State :=
  forTurbine s o 8 turbine (fun t => replyDone s o 8 (iceBytes s t))

/-- READ ITEM (R144). -/
def doReadItem (o : Origin) (slot : Nat) (s : State) : State :=
  forItem s o 9 slot (fun i => replyDone s o 9 (itemBytes s i))

/-- READ COUNTERS (R135). -/
def doReadCounters (o : Origin) (turbine : Nat) (s : State) : State :=
  forTurbine s o 10 turbine (fun t => replyDone s o 10 (counterBytes (s.usage.get t)))

/-! ## Loads (R184) -/

/-- LOAD STREAM: 1 to 16 pairs, checked in list order (R1, R2, R184). -/
def doLoadStream (o : Origin) (entries : List RawEntry) (s : State) : State :=
  if entries.length = 0 ∨ 16 < entries.length then badParam s o 16 1
  else
    match firstBadPair [] 1 entries with
    | some k => badEntry s o 16 k
    | none => replyDone (setStaged s { s.staged with streams := entries.foldl stageEntry s.staged.streams }) o 16 []

/-- The list position of the first slot outside 0 to 191, counting from `i` (R184). -/
def firstBadSlot (i : Nat) : List Nat → Option Nat
  | [] => none
  | k :: ks => if k < 192 then firstBadSlot (i + 1) ks else some i

/-- DROP STREAM: 1 to 16 slots (R184). -/
def doDropStream (o : Origin) (slots : List Nat) (s : State) : State :=
  if slots.length = 0 ∨ 16 < slots.length then badParam s o 17 1
  else
    match firstBadSlot 1 slots with
    | some k => badParam s o 17 k
    | none => replyDone (setStaged s { s.staged with streams := slots.foldl unstageSlot s.staged.streams }) o 17 []

/-- LOAD BANDSET: the settings are entry 0, the bands entries 1 to 12 (R65). R192's row has the bands third and R194 carries
their count second: that a count above 12 is refused with detail 2 is the model's choice (entry 54), and that the set is named
where both are out of range (entry 59). So is that settings out of range are refused beside an empty band list too (entry 64). -/
def doLoadBandset (o : Origin) (set : Nat) (settings : RawSetSettings) (bands : List RawBand) (s : State) : State :=
  match placeOf 32 set with
  | none => badParam s o 18 1
  | some b =>
    if 12 < bands.length then badParam s o 18 2
    else if setSettingsOk settings = false then badEntry s o 18 0
    else
      match firstBadBand 1 bands with
      | some k => badEntry s o 18 k
      | none => replyDone (setStaged s { s.staged with bands := put s.staged.bands b (bandSetOf settings bands) }) o 18 []

/-- LOAD LIMITS: 40 entries (R95). -/
def doLoadLimits (o : Origin) (entries : List RawLimit) (s : State) : State :=
  if entries.length ≠ 40 then badParam s o 19 0
  else
    match firstBadLimit 1 entries with
    | some k => badEntry s o 19 k
    | none => replyDone (setStaged s { s.staged with limits := limitsOf entries }) o 19 []

/-- LOAD CURVE: a class and 25 bins (R110). -/
def doLoadCurve (o : Origin) (cls : Nat) (bins : List Nat) (s : State) : State :=
  if bins.length ≠ 25 then badParam s o 20 0
  else
    match placeOf 4 cls with
    | none => badParam s o 20 1
    | some c =>
      match firstBadBin 3 bins with
      | some k => badEntry s o 20 k
      | none => replyDone (setStaged s { s.staged with curves := put s.staged.curves c (curveOf bins) }) o 20 []

/-- LOAD SETTINGS: 25 entries (R183, R184). -/
def doLoadSettings (o : Origin) (entries : List Nat) (s : State) : State :=
  if entries.length ≠ 25 then badParam s o 21 0
  else
    match firstBadSetting (settingAt entries 16) 1 entries with
    | some k => badEntry s o 21 k
    | none => replyDone (setStaged s { s.staged with settings := settingsOf entries }) o 21 []

/-- DISCARD STAGE (R185). -/
def doDiscardStage (o : Origin) (s : State) : State := replyDone (setStaged s (stageOfActive s)) o 22 []

/-- The timeout in ticks that COMMIT gives: 0 stands for 100 (R186). -/
def commitTicks (timeout : Nat) : Option Nat :=
  if timeout = 0 then some 100 else if 10 ≤ timeout ∧ timeout ≤ 600 then some timeout else none

/-- COMMIT past its parameter checks (R186 to R188). -/
def commitChecked (o : Origin) (immediate : Bool) (ticks : Nat) (s : State) : State :=
  match commitRefusal s with
  | some (why, detail) => replyRefused s o commitCode why detail
  | none => if immediate then commitNow s o else commitWaiting s o ticks

/-- COMMIT: mode IMMEDIATE 0 or AT_BOUNDARY 1, and a timeout (R186, R194); of the two out of range the mode is named
(entry 59). -/
def doCommit (o : Origin) (mode timeout : Nat) (s : State) : State :=
  if 1 < mode then badParam s o commitCode 1
  else
    match commitTicks timeout with
    | none => badParam s o commitCode 2
    | some ticks => commitChecked o (decide (mode = 0)) ticks s

/-! ## Turbines and streams (R14, R15, R22, R30, R32, R84) -/

/-- LOAD TURBINE (R22); of several parameters out of range the lowest index is named (entry 59). -/
def doLoadTurbine (o : Origin) (turbine present cls rated : Nat) (s : State) : State :=
  forTurbine s o 32 turbine (fun t =>
    match flagOf present with
    | none => badParam s o 32 2
    | some true =>
      if 3 < cls then badParam s o 32 3
      else if inRange 1 32767 rated = false then badParam s o 32 4
      else replyDone (loadConfiguration s t true cls rated) o 32 []
    | some false => replyDone (loadConfiguration s t false 0 0) o 32 [])

/-- HOLD STREAM of a slot (R14). -/
def holdStreamOf (o : Origin) (s : State) (i : SlotId) : State :=
  match (s.streams.slots.get i).state, entryAt s i with
  | .idle, some e => replyDone (holdSlot s i e) o 33 []
  | .live, some e => replyDone (holdSlot s i e) o 33 []
  | .silent, some e => replyDone (holdSlot s i e) o 33 []
  | .held, _ => replyDone s o 33 []
  | _, _ => badParam s o 33 1

/-- HOLD STREAM (R14). -/
def doHoldStream (o : Origin) (slot : Nat) (s : State) : State := forSlot s o 33 slot (holdStreamOf o s)

/-- RESUME STREAM of a slot (R15). -/
def resumeStreamOf (o : Origin) (s : State) (i : SlotId) : State :=
  match (s.streams.slots.get i).state with
  | .empty => badParam s o 34 1
  | .held => replyDone (resumeSlot s i) o 34 []
  | .idle => replyDone s o 34 []
  | .live => replyDone s o 34 []
  | .silent => replyDone s o 34 []
  | .faulty => replyDone s o 34 []

/-- RESUME STREAM (R15). -/
def doResumeStream (o : Origin) (slot : Nat) (s : State) : State := forSlot s o 34 slot (resumeStreamOf o s)

/-- BEGIN SERVICE (R30); of the two parameters out of range the turbine is named (entry 59). -/
def doBeginService (o : Origin) (turbine limit : Nat) (s : State) : State :=
  forTurbine s o 35 turbine (fun t =>
    if 72 < limit then badParam s o 35 2
    else if (s.turbines.get t).present = false then replyRefused s o 35 .notPresent 0
    else replyDone (beginServiceOn s t limit) o 35 [])

/-- END SERVICE (R32). -/
def doEndService (o : Origin) (turbine : Nat) (s : State) : State :=
  forTurbine s o 36 turbine (fun t => replyDone (endServiceOn s t) o 36 [])

/-- Whether a slot holds a VIB entry whose source is a turbine, and is LIVE (R84). -/
def testable (s : State) (t : Tid) (i : SlotId) : Bool :=
  decide ((s.streams.slots.get i).state = .live) && decide (vibTurbine (entryAt s i) = some t)

/-- Whether a test is pending on a slot, or its window open or closing (R84). -/
def testWaiting (s : State) (i : SlotId) : Bool :=
  match s.vib.recs.get i with
  | some r =>
    r.testPending ||
    match r.window with
    | some w => w.test
    | none => false
  | none => false

/-- TRIGGER WINDOW past its parameter ranges (R84). -/
def triggerOn (o : Origin) (s : State) (t : Tid) (i : SlotId) : State :=
  if (s.turbines.get t).present = false then replyRefused s o 37 .notPresent 0
  else if (s.turbines.get t).service = false then replyRefused s o 37 .notInService 0
  else if testable s t i = false then badParam s o 37 2
  else if (s.speeds.get t).state ≠ .tracking then badParam s o 37 1
  else if testWaiting s i then replyRefused s o 37 .windowPending 0
  else replyDone (updVib s i (fun r => { r with testPending := true })) o 37 []

/-- TRIGGER WINDOW (R84); of the two parameters out of range the turbine is named (entry 59). -/
def doTriggerWindow (o : Origin) (turbine slot : Nat) (s : State) : State :=
  forTurbine s o 37 turbine (fun t =>
    match placeOf 192 slot with
    | none => badParam s o 37 2
    | some i => triggerOn o s t i)

/-! ## Items and counters (R138, R143, R144, R147) -/

/-- The item that LOAD ITEM gives, before its evaluation (R143); `v` is the present basis value. -/
def newItem (t : Tid) (b : Basis) (r : RawItem) (v : Nat) : Item :=
  let last := if r.current = 1 then v else r.point
  { turbine := t, label := r.label, basis := b, interval := r.interval, lead := r.lead, margin := r.margin,
    lastDone := last, duePoint := heldSum last r.interval, signOff := none, link := r.link.bind linkOf, state := .waiting }

/-- LOAD ITEM past its parameter ranges (R143). -/
def loadItemAt (o : Origin) (s : State) (i : ItemId) (t : Tid) (b : Basis) (r : RawItem) : State :=
  if (s.turbines.get t).present = false then replyRefused s o 38 .notPresent 0
  else if b = .days ∧ r.current = 1 ∧ s.clock.state = .unset then replyRefused s o 38 .clockUnset 0
  else
    replyDone (evaluateItem { s with items := put s.items i (some (newItem t b r (basisValue s t b))) } i) o 38 []

/-- LOAD ITEM (R143). -/
def doLoadItem (o : Origin) (slot : Nat) (r : RawItem) (s : State) : State :=
  if linkBytesFit r = false then badParam s o 38 0
  else
    match firstBadItemParam slot r, placeOf 96 slot, turbineOf r.turbine, basisOf r.basis with
    | none, some i, some t, some b => loadItemAt o s i t b r
    | some k, _, _, _ => badParam s o 38 k
    | none, _, _, _ => badParam s o 38 1

/-- CLEAR ITEM (R144). -/
def doClearItem (o : Origin) (slot : Nat) (s : State) : State :=
  forItem s o 39 slot (fun i => replyDone { s with items := put s.items i none } o 39 [])

/-- The link state that a sign-off gives (R147): ARMED where the present linked grade is GOOD, or ALERT with link grade
ALARM. -/
def signOffLink (g : Grade) (l : Link) : Link :=
  { l with state := if g = .good ∨ (g = .alert ∧ l.alarm = true) then .armed else .spent }

/-- The item as a sign-off leaves it, before its evaluation (R147); `v` is the present basis value. -/
def signedOff (s : State) (it : Item) (v : Nat) : Item :=
  { it with lastDone := v, duePoint := heldSum v it.interval,
            signOff := some (if s.clock.state = .unset then 0 else s.clock.day),
            link := it.link.map (signOffLink (itemLinkedGrade s it)) }

/-- SIGN OFF of an item slot (R147). -/
def signOffAt (o : Origin) (s : State) (i : ItemId) : State :=
  match s.items.get i with
  | none => badParam s o 40 1
  | some it =>
    if (s.turbines.get it.turbine).service = false then replyRefused s o 40 .notInService 0
    else if it.basis = .days ∧ s.clock.state = .unset then replyRefused s o 40 .clockUnset 0
    else
      let s1 := { s with items := put s.items i (some (signedOff s it (basisValue s it.turbine it.basis))) }
      replyDone (requestCheckpoint (evaluateItem s1 i)) o 40 []

/-- SIGN OFF (R147). -/
def doSignOff (o : Origin) (slot : Nat) (s : State) : State := forItem s o 40 slot (signOffAt o s)

/-- A main counter written by SET COUNTER, its sub-counter 0 where it has one (R138). -/
def writtenUsage (u : Usage) (b : Basis) (n : Nat) : Usage :=
  let u1 := { u with main := setMain u.main b n }
  match b with
  | .run => { u1 with run := { u1.run with ticks := 0 } }
  | .krev => { u1 with revSub := 0 }
  | .ice => { u1 with ice := { u1.ice with ticks := 0 } }
  | .curtailed => { u1 with curtailed := { u1.curtailed with ticks := 0 } }
  | .starts => u1
  | .days => u1

/-- SET COUNTER on a turbine, past its parameter ranges (R138, R139). -/
def setCounterOf (o : Origin) (s : State) (t : Tid) (b : Basis) (value : Nat) : State :=
  if (s.turbines.get t).present = false then replyRefused s o 41 .notPresent 0
  else if (s.turbines.get t).service = false then replyRefused s o 41 .notInService 0
  else replyDone (counterAdvance { s with usage := upd s.usage t (fun u => writtenUsage u b value) } t b) o 41 []

/-- SET COUNTER (R138). R138 checks the turbine and the counter together and names neither where both are out of range: that
the refusal names the turbine, the lower index, is the model's choice (entry 59). -/
def doSetCounter (o : Origin) (turbine counter value : Nat) (s : State) : State :=
  forTurbine s o 41 turbine (fun t =>
    match counterOf counter with
    | none => badParam s o 41 2
    | some b => if countTop < value then badParam s o 41 3 else setCounterOf o s t b value)

/-! ## Ice and grid (R105, R125, R126) -/

/-- DECLARE ICE (R125). -/
def doDeclareIce (o : Origin) (turbine : Nat) (s : State) : State :=
  forTurbine s o 42 turbine (fun t =>
    if (s.turbines.get t).present = false then replyRefused s o 42 .notPresent 0
    else replyDone (declareIced s t) o 42 [])

/-- DECLARE CLEAR (R126). -/
def doDeclareClear (o : Origin) (turbine : Nat) (s : State) : State :=
  forTurbine s o 43 turbine (fun t =>
    if (s.turbines.get t).present = false then replyRefused s o 43 .notPresent 0
    else replyDone (declareCleared s t) o 43 [])

/-- CLEAR GRID (R105): RELEASED 0, PENDING 1, NOT_IN_CONDITION 2. -/
def doClearGrid (o : Origin) (s : State) : State :=
  match s.harm.grid.state, s.harm.grid.verdict with
  | .condition, some .clean => replyDone (releaseGrid s .clearGrid) o 44 (u8 0)
  | .condition, _ => replyDone (setGrid s { s.harm.grid with armed := true }) o 44 (u8 1)
  | .normal, _ => replyDone s o 44 (u8 2)
  | .exceeding, _ => replyDone s o 44 (u8 2)

/-! ## Clock (R130 to R132) -/

/-- The index of the first clock field out of range (R128, R130). R130 and R181 do not say which parameter is named where
several are out of range: the lowest index is the model's choice (entry 59). -/
def firstBadClockField (day hour minute second tenth mode : Nat) : Option Nat :=
  if 65535 < day then some 1
  else if 23 < hour then some 2
  else if 59 < minute then some 3
  else if 59 < second then some 4
  else if 9 < tenth then some 5
  else if 1 < mode then some 6
  else none

/-- The clock that SET CLOCK writes: RUNNING for start mode RUN (0), HELD for HOLD (1) (R130). -/
def setClockTo (c : Clock) (day hour minute second tenth mode : Nat) : Clock :=
  { c with state := if mode = 0 then .running else .held, day := day, hour := hour, minute := minute, second := second,
           tenth := tenth, heldTicks := 0 }

/-- SET CLOCK past its ranges; a rollover whose step waits is taken first (R130; entry 8). -/
def setClockOn (s : State) (day hour minute second tenth mode : Nat) : State :=
  let s0 := takeRollover s
  let s1 := { s0 with clock := setClockTo s0.clock day hour minute second tenth mode }
  if s0.clock.state = .unset ∨ s0.clock.day ≠ day then dayChange s1 else s1

/-- SET CLOCK (R130). -/
def doSetClock (o : Origin) (day hour minute second tenth mode : Nat) (s : State) : State :=
  match firstBadClockField day hour minute second tenth mode with
  | some k => badParam s o 45 k
  | none => replyDone (setClockOn s day hour minute second tenth mode) o 45 []

/-- HOLD CLOCK on a RUNNING clock; a rollover whose step waits is taken first (R131; entry 8). -/
def holdClockOn (s : State) : State :=
  let s0 := takeRollover s
  { s0 with clock := { s0.clock with state := .held, heldTicks := 0 } }

/-- HOLD CLOCK (R131). -/
def doHoldClock (o : Origin) (s : State) : State :=
  match s.clock.state with
  | .unset => replyRefused s o 46 .clockUnset 0
  | .running => replyDone (holdClockOn s) o 46 []
  | .held => replyDone s o 46 []

/-- RELEASE CLOCK on a HELD clock (R132). -/
def releaseClockOn (s : State) : State :=
  let s1 := { s with clock := releasedClock s.clock }
  if s1.clock.day = s.clock.day then s1 else dayChange s1

/-- RELEASE CLOCK (R132). -/
def doReleaseClock (o : Origin) (s : State) : State :=
  match s.clock.state with
  | .unset => replyRefused s o 47 .clockUnset 0
  | .held => replyDone (releaseClockOn s) o 47 []
  | .running => replyDone s o 47 []

/-! ## Store, findings, advice, RESTART (R154, R163, R171, R191) -/

/-- SAVE COUNTERS (R154): the unit WORKING on the first write that starts after the command. -/
def doSaveCounters (o : Origin) (s : State) : State :=
  if s.store.state = .absent then replyRefused s o saveCode .storeAbsent 0
  else requestCheckpoint { s with cmd := .save o false }

/-- The Finding Unit with a mask set; turning it OFF purges the kind's records, with the check of R162 where one left;
turning on the mask of FINDINGS_LOST makes the check (R162, R163). -/
def maskedUnit (st : Stamp) (fu : FindingUnit) (k : FindingKind) (on : Bool) : FindingUnit :=
  let fu1 := { fu with masks := put fu.masks (kindIndex k) on }
  if on then (if k = .findingsLost then checkLost st fu1 else fu1)
  else if fu.queue.any (fun f => decide (f.kind = k)) then
    checkLost st { fu1 with queue := fu.queue.filter (fun f => !decide (f.kind = k)) }
  else fu1

/-- SET FINDING MASK on a kind (R163). -/
def setMask (s : State) (k : FindingKind) (on : Bool) : State :=
  if maskOn s.findings k = on then s
  else findingLook { s with findings := maskedUnit (stampOf s.clock) s.findings k on }

/-- SET FINDING MASK (R163); of the two parameters out of range the kind is named (entry 59). -/
def doSetFindingMask (o : Origin) (kind setting : Nat) (s : State) : State :=
  match kindOfCode kind with
  | none => badParam s o 49 1
  | some k =>
    match flagOf setting with
    | none => badParam s o 49 2
    | some on => replyDone (setMask s k on) o 49 []

/-- The advice mode set; a change computes every turbine's advice afresh (R171). -/
def setAdviceMode (s : State) (active : Bool) : State :=
  if s.advice.active = active then s else computeAllAdvice { s with advice := { s.advice with active := active } }

/-- ADVICE MODE: ACTIVE 0, SILENT 1 (R171, R194). -/
def doAdviceMode (o : Origin) (mode : Nat) (s : State) : State :=
  if 1 < mode then badParam s o 50 1 else replyDone (setAdviceMode s (decide (mode = 0))) o 50 []

/-- RESTART (R191): the reply offered, the unit WORKING until the reply has gone. -/
def doRestart (o : Origin) (s : State) : State :=
  { replyAs s .restartReply o 51 none [] with cmd := .restart (localFull s o.port) }

/-! ## Taking a command (R177, R181) -/

/-- Whether a port's receiver takes frames: the path is ACTIVE and the link UP (R172, R174). -/
def receives (s : State) (p : Port) : Bool := decide (s.standing = .active) && (portOf s p).up

/-- Whether a command is refused WRONG_PORT: it came on Port U without UMGT (R177). -/
def wrongPort (s : State) (o : Origin) : Bool := decide (o.port = .u) && !s.umgt

/-- An own-node COMMAND taken: refused WRONG_PORT, refused BUSY while the unit is WORKING, or handed on (R177, R181). -/
def takeCommand (o : Origin) (code : Nat) (body : State → State) (s : State) : State :=
  if wrongPort s o then replyRefused s o code .wrongPort 0
  else if s.cmd = .ready then body s
  else replyRefused s o code .busy 0

/-- The outcome of a command that arrives on a port: nothing reaches the part where the port's receiver takes no frame
(entries 2 and 3). -/
def command (o : Origin) (code : Nat) (body : State → State) (s : State) : Host.Outcome State Fault Refusal :=
  if receives s o.port then done (takeCommand o code body s) else .next s

end Sys2Proof.Machine
end

