-- ==== Sys2Proof/Machine/ExecCommands.lean ====
section
/-! DEFINITION. Machine/ExecCommands.lean: the meanings of the 38 management commands, each as an own-node COMMAND frame of
that code that a port's receiver has taken (entry 2). -/

namespace Sys2Proof.Machine

/-- READ_STATUS, code 1 (R190). -/
def execReadStatus (o : Origin) (s : State) : Host.Outcome State Fault Refusal := command o 1 (doReadStatus o) s

/-- READ_STREAM, code 2 (R190). -/
def execReadStream (o : Origin) (slot : Nat) (s : State) : Host.Outcome State Fault Refusal :=
  command o 2 (doReadStream o slot) s

/-- READ_TURBINE, code 3 (R190). -/
def execReadTurbine (o : Origin) (turbine : Nat) (s : State) : Host.Outcome State Fault Refusal :=
  command o 3 (doReadTurbine o turbine) s

/-- READ_SPEED, code 4 (R37). -/
def execReadSpeed (o : Origin) (turbine : Nat) (s : State) : Host.Outcome State Fault Refusal :=
  command o 4 (doReadSpeed o turbine) s

/-- READ_BANDS, code 5 (R86). -/
def execReadBands (o : Origin) (slot : Nat) (s : State) : Host.Outcome State Fault Refusal :=
  command o 5 (doReadBands o slot) s

/-- READ_GRID, code 6 (R109). -/
def execReadGrid (o : Origin) (s : State) : Host.Outcome State Fault Refusal := command o 6 (doReadGrid o) s

/-- READ_CONTRIBUTORS, code 7 (R109). -/
def execReadContributors (o : Origin) (s : State) : Host.Outcome State Fault Refusal :=
  command o 7 (doReadContributors o) s

/-- READ_ICE, code 8 (R113). -/
def execReadIce (o : Origin) (turbine : Nat) (s : State) : Host.Outcome State Fault Refusal :=
  command o 8 (doReadIce o turbine) s

/-- READ_ITEM, code 9 (R144). -/
def execReadItem (o : Origin) (slot : Nat) (s : State) : Host.Outcome State Fault Refusal :=
  command o 9 (doReadItem o slot) s

/-- READ_COUNTERS, code 10 (R135). -/
def execReadCounters (o : Origin) (turbine : Nat) (s : State) : Host.Outcome State Fault Refusal :=
  command o 10 (doReadCounters o turbine) s

/-- LOAD_STREAM, code 16 (R184). -/
def execLoadStream (o : Origin) (entries : List RawEntry) (s : State) : Host.Outcome State Fault Refusal :=
  command o 16 (doLoadStream o entries) s

/-- DROP_STREAM, code 17 (R184). -/
def execDropStream (o : Origin) (slots : List Nat) (s : State) : Host.Outcome State Fault Refusal :=
  command o 17 (doDropStream o slots) s

/-- LOAD_BANDSET, code 18 (R65). -/
def execLoadBandset (o : Origin) (set : Nat) (settings : RawSetSettings) (bands : List RawBand)
    (s : State) : Host.Outcome State Fault Refusal := command o 18 (doLoadBandset o set settings bands) s

/-- LOAD_LIMITS, code 19 (R95). -/
def execLoadLimits (o : Origin) (entries : List RawLimit) (s : State) : Host.Outcome State Fault Refusal :=
  command o 19 (doLoadLimits o entries) s

/-- LOAD_CURVE, code 20 (R110). -/
def execLoadCurve (o : Origin) (cls : Nat) (bins : List Nat) (s : State) : Host.Outcome State Fault Refusal :=
  command o 20 (doLoadCurve o cls bins) s

/-- LOAD_SETTINGS, code 21 (R184). -/
def execLoadSettings (o : Origin) (entries : List Nat) (s : State) : Host.Outcome State Fault Refusal :=
  command o 21 (doLoadSettings o entries) s

/-- DISCARD_STAGE, code 22 (R185). -/
def execDiscardStage (o : Origin) (s : State) : Host.Outcome State Fault Refusal := command o 22 (doDiscardStage o) s

/-- COMMIT, code 23 (R186 to R188). -/
def execCommit (o : Origin) (mode : Nat) (timeout : Nat) (s : State) : Host.Outcome State Fault Refusal :=
  command o commitCode (doCommit o mode timeout) s

/-- LOAD_TURBINE, code 32 (R22 to R24). -/
def execLoadTurbine (o : Origin) (turbine : Nat) (present : Nat) (cls : Nat) (rated : Nat)
    (s : State) : Host.Outcome State Fault Refusal := command o 32 (doLoadTurbine o turbine present cls rated) s

/-- HOLD_STREAM, code 33 (R14). -/
def execHoldStream (o : Origin) (slot : Nat) (s : State) : Host.Outcome State Fault Refusal :=
  command o 33 (doHoldStream o slot) s

/-- RESUME_STREAM, code 34 (R15). -/
def execResumeStream (o : Origin) (slot : Nat) (s : State) : Host.Outcome State Fault Refusal :=
  command o 34 (doResumeStream o slot) s

/-- BEGIN_SERVICE, code 35 (R30). -/
def execBeginService (o : Origin) (turbine : Nat) (limit : Nat) (s : State) : Host.Outcome State Fault Refusal :=
  command o 35 (doBeginService o turbine limit) s

/-- END_SERVICE, code 36 (R32). -/
def execEndService (o : Origin) (turbine : Nat) (s : State) : Host.Outcome State Fault Refusal :=
  command o 36 (doEndService o turbine) s

/-- TRIGGER_WINDOW, code 37 (R84). -/
def execTriggerWindow (o : Origin) (turbine : Nat) (slot : Nat) (s : State) : Host.Outcome State Fault Refusal :=
  command o 37 (doTriggerWindow o turbine slot) s

/-- LOAD_ITEM, code 38 (R143). -/
def execLoadItem (o : Origin) (slot : Nat) (item : RawItem) (s : State) : Host.Outcome State Fault Refusal :=
  command o 38 (doLoadItem o slot item) s

/-- CLEAR_ITEM, code 39 (R144). -/
def execClearItem (o : Origin) (slot : Nat) (s : State) : Host.Outcome State Fault Refusal :=
  command o 39 (doClearItem o slot) s

/-- SIGN_OFF, code 40 (R147). -/
def execSignOff (o : Origin) (slot : Nat) (s : State) : Host.Outcome State Fault Refusal :=
  command o 40 (doSignOff o slot) s

/-- SET_COUNTER, code 41 (R138). -/
def execSetCounter (o : Origin) (turbine : Nat) (counter : Nat) (value : Nat)
    (s : State) : Host.Outcome State Fault Refusal := command o 41 (doSetCounter o turbine counter value) s

/-- DECLARE_ICE, code 42 (R125). -/
def execDeclareIce (o : Origin) (turbine : Nat) (s : State) : Host.Outcome State Fault Refusal :=
  command o 42 (doDeclareIce o turbine) s

/-- DECLARE_CLEAR, code 43 (R126). -/
def execDeclareClear (o : Origin) (turbine : Nat) (s : State) : Host.Outcome State Fault Refusal :=
  command o 43 (doDeclareClear o turbine) s

/-- CLEAR_GRID, code 44 (R105). -/
def execClearGrid (o : Origin) (s : State) : Host.Outcome State Fault Refusal := command o 44 (doClearGrid o) s

/-- SET_CLOCK, code 45 (R130). -/
def execSetClock (o : Origin) (day : Nat) (hour : Nat) (minute : Nat) (second : Nat) (tenth : Nat) (mode : Nat)
    (s : State) : Host.Outcome State Fault Refusal := command o 45 (doSetClock o day hour minute second tenth mode) s

/-- HOLD_CLOCK, code 46 (R131). -/
def execHoldClock (o : Origin) (s : State) : Host.Outcome State Fault Refusal := command o 46 (doHoldClock o) s

/-- RELEASE_CLOCK, code 47 (R132). -/
def execReleaseClock (o : Origin) (s : State) : Host.Outcome State Fault Refusal := command o 47 (doReleaseClock o) s

/-- SAVE_COUNTERS, code 48 (R154). -/
def execSaveCounters (o : Origin) (s : State) : Host.Outcome State Fault Refusal :=
  command o saveCode (doSaveCounters o) s

/-- SET_FINDING_MASK, code 49 (R163). -/
def execSetFindingMask (o : Origin) (kind : Nat) (setting : Nat) (s : State) : Host.Outcome State Fault Refusal :=
  command o 49 (doSetFindingMask o kind setting) s

/-- ADVICE_MODE, code 50 (R171). -/
def execAdviceMode (o : Origin) (mode : Nat) (s : State) : Host.Outcome State Fault Refusal :=
  command o 50 (doAdviceMode o mode) s

/-- RESTART, code 51 (R191). -/
def execRestart (o : Origin) (s : State) : Host.Outcome State Fault Refusal := command o 51 (doRestart o) s

end Sys2Proof.Machine
end

