-- ==== Sys2Proof/Machine/Parse.lean ====
section
/-! DEFINITION. Machine/Parse.lean: an own-node COMMAND frame read as the command of R192 that its code and parameters
give (R181, R192, R193, R194). -/

namespace Sys2Proof.Machine

/-- What a command code and its parameters give: a code not in the table, a payload length not that of the code, or a
command (R181). -/
inductive Parsed where
  | unknown
  | badLength
  | command (c : Instr)
  deriving DecidableEq, Repr

/-- A command whose parameters take `n` bytes (R181, R194). -/
def sized (p : List Byte) (n : Nat) (c : Instr) : Parsed := if p.length = n then .command c else .badLength

/-- A list cut into pieces of `n`, `k` of them. -/
def pieces (n : Nat) : Nat → List Byte → List (List Byte)
  | 0, _ => []
  | k + 1, p => p.take n :: pieces n k (p.drop n)

/-- A stream entry of 18 bytes (R194). -/
def rawEntryOf (p : List Byte) : RawEntry :=
  { slot := byteAt p 0, source := byteAt p 1, channel := byteAt p 2, kind := byteAt p 3, role := byteAt p 4,
    phase := byteAt p 5, bandSet := byteAt p 6, scale := byteAt p 7, pulses := fieldAt p 8 2, edges := byteAt p 10,
    markerPresent := byteAt p 11, markerPolarity := byteAt p 12, spacing := fieldAt p 13 2, disposition := byteAt p 15,
    thinN := byteAt p 16, silence := byteAt p 17 }

/-- A band of 14 bytes (R194). -/
def rawBandOf (p : List Byte) : RawBand :=
  { kind := byteAt p 0, lower := fieldAt p 1 2, upper := fieldAt p 3 2, alert := fieldAt p 5 4, alarm := fieldAt p 9 4,
    iceSensitive := byteAt p 13 }

/-- The five settings of a band set (R65, R194). -/
def rawSetOf (p : List Byte) : RawSetSettings :=
  { revolutions := byteAt p 0, persistence := byteAt p 1, report := byteAt p 2, postscale := byteAt p 3, skip := byteAt p 4 }

/-- A pair of limits of 4 bytes (R194). -/
def rawLimitOf (p : List Byte) : RawLimit := { voltage := fieldAt p 0 2, current := fieldAt p 2 2 }

/-- The item fields after the slot, with the link bytes where they stand (R194). R194 has the link's spare byte sent as 0 and
says nothing of its receipt: that any value of it is accepted and dropped is the model's choice (entry 61). -/
def rawItemOf (p : List Byte) : RawItem :=
  { turbine := byteAt p 0, label := fieldAt p 1 2, basis := byteAt p 3, interval := fieldAt p 4 4, lead := fieldAt p 8 4,
    margin := fieldAt p 12 4, current := byteAt p 16, point := fieldAt p 17 4, linkPresent := byteAt p 21,
    link := if byteAt p 21 = 1 then
        some { bandSet := byteAt p 22, grade := byteAt p 23, pullIn := fieldAt p 24 4 }
      else none }

/-- Length of LOAD ITEM's parameters: 23 bytes, and 7 more where the link-present byte is 1 (R194). -/
def itemLength (p : List Byte) : Nat := if byteAt p 22 = 1 then 30 else 23

/-- The command that a code and its parameters give (R192, R194). -/
def parse (o : Origin) (code : Nat) (p : List Byte) : Parsed :=
  match code with
  | 1 => sized p 0 (.readStatus o)
  | 2 => sized p 1 (.readStream o (byteAt p 0))
  | 3 => sized p 1 (.readTurbine o (byteAt p 0))
  | 4 => sized p 1 (.readSpeed o (byteAt p 0))
  | 5 => sized p 1 (.readBands o (byteAt p 0))
  | 6 => sized p 0 (.readGrid o)
  | 7 => sized p 0 (.readContributors o)
  | 8 => sized p 1 (.readIce o (byteAt p 0))
  | 9 => sized p 1 (.readItem o (byteAt p 0))
  | 10 => sized p 1 (.readCounters o (byteAt p 0))
  | 16 => sized p (1 + 18 * byteAt p 0) (.loadStream o ((pieces 18 (byteAt p 0) (p.drop 1)).map rawEntryOf))
  | 17 => sized p (1 + byteAt p 0) (.dropStream o ((p.drop 1).map (fun b => b.toNat)))
  | 18 =>
    sized p (7 + 14 * byteAt p 1)
      (.loadBandset o (byteAt p 0) (rawSetOf (p.drop 2)) ((pieces 14 (byteAt p 1) (p.drop 7)).map rawBandOf))
  | 19 => sized p 160 (.loadLimits o ((pieces 4 40 p).map rawLimitOf))
  | 20 => sized p 51 (.loadCurve o (byteAt p 0) ((pieces 2 25 (p.drop 1)).map ofBe))
  | 21 => sized p 50 (.loadSettings o ((pieces 2 25 p).map ofBe))
  | 22 => sized p 0 (.discardStage o)
  | 23 => sized p 3 (.commit o (byteAt p 0) (fieldAt p 1 2))
  | 32 => sized p 5 (.loadTurbine o (byteAt p 0) (byteAt p 1) (byteAt p 2) (fieldAt p 3 2))
  | 33 => sized p 1 (.holdStream o (byteAt p 0))
  | 34 => sized p 1 (.resumeStream o (byteAt p 0))
  | 35 => sized p 2 (.beginService o (byteAt p 0) (byteAt p 1))
  | 36 => sized p 1 (.endService o (byteAt p 0))
  | 37 => sized p 2 (.triggerWindow o (byteAt p 0) (byteAt p 1))
  | 38 => sized p (itemLength p) (.loadItem o (byteAt p 0) (rawItemOf (p.drop 1)))
  | 39 => sized p 1 (.clearItem o (byteAt p 0))
  | 40 => sized p 1 (.signOff o (byteAt p 0))
  | 41 => sized p 6 (.setCounter o (byteAt p 0) (byteAt p 1) (fieldAt p 2 4))
  | 42 => sized p 1 (.declareIce o (byteAt p 0))
  | 43 => sized p 1 (.declareClear o (byteAt p 0))
  | 44 => sized p 0 (.clearGrid o)
  | 45 => sized p 7 (.setClock o (fieldAt p 0 2) (byteAt p 2) (byteAt p 3) (byteAt p 4) (byteAt p 5) (byteAt p 6))
  | 46 => sized p 0 (.holdClock o)
  | 47 => sized p 0 (.releaseClock o)
  | 48 => sized p 0 (.saveCounters o)
  | 49 => sized p 2 (.setFindingMask o (byteAt p 0) (byteAt p 1))
  | 50 => sized p 1 (.adviceMode o (byteAt p 0))
  | 51 => sized p 0 (.restart o)
  | _ => .unknown

/-- What the Command Unit does in READY with a command of R192; the other rows of the table are no commands of the
unit. -/
def doCommand (c : Instr) (s : State) : State :=
  match c with
  | .readStatus o => doReadStatus o s
  | .readStream o k => doReadStream o k s
  | .readTurbine o k => doReadTurbine o k s
  | .readSpeed o k => doReadSpeed o k s
  | .readBands o k => doReadBands o k s
  | .readGrid o => doReadGrid o s
  | .readContributors o => doReadContributors o s
  | .readIce o k => doReadIce o k s
  | .readItem o k => doReadItem o k s
  | .readCounters o k => doReadCounters o k s
  | .loadStream o es => doLoadStream o es s
  | .dropStream o ks => doDropStream o ks s
  | .loadBandset o k st bs => doLoadBandset o k st bs s
  | .loadLimits o ls => doLoadLimits o ls s
  | .loadCurve o c bs => doLoadCurve o c bs s
  | .loadSettings o ns => doLoadSettings o ns s
  | .discardStage o => doDiscardStage o s
  | .commit o m t => doCommit o m t s
  | .loadTurbine o k p c r => doLoadTurbine o k p c r s
  | .holdStream o k => doHoldStream o k s
  | .resumeStream o k => doResumeStream o k s
  | .beginService o k l => doBeginService o k l s
  | .endService o k => doEndService o k s
  | .triggerWindow o k i => doTriggerWindow o k i s
  | .loadItem o k r => doLoadItem o k r s
  | .clearItem o k => doClearItem o k s
  | .signOff o k => doSignOff o k s
  | .setCounter o k c v => doSetCounter o k c v s
  | .declareIce o k => doDeclareIce o k s
  | .declareClear o k => doDeclareClear o k s
  | .clearGrid o => doClearGrid o s
  | .setClock o d h m sec t mode => doSetClock o d h m sec t mode s
  | .holdClock o => doHoldClock o s
  | .releaseClock o => doReleaseClock o s
  | .saveCounters o => doSaveCounters o s
  | .setFindingMask o k v => doSetFindingMask o k v s
  | .adviceMode o m => doAdviceMode o m s
  | .restart o => doRestart o s
  | _ => s

/-- The checks of R181 on a code and its parameters, and the command past them. -/
def doParsed (o : Origin) (code : Nat) (x : Parsed) (s : State) : State :=
  match x with
  | .unknown => replyRefused s o code .unknownCommand 0
  | .badLength => badParam s o code 0
  | .command c => doCommand c s

/-- A payload of an own-node COMMAND taken from a port (R177, R181): one shorter than a code and a tag is refused with tag
0 and code 0. R181 gives these for its refusal BAD_PARAMETER: that the refusals WRONG_PORT and BUSY of such a payload carry
them too is the model's choice (entry 51). -/
def commandPayload (p : Port) (payload : List Byte) (s : State) : State :=
  if payload.length < 2 then takeCommand ⟨p, 0⟩ 0 (fun x => badParam x ⟨p, 0⟩ 0 0) s
  else
    takeCommand ⟨p, byteAt payload 1⟩ (byteAt payload 0)
      (doParsed ⟨p, byteAt payload 1⟩ (byteAt payload 0) (parse ⟨p, byteAt payload 1⟩ (byteAt payload 0) (payload.drop 2))) s

end Sys2Proof.Machine
end

