-- ==== Sys2Proof/Machine/Link.lean ====
section
/-! DEFINITION. Machine/Link.lean: the link ports (chapter 11): link state, receiving and routing, and the transmitters. -/

namespace Sys2Proof.Machine

/-- The state with `f` applied to a port. -/
def updPort (s : State) (p : Port) (f : PortRec → PortRec) : State := setPort s p (f (portOf s p))

/-- The port on the other side. -/
def otherPort : Port → Port
  | .u => .d
  | .d => .u

/-! ## Link state (R174) -/

/-- Loss of line signal: an UP port of an ACTIVE part goes DOWN with PORT_DOWN, and a frame in transmission is cut off
(R174; entries 5 and 29). -/
def lineLost (s : State) (p : Port) : State :=
  let s1 := updPort s p (fun r => { r with signal := false })
  if s.standing = .active ∧ (portOf s p).up = true then
    raise (updPort s1 p (fun r => { r with up := false, sending := none })) .portDown none (.port p)
      [vNat (portOf s p).badCheck]
  else s1

/-- Return of line signal: a DOWN port of an ACTIVE part comes UP with PORT_UP (R174; entry 5). -/
def lineBack (s : State) (p : Port) : State :=
  let r := portOf s p
  let s1 := updPort s p (fun r => { r with signal := true })
  if s.standing = .active ∧ r.up = false then
    raise (updPort s1 p (fun r => { r with up := true })) .portUp none (.port p)
      [vNat (r.transit.length + r.localQ.length)]
  else s1

/-! ## Receiving and routing (R175, R176) -/

/-- Whether a kind code is that of a sample-bearing frame (R193). -/
def sampleBearing (kind : Nat) : Bool := decide (1 ≤ kind) && decide (kind ≤ 3)

/-- The kind code of COMMAND (R193). -/
def commandKind : Nat := 8

/-- Whether a frame is an own-node COMMAND (R176). -/
def ownCommand (s : State) (f : Frame) : Bool :=
  decide ((headerOf f.bytes).kind = commandKind) && decide ((headerOf f.bytes).source = s.node)

/-- A good frame routed by the port it arrived on, its kind and its destination (R176). -/
def route (s : State) (p : Port) (f : Frame) : State :=
  if ownCommand s f then commandPayload p (payloadOf f.bytes) s
  else if p = .u ∧ sampleBearing (headerOf f.bytes).kind = true then classify s f
  else offerTransit s (otherPort p) f

/-- A frame completed by a receiver: counted as bad, or routed (R175). -/
def received (s : State) (p : Port) (bytes : List Byte) : State :=
  if frameGood bytes then route s p { bytes := bytes }
  else updPort s p (fun r => { r with badCheck := bump r.badCheck })

/-! ## Transmitting (R179) -/

/-- Whether a transmitter starts a frame: path ACTIVE, link UP, transmitter idle, a frame waiting (R179). -/
def canSend (s : State) (p : Port) : Bool :=
  let r := portOf s p
  decide (s.standing = .active) && r.up && r.sending.isNone && (!r.transit.isEmpty || !r.localQ.isEmpty)

/-- A RESTART's reply has gone (R179, R191). -/
def replyGone : UnitState → UnitState
  | .restart _ => .restart true
  | .ready => .ready
  | .commit p => .commit p
  | .save o b => .save o b

/-- What a port tells when a frame has left its local queue (R179): the Command Unit of a REPLY, the Finding Unit for Port
D, the Advice Unit for Port U. A REPLY of the same moment may by R169 take the freed place first: that frames owed always do is
the model's choice (entry 53). -/
def localLeft (s : State) (p : Port) (what : LocalKind) : State :=
  let s1 := if what = .restartReply then { s with cmd := replyGone s.cmd } else s
  match p with
  | .d => findingLook s1
  | .u => placeOwed s1

/-- The oldest local frame sent, `run` being the count after (R179). -/
def sendLocal (s : State) (p : Port) (f : LocalFrame) (rest : List LocalFrame) (run : Nat) : State :=
  localLeft (updPort s p (fun r => { r with localQ := rest, sending := some f.frame, run := run })) p f.what

/-- The oldest transit frame sent; the count becomes 0 (R179). -/
def sendTransit (s : State) (p : Port) (f : Frame) (rest : List Frame) : State :=
  updPort s p (fun r => { r with transit := rest, sending := some f, run := 0 })

/-- The transmitter's choice (R179). -/
def choose (s : State) (p : Port) : State :=
  let r := portOf s p
  match r.localQ, r.transit with
  | f :: rest, [] => sendLocal s p f rest 0
  | f :: rest, g :: gs => if r.run < 4 then sendLocal s p f rest (r.run + 1) else sendTransit s p g gs
  | [], g :: gs => sendTransit s p g gs
  | [], [] => s

end Sys2Proof.Machine
end

