-- ==== Sys2Proof/Machine/Events.lean ====
section
/-! DEFINITION. Machine/Events.lean: start-up, the tick and the expiries it leads to, completions, and the restart
itself. -/

namespace Sys2Proof.Machine

/-- Whether the path is ACTIVE (R172). -/
def pathActive (s : State) : Bool := decide (s.standing = .active)

/-! ## Start-up and its end (R155 to R157, R172, R173) -/

/-- A part that stops, held in reset or without supply: volatile state lost, the image as the interruption leaves it
(R157, R172; entry 33). -/
def fallTo (s : State) (standing : Standing) (torn : TornRecord) : State :=
  State.powerOn standing s.node s.umgt s.portU.signal s.portD.signal (imageInterrupted s torn) s.pending

/-- The release of RESET: the straps read, every block at its power-on values, the restore begun (R173). -/
def startUp (s : State) (strap : Nat) (umgt : Bool) : State :=
  State.powerOn .restoring (strap % 16 + 1) umgt s.portU.signal s.portD.signal s.image s.pending

/-- Counters, items and store as the restore leaves them, with its findings (R155, R156); the items are evaluated in ascending
slot order by the model's choice (entry 17). -/
def restored (s : State) (answered : Nat) : State :=
  allItems.foldl evaluateItem (restoreFinding (storeAfterRestore (fillRestored s answered) answered) s.image answered)

/-- Finding STARTED (R173; entry 26): store result, bad blocks, bad items, node number, UMGT. -/
def raiseStarted (s : State) (im : Image) (answered : Nat) : State :=
  raise s .started none .none
    [vNat (storeResultCode (restoreResult im answered)), vNat (badCounts im answered).1, vNat (badCounts im answered).2,
     vNat s.node, vNat (flagCode s.umgt)]

/-- A port takes its link state from the line at start-up (R173). -/
def takeLinkState (s : State) (p : Port) : State :=
  if (portOf s p).signal then updPort s p (fun r => { r with up := true })
  else raise s .portDown none (.port p) [vNat (portOf s p).badCheck]

/-- The end of the start-up restore, in the order of R173; the first look at the Port D local queue is made once the link
states have been taken. R173 gives no order of the two ports: that Port U comes first is the model's choice (entry 17). -/
def restoreEnded (s : State) (answered : Nat) : State :=
  let s1 := raiseStarted (restored s answered) s.image answered
  findingLook { takeLinkState (takeLinkState s1 .u) .d with standing := .active }

/-! ## Expiries: what waits for its step (entry 7) -/

/-- A slot's silence timer that has counted out (R12). -/
def takeSilence (s : State) (i : SlotId) : State :=
  match (s.streams.slots.get i).state, (s.streams.slots.get i).silence, entryAt s i with
  | .live, some 0, some e => becomeSilent s i e
  | _, _, _ => s

/-- A service limit timer that has counted out (R31). -/
def takeServiceLimit (s : State) (t : Tid) : State :=
  if (s.turbines.get t).limitTimer = some 0 then serviceOverrun s t else s

/-- A blanking timer that has counted out (R35). -/
def takeBlanking (s : State) (t : Tid) : State :=
  if (s.turbines.get t).blanking = some 0 then updTurbine s t (fun r => { r with blanking := none }) else s

/-- A stop timer that has counted out (R50). -/
def takeStop (s : State) (t : Tid) : State := if (s.speeds.get t).stopTimer = some 0 then stopExpired s t else s

/-- A thaw dwell reached (R122). -/
def takeThaw (s : State) (t : Tid) : State := if (s.ice.get t).thawDue then thawReached s t else s

/-- A refresh timer that has counted out (R170). -/
def takeRefresh (s : State) (t : Tid) : State :=
  if (s.advice.recs.get t).refresh = some 0 then refreshAdvice s t else s

/-- A checkpoint moment of the clock (R133, R150). -/
def takeCheckpointHour (s : State) : State :=
  if s.clock.checkpointDue then requestCheckpoint { s with clock := { s.clock with checkpointDue := false } } else s

/-- The checkpoint interval timer counted out: a request, and the timer loaded again (R150). -/
def takeInterval (s : State) : State :=
  if s.store.timer = some 0 then
    let s1 := requestCheckpoint s
    { s1 with store := { s1.store with timer := loadTimer (s.active.settings.ckptInterval * hourTicks) } }
  else s

/-- A waiting commit's timeout counted out (R189). -/
def takeCommitTimeout (s : State) : State :=
  match s.cmd with
  | .commit p => if p.ticks = 0 then forceCommit s p else s
  | .ready => s
  | .save _ _ => s
  | .restart _ => s

/-! ## RESTART (R191) -/

/-- Windows and pending tests dropped without a finding, as RESTART does (R85; entry 32). -/
def dropWindows (s : State) : State :=
  { s with vib := { s.vib with
      recs := mapTab (fun r => r.map (fun v => { v with window := none, testPending := false })) s.vib.recs } }

/-- ENDED with cause RESTART told to a slot's stream where it is LIVE (R19). -/
def endAtRestart (s : State) (i : SlotId) : State :=
  match entryAt s i with
  | some e => endIfLive (s.streams.slots.get i).state s i e .restart
  | none => s

/-- The Stream Table at RESTART (R4, R7). That its generation wraps after 65,535 is the model's choice (entry 43). -/
def streamsRestarted (x : Streams) : Streams :=
  { slots := mapTab emptiedSlot x.slots, unknown := 0, mismatched := 0, gen := (x.gen + 1) % 65536 }

/-- The active tables at RESTART: emptied, each generation raised; the Part Settings kept (R53, R66, R95, R111, R183). -/
def activeRestarted (a : Active) : Active :=
  { Active.reset with bandGen := (a.bandGen + 1) % 65536, limitGen := (a.limitGen + 1) % 65536,
                      curveGen := (a.curveGen + 1) % 65536, settings := a.settings }

/-- A port at RESTART: its counts 0 (R180). -/
def portRestarted (r : PortRec) : PortRec := { r with badCheck := 0, overflow := 0, repliesDropped := 0 }

/-- The blocks' state cleared after the streams have ended (R191). -/
def blocksRestarted (s : State) : State :=
  { s with
    streams := streamsRestarted s.streams,
    speeds := Vector.replicate 24 .reset,
    engine := .reset,
    active := activeRestarted s.active,
    staged := { Staged.reset with settings := s.active.settings },
    vib := { s.vib with recs := Vector.replicate 192 none },
    harm := .reset,
    ice := mapTab iceRestarted s.ice,
    portU := portRestarted s.portU,
    portD := portRestarted s.portD }

/-- The restart (R191; entry 32): streams ended, blocks cleared, grades formed again and their changes told, advice computed
afresh, and the unit READY. -/
def restartNow (s : State) : State :=
  let s1 := blocksRestarted (allSlots.foldl endAtRestart (dropWindows s))
  { computeAllAdvice (allTurbines.foldl formGrades s1) with cmd := .ready }

/-- A restart whose reply has gone (R191). -/
def takeRestart (s : State) : State := if s.cmd = .restart true then restartNow s else s

/-! ## The tick (R129) -/

/-- Every carry of a turbine's time counters that waits (R136). That they are taken in the order run, ice, curtailed is the
model's choice (entry 7). -/
def takeCarries (s : State) (t : Tid) : State := takeCarry (takeCarry (takeCarry s t .run) t .ice) t .curtailed

/-- A step that waits taken, and the groups of a waiting commit whose windows it ended changed over at once, as at the end of
any step: the commit's timeout, taken later, finds them gone (R188, R189). -/
def takeAndSettle {α : Type} (f : State → α → State) (s : State) (a : α) : State := settleCommit (f s a)

/-- Every step that waits, taken before a tick counts (entry 7). -/
def takeDue (s : State) : State :=
  let s1 := takeInterval (takeCheckpointHour (takeRollover s))
  let s2 := allSlots.foldl (takeAndSettle takeSilence) s1
  let s3 := allTurbines.foldl (takeAndSettle takeServiceLimit) s2
  let s4 := allTurbines.foldl (takeAndSettle takeBlanking) s3
  let s5 := allTurbines.foldl (takeAndSettle takeStop) s4
  let s6 := allTurbines.foldl (takeAndSettle takeThaw) s5
  let s7 := allTurbines.foldl (takeAndSettle takeRefresh) s6
  let s8 := allTurbines.foldl takeCarries s7
  takeRestart (takeCommitTimeout s8)

/-- A turbine's timers at a tick (R31, R35). -/
def tickTurbine (r : TurbineRec) : TurbineRec := { r with limitTimer := tickTimer r.limitTimer, blanking := tickTimer r.blanking }

/-- A stop timer at a tick (R50). -/
def tickSpeed (r : SpeedRec) : SpeedRec := { r with stopTimer := tickTimer r.stopTimer }

/-- A refresh timer at a tick (R170). -/
def tickAdvice (r : AdviceRec) : AdviceRec := { r with refresh := tickTimer r.refresh }

/-- The timeout of a waiting commit at a tick (R189). -/
def tickUnit : UnitState → UnitState
  | .commit p => .commit { p with ticks := p.ticks - 1 }
  | .ready => .ready
  | .save o b => .save o b
  | .restart g => .restart g

/-- Every count of the part moved on by one tick (R12, R31, R35, R50, R121, R129, R131, R136, R150, R170, R189). -/
def countTick (s : State) : State :=
  { s with
    clock := tickClock s.active.settings.ckptHour s.clock,
    streams := { s.streams with slots := mapTab tickSlot s.streams.slots },
    turbines := mapTab tickTurbine s.turbines,
    speeds := mapTab tickSpeed s.speeds,
    ice := mapTab (tickThaw s.active.settings) s.ice,
    usage := mapTab tickUsage s.usage,
    store := { s.store with timer := tickTimer s.store.timer },
    advice := { s.advice with recs := mapTab tickAdvice s.advice.recs },
    cmd := tickUnit s.cmd }

/-- Ticks since start-up raised: the one count that runs during the restore (R128). -/
def countStartUp (s : State) : State := { s with clock := { s.clock with sinceStart := bump s.clock.sinceStart } }

/-- One tick (R129). -/
def ticked (s : State) : State :=
  match s.standing with
  | .unpowered => s
  | .held => s
  | .restoring => countStartUp s
  | .active => countTick (takeDue s)

/-! ## Completion of an analysis (R62) -/

/-- A vibration result delivered, or discarded as stale (R62). -/
def deliverVib (s : State) (r : VibRecord) : State :=
  if vibIdentity s r then vibResult s r
  else
    vibDiscarded
      { s with engine := { s.engine with
          vibCounts := { s.engine.vibCounts with staleAtDelivery := bump s.engine.vibCounts.staleAtDelivery } } } r

/-- A harmonic result delivered, or discarded as stale (R62). -/
def deliverHarm (s : State) (r : HarmRecord) : State :=
  if harmIdentity s r then harmResult s r
  else
    harmDiscarded
      { s with engine := { s.engine with
          harmCounts := { s.engine.harmCounts with staleAtDelivery := bump s.engine.harmCounts.staleAtDelivery } } }

/-- The engine IDLE, looking for its next record (R56, R62). -/
def engineIdle (s : State) : State := engineLook { s with engine := { s.engine with analysing := none } }

/-- The analysis in progress completed (R62). -/
def analysisDone (s : State) : State :=
  match s.engine.analysing with
  | some (.vib r) => engineIdle (deliverVib s r)
  | some (.harm r) => engineIdle (deliverHarm s r)
  | none => s

end Sys2Proof.Machine
end

