-- ==== Sys2Proof/Machine/ExecEvents.lean ====
section
/-! DEFINITION. Machine/ExecEvents.lean: the meanings of the rows that are no management command: pins, links, frames,
ticks, expiries and completions. An event whose condition does not hold leaves the part as it is (entry 3). -/

namespace Sys2Proof.Machine

/-- The outcome of an event: what it does where its condition holds, the state as it is otherwise (entry 3). -/
def onlyWhen (c : Bool) (s s' : State) : Host.Outcome State Fault Refusal := if c then done s' else .next s

/-- Whether the part runs: its restore is under way or its path ACTIVE (R172). -/
def running (s : State) : Bool := decide (s.standing = .restoring) || decide (s.standing = .active)

/-- RESET_ASSERT (R172): a running part falls to reset. -/
def execResetAssert (torn : TornRecord) (s : State) : Host.Outcome State Fault Refusal :=
  onlyWhen (running s) s (fallTo s .held torn)

/-- RESET_RELEASE (R173): a part held in reset or without supply starts up. -/
def execResetRelease (strap : Nat) (umgt : Bool) (s : State) : Host.Outcome State Fault Refusal :=
  onlyWhen (!running s) s (startUp s strap umgt)

/-- RESTORE_COMPLETE (R155, R173). -/
def execRestoreComplete (answered : Nat) (s : State) : Host.Outcome State Fault Refusal :=
  onlyWhen (decide (s.standing = .restoring)) s (restoreEnded s answered)

/-- LINK_DOWN (R174). -/
def execLinkDown (p : Port) (s : State) : Host.Outcome State Fault Refusal := done (lineLost s p)

/-- LINK_UP (R174). -/
def execLinkUp (p : Port) (s : State) : Host.Outcome State Fault Refusal := done (lineBack s p)

/-- RECEIVE_FRAME (R175, R176). -/
def execReceiveFrame (p : Port) (bytes : List Byte) (s : State) : Host.Outcome State Fault Refusal :=
  onlyWhen (receives s p) s (received s p bytes)

/-- ANALYSIS_COMPLETE (R62). -/
def execAnalysisComplete (s : State) : Host.Outcome State Fault Refusal := onlyWhen (pathActive s) s (analysisDone s)

/-- TICK (R129). -/
def execTick (s : State) : Host.Outcome State Fault Refusal := done (ticked s)

/-- SILENCE_EXPIRY (R12). -/
def execSilenceExpiry (slot : SlotId) (s : State) : Host.Outcome State Fault Refusal :=
  onlyWhen (pathActive s) s (takeSilence s slot)

/-- SERVICE_LIMIT_EXPIRY (R31). -/
def execServiceLimitExpiry (t : Tid) (s : State) : Host.Outcome State Fault Refusal :=
  onlyWhen (pathActive s) s (takeServiceLimit s t)

/-- BLANKING_EXPIRY (R35). -/
def execBlankingExpiry (t : Tid) (s : State) : Host.Outcome State Fault Refusal :=
  onlyWhen (pathActive s) s (takeBlanking s t)

/-- STOP_EXPIRY (R50). -/
def execStopExpiry (t : Tid) (s : State) : Host.Outcome State Fault Refusal := onlyWhen (pathActive s) s (takeStop s t)

/-- THAW_DWELL_REACHED (R122). -/
def execThawDwellReached (t : Tid) (s : State) : Host.Outcome State Fault Refusal :=
  onlyWhen (pathActive s) s (takeThaw s t)

/-- REFRESH_EXPIRY (R170). -/
def execRefreshExpiry (t : Tid) (s : State) : Host.Outcome State Fault Refusal :=
  onlyWhen (pathActive s) s (takeRefresh s t)

/-- COUNTER_CARRY (R136). -/
def execCounterCarry (t : Tid) (c : TimeCounter) (s : State) : Host.Outcome State Fault Refusal :=
  onlyWhen (pathActive s) s (takeCarry s t c)

/-- DAY_ROLLOVER (R129). -/
def execDayRollover (s : State) : Host.Outcome State Fault Refusal := onlyWhen (pathActive s) s (takeRollover s)

/-- CHECKPOINT_HOUR (R133). -/
def execCheckpointHour (s : State) : Host.Outcome State Fault Refusal := onlyWhen (pathActive s) s (takeCheckpointHour s)

/-- CHECKPOINT_INTERVAL_EXPIRY (R150). -/
def execCheckpointIntervalExpiry (s : State) : Host.Outcome State Fault Refusal := onlyWhen (pathActive s) s (takeInterval s)

/-- STORE_RECORD_WRITTEN (R151 to R153). -/
def execStoreRecordWritten (r : WriteResult) (s : State) : Host.Outcome State Fault Refusal :=
  onlyWhen (pathActive s) s (recordWritten s r)

/-- TRANSMIT_START (R179). -/
def execTransmitStart (p : Port) (s : State) : Host.Outcome State Fault Refusal := onlyWhen (canSend s p) s (choose s p)

/-- TRANSMIT_COMPLETE (R179). -/
def execTransmitComplete (p : Port) (s : State) : Host.Outcome State Fault Refusal :=
  onlyWhen (pathActive s) s (updPort s p (fun r => { r with sending := none }))

/-- COMMIT_TIMEOUT (R189). -/
def execCommitTimeout (s : State) : Host.Outcome State Fault Refusal := onlyWhen (pathActive s) s (takeCommitTimeout s)

/-- RESTART_EXECUTE (R191). -/
def execRestartExecute (s : State) : Host.Outcome State Fault Refusal := onlyWhen (pathActive s) s (takeRestart s)

/-- POWER_LOSS (R157, R172): a part with supply loses it. -/
def execPowerLoss (torn : TornRecord) (s : State) : Host.Outcome State Fault Refusal :=
  onlyWhen (!decide (s.standing = .unpowered)) s (fallTo s .unpowered torn)

end Sys2Proof.Machine
end

