-- ==== Sys2Proof/Machine/Dispatch.lean ====
section
/-! DEFINITION. Machine/Dispatch.lean: one arm per command of the block. -/

namespace Sys2Proof.Machine

/-- The effect of a command on everything but the queue. -/
def exec (i : Instr) (s : State) : Host.Outcome State Fault Refusal :=
  match i with
  | .resetAssert a => Sys2Proof.Machine.execResetAssert a s
  | .resetRelease a b => Sys2Proof.Machine.execResetRelease a b s
  | .restoreComplete a => Sys2Proof.Machine.execRestoreComplete a s
  | .linkDown a => Sys2Proof.Machine.execLinkDown a s
  | .linkUp a => Sys2Proof.Machine.execLinkUp a s
  | .receiveFrame a b => Sys2Proof.Machine.execReceiveFrame a b s
  | .analysisComplete => Sys2Proof.Machine.execAnalysisComplete s
  | .tick => Sys2Proof.Machine.execTick s
  | .silenceExpiry a => Sys2Proof.Machine.execSilenceExpiry a s
  | .serviceLimitExpiry a => Sys2Proof.Machine.execServiceLimitExpiry a s
  | .blankingExpiry a => Sys2Proof.Machine.execBlankingExpiry a s
  | .stopExpiry a => Sys2Proof.Machine.execStopExpiry a s
  | .thawDwellReached a => Sys2Proof.Machine.execThawDwellReached a s
  | .refreshExpiry a => Sys2Proof.Machine.execRefreshExpiry a s
  | .counterCarry a b => Sys2Proof.Machine.execCounterCarry a b s
  | .dayRollover => Sys2Proof.Machine.execDayRollover s
  | .checkpointHour => Sys2Proof.Machine.execCheckpointHour s
  | .checkpointIntervalExpiry => Sys2Proof.Machine.execCheckpointIntervalExpiry s
  | .storeRecordWritten a => Sys2Proof.Machine.execStoreRecordWritten a s
  | .transmitStart a => Sys2Proof.Machine.execTransmitStart a s
  | .transmitComplete a => Sys2Proof.Machine.execTransmitComplete a s
  | .commitTimeout => Sys2Proof.Machine.execCommitTimeout s
  | .restartExecute => Sys2Proof.Machine.execRestartExecute s
  | .readStatus a => Sys2Proof.Machine.execReadStatus a s
  | .readStream a b => Sys2Proof.Machine.execReadStream a b s
  | .readTurbine a b => Sys2Proof.Machine.execReadTurbine a b s
  | .readSpeed a b => Sys2Proof.Machine.execReadSpeed a b s
  | .readBands a b => Sys2Proof.Machine.execReadBands a b s
  | .readGrid a => Sys2Proof.Machine.execReadGrid a s
  | .readContributors a => Sys2Proof.Machine.execReadContributors a s
  | .readIce a b => Sys2Proof.Machine.execReadIce a b s
  | .readItem a b => Sys2Proof.Machine.execReadItem a b s
  | .readCounters a b => Sys2Proof.Machine.execReadCounters a b s
  | .loadStream a b => Sys2Proof.Machine.execLoadStream a b s
  | .dropStream a b => Sys2Proof.Machine.execDropStream a b s
  | .loadBandset a b c d => Sys2Proof.Machine.execLoadBandset a b c d s
  | .loadLimits a b => Sys2Proof.Machine.execLoadLimits a b s
  | .loadCurve a b c => Sys2Proof.Machine.execLoadCurve a b c s
  | .loadSettings a b => Sys2Proof.Machine.execLoadSettings a b s
  | .discardStage a => Sys2Proof.Machine.execDiscardStage a s
  | .commit a b c => Sys2Proof.Machine.execCommit a b c s
  | .loadTurbine a b c d e => Sys2Proof.Machine.execLoadTurbine a b c d e s
  | .holdStream a b => Sys2Proof.Machine.execHoldStream a b s
  | .resumeStream a b => Sys2Proof.Machine.execResumeStream a b s
  | .beginService a b c => Sys2Proof.Machine.execBeginService a b c s
  | .endService a b => Sys2Proof.Machine.execEndService a b s
  | .triggerWindow a b c => Sys2Proof.Machine.execTriggerWindow a b c s
  | .loadItem a b c => Sys2Proof.Machine.execLoadItem a b c s
  | .clearItem a b => Sys2Proof.Machine.execClearItem a b s
  | .signOff a b => Sys2Proof.Machine.execSignOff a b s
  | .setCounter a b c d => Sys2Proof.Machine.execSetCounter a b c d s
  | .declareIce a b => Sys2Proof.Machine.execDeclareIce a b s
  | .declareClear a b => Sys2Proof.Machine.execDeclareClear a b s
  | .clearGrid a => Sys2Proof.Machine.execClearGrid a s
  | .setClock a b c d e f g => Sys2Proof.Machine.execSetClock a b c d e f g s
  | .holdClock a => Sys2Proof.Machine.execHoldClock a s
  | .releaseClock a => Sys2Proof.Machine.execReleaseClock a s
  | .saveCounters a => Sys2Proof.Machine.execSaveCounters a s
  | .setFindingMask a b c => Sys2Proof.Machine.execSetFindingMask a b c s
  | .adviceMode a b => Sys2Proof.Machine.execAdviceMode a b s
  | .restart a => Sys2Proof.Machine.execRestart a s
  | .powerLoss a => Sys2Proof.Machine.execPowerLoss a s

end Sys2Proof.Machine
end

