-- ==== Sys2Proof/Safety.lean ====
section
/-! DEFINITION. Safety.lean: the words that statements about the block are made of: a command accepted, the block going
on, and the invariants of a run. -/

namespace Sys2Proof.Machine

/-- A step answers a next state. -/
def goesOn (s : State) : Prop := ∃ t, step s = .next t

/-- An own-node COMMAND on the port of `o` is executed: the path is ACTIVE and the link UP (R172, R174), the port may
manage the part (R177), and the Command Unit is READY (R181). -/
def accepts (s : State) (o : Origin) : Prop :=
  s.standing = .active ∧ (portOf s o.port).up = true ∧ (o.port = .d ∨ s.umgt = true) ∧ s.cmd = .ready

/-- A command ends in the state `u` with the reply DONE and `results`, after which the step settles. -/
def answersDone (c : Instr) (s : State) (o : Origin) (code : Nat) (u : State) (results : List Byte) : Prop :=
  exec c s = .next (settle (replyDone u o code results))

/-- A command is refused: nothing changes but that the reply is offered, after which the step settles. -/
def answersRefused (c : Instr) (s : State) (o : Origin) (code : Nat) (why : Reason) (detail : Nat) : Prop :=
  exec c s = .next (settle (replyRefused s o code why detail))

/-- The length that a code's parameters `ps`, what stands after code and tag, should have by the layouts of R194; none for a code
that is not in the table of R192. -/
def commandLength (code : Nat) (ps : List Byte) : Option Nat :=
  match code with
  | 1 => some 0
  | 2 => some 1
  | 3 => some 1
  | 4 => some 1
  | 5 => some 1
  | 6 => some 0
  | 7 => some 0
  | 8 => some 1
  | 9 => some 1
  | 10 => some 1
  | 16 => some (1 + 18 * byteAt ps 0)
  | 17 => some (1 + byteAt ps 0)
  | 18 => some (7 + 14 * byteAt ps 1)
  | 19 => some 160
  | 20 => some 51
  | 21 => some 50
  | 22 => some 0
  | 23 => some 3
  | 32 => some 5
  | 33 => some 1
  | 34 => some 1
  | 35 => some 2
  | 36 => some 1
  | 37 => some 2
  | 38 => some (if byteAt ps 22 = 1 then 30 else 23)
  | 39 => some 1
  | 40 => some 1
  | 41 => some 6
  | 42 => some 1
  | 43 => some 1
  | 44 => some 0
  | 45 => some 7
  | 46 => some 0
  | 47 => some 0
  | 48 => some 0
  | 49 => some 2
  | 50 => some 1
  | 51 => some 0
  | _ => none

/-- No step of an earlier tick waits: no rollover, checkpoint moment, expiry, carry, thaw, commit timeout or restart is due
(entry 7). -/
def nothingDue (s : State) : Prop :=
  s.clock.rolloverDue = false ∧ s.clock.checkpointDue = false ∧ s.store.timer ≠ some 0 ∧
  (∀ i, (s.streams.slots.get i).silence ≠ some 0) ∧
  (∀ t, (s.turbines.get t).limitTimer ≠ some 0 ∧ (s.turbines.get t).blanking ≠ some 0 ∧ (s.speeds.get t).stopTimer ≠ some 0 ∧
    (s.ice.get t).thawDue = false ∧ (s.advice.recs.get t).refresh ≠ some 0 ∧ (s.usage.get t).run.due = 0 ∧
    (s.usage.get t).ice.due = 0 ∧ (s.usage.get t).curtailed.due = 0) ∧
  (∀ p, s.cmd = .commit p → p.ticks ≠ 0) ∧ s.cmd ≠ .restart true

/-- The staged entry of a slot has the key, source and channel, of a lower slot's staged entry (R3, R186). -/
def keyRepeated (s : State) (i : SlotId) : Prop :=
  ∃ e j x, s.staged.streams.get i = some e ∧ j < i ∧ s.staged.streams.get j = some x ∧ x.source = e.source ∧
    x.channel = e.channel

/-- The staged entry of a slot breaks a role limit with the staged entries of lower slots: it is a second TACH, OPSTAT or
CONV_I entry for its source, a second entry for one feeder role and phase, or a fifth VIB entry for its turbine (R3, R186). -/
def roleRepeated (s : State) (i : SlotId) : Prop :=
  ∃ e, s.staged.streams.get i = some e ∧
    ((∃ j x, j < i ∧ s.staged.streams.get j = some x ∧ x.role = e.role ∧
        (((e.role = .tach ∨ e.role = .opstat ∨ e.role = .convI) ∧ x.source = e.source) ∨
         ((e.role = .gridV ∨ e.role = .gridI) ∧ x.phase = e.phase))) ∨
     (e.role = .vib ∧ ∃ js : List SlotId, js.Nodup ∧ js.length = 4 ∧
        ∀ j ∈ js, j < i ∧ ∃ x, s.staged.streams.get j = some x ∧ x.role = .vib ∧ x.source = e.source))

/-- The ATTN line stands at the value of its causes (R166). -/
def attnFormed (s : State) : Prop := s.findings.attn = attnValue s

/-- The queues hold no more than their capacity: the Finding Queue 64 records (section 10.2), each local queue 16 frames,
the transit queues 32 and 64 (R178). -/
def queuesBounded (s : State) : Prop :=
  s.findings.queue.length ≤ findingCap ∧ s.portU.localQ.length ≤ localCap ∧ s.portD.localQ.length ≤ localCap ∧
  s.portU.transit.length ≤ transitCap .u ∧ s.portD.transit.length ≤ transitCap .d

/-- The classes of the Analysis Queue hold no more than their capacity (R54), and an IDLE engine has no record waiting
(R56). -/
def engineSound (s : State) : Prop :=
  s.engine.vibQueue.length ≤ vibCap ∧ s.engine.harmQueue.length ≤ harmCap ∧
  (s.engine.analysing = none → s.engine.vibQueue = [] ∧ s.engine.harmQueue = [])

/-- A waiting commit has groups left, and each has a member with an open or closing window (R188). -/
def commitWaits (s : State) : Prop :=
  ∀ p, s.cmd = .commit p → p.groups ≠ [] ∧ ∀ g ∈ p.groups, g.any (slotHasWindow s) = true

end Sys2Proof.Machine
end

