-- ==== Sys2Proof/WellFormed.lean ====
section
/-! DEFINITION. WellFormed.lean: what a command can carry at all: operands that fit the bytes of R193 and R194 or the pins
and devices they come from. A well-formed command may still be refused by the part. -/

namespace Sys2Proof

/-- A one-byte field. -/
def isByte (n : Nat) : Bool := decide (n < 256)

/-- A two-byte field. -/
def isHalf (n : Nat) : Bool := decide (n < 65536)

/-- A four-byte field. -/
def isWord (n : Nat) : Bool := decide (n < 4294967296)

/-- The tag of a command is a byte (chapter 12). -/
def Origin.wf (o : Origin) : Bool := isByte o.tag

/-- The fields of a stream entry fit their bytes (R194). -/
def RawEntry.wf (r : RawEntry) : Bool :=
  [r.slot, r.source, r.channel, r.kind, r.role, r.phase, r.bandSet, r.scale, r.edges, r.markerPresent].all isByte &&
  [r.markerPolarity, r.disposition, r.thinN, r.silence].all isByte && isHalf r.pulses && isHalf r.spacing

/-- The settings of a band set fit their bytes (R194). -/
def RawSetSettings.wf (r : RawSetSettings) : Bool :=
  [r.revolutions, r.persistence, r.report, r.postscale, r.skip].all isByte

/-- The fields of a band fit their bytes (R194). -/
def RawBand.wf (b : RawBand) : Bool :=
  isByte b.kind && isHalf b.lower && isHalf b.upper && isWord b.alert && isWord b.alarm && isByte b.iceSensitive

/-- A pair of limits fits its bytes (R194). -/
def RawLimit.wf (l : RawLimit) : Bool := isHalf l.voltage && isHalf l.current

/-- Link bytes fit (R194). -/
def RawLink.wf (l : RawLink) : Bool := isByte l.bandSet && isByte l.grade && isWord l.pullIn

/-- Item fields fit their bytes, and the link bytes stand exactly where the link-present byte is 1 (R194). -/
def RawItem.wf (r : RawItem) : Bool :=
  isByte r.turbine && isHalf r.label && isByte r.basis && isWord r.interval && isWord r.lead && isWord r.margin &&
  isByte r.current && isWord r.point && isByte r.linkPresent && decide (r.link.isSome = decide (r.linkPresent = 1)) &&
  r.link.all RawLink.wf

/-- A list that a count byte and a payload of at most 510 parameter bytes can carry, `n` bytes an entry after `h` others
(R193, R194). -/
def listFits (h n len : Nat) : Bool := decide (h + n * len ≤ 510)

/-- A mix of a record's old and new contents does not check good (R157). -/
def TornRecord.wf : TornRecord → Bool
  | .old => true
  | .new => true
  | .mixed held => !Machine.checkMatches held

/-- What a write that does not verify leaves is well formed (R153, R157). -/
def WriteResult.wf : WriteResult → Bool
  | .verified => true
  | .failed left => left.wf

/-- Whether a command is well formed: its operands fit what carries them. -/
def Instr.wf : Instr → Bool
  | .resetAssert torn => torn.wf
  | .resetRelease strap _ => decide (strap < 16)
  | .restoreComplete answered => decide (answered ≤ 121)
  | .linkDown _ => true
  | .linkUp _ => true
  | .receiveFrame _ _ => true
  | .analysisComplete => true
  | .tick => true
  | .silenceExpiry _ => true
  | .serviceLimitExpiry _ => true
  | .blankingExpiry _ => true
  | .stopExpiry _ => true
  | .thawDwellReached _ => true
  | .refreshExpiry _ => true
  | .counterCarry _ _ => true
  | .dayRollover => true
  | .checkpointHour => true
  | .checkpointIntervalExpiry => true
  | .storeRecordWritten r => r.wf
  | .transmitStart _ => true
  | .transmitComplete _ => true
  | .commitTimeout => true
  | .restartExecute => true
  | .readStatus o => o.wf
  | .readStream o k => o.wf && isByte k
  | .readTurbine o k => o.wf && isByte k
  | .readSpeed o k => o.wf && isByte k
  | .readBands o k => o.wf && isByte k
  | .readGrid o => o.wf
  | .readContributors o => o.wf
  | .readIce o k => o.wf && isByte k
  | .readItem o k => o.wf && isByte k
  | .readCounters o k => o.wf && isByte k
  | .loadStream o es => o.wf && listFits 1 18 es.length && es.all RawEntry.wf
  | .dropStream o ks => o.wf && decide (ks.length < 256) && ks.all isByte
  | .loadBandset o k st bs => o.wf && isByte k && st.wf && listFits 7 14 bs.length && bs.all RawBand.wf
  | .loadLimits o ls => o.wf && decide (ls.length = 40) && ls.all RawLimit.wf
  | .loadCurve o c bs => o.wf && isByte c && decide (bs.length = 25) && bs.all isHalf
  | .loadSettings o ns => o.wf && decide (ns.length = 25) && ns.all isHalf
  | .discardStage o => o.wf
  | .commit o m t => o.wf && isByte m && isHalf t
  | .loadTurbine o k p c r => o.wf && isByte k && isByte p && isByte c && isHalf r
  | .holdStream o k => o.wf && isByte k
  | .resumeStream o k => o.wf && isByte k
  | .beginService o k l => o.wf && isByte k && isByte l
  | .endService o k => o.wf && isByte k
  | .triggerWindow o k i => o.wf && isByte k && isByte i
  | .loadItem o k r => o.wf && isByte k && r.wf
  | .clearItem o k => o.wf && isByte k
  | .signOff o k => o.wf && isByte k
  | .setCounter o k c v => o.wf && isByte k && isByte c && isWord v
  | .declareIce o k => o.wf && isByte k
  | .declareClear o k => o.wf && isByte k
  | .clearGrid o => o.wf
  | .setClock o d h m s t mode => o.wf && isHalf d && [h, m, s, t, mode].all isByte
  | .holdClock o => o.wf
  | .releaseClock o => o.wf
  | .saveCounters o => o.wf
  | .setFindingMask o k v => o.wf && isByte k && isByte v
  | .adviceMode o m => o.wf && isByte m
  | .restart o => o.wf
  | .powerLoss torn => torn.wf

end Sys2Proof
end

