-- ==== Sys2Proof/Certificates/Slice0/Obligations.lean ====
section
/-! DEFINITION. Certificates/Slice0/Obligations.lean: the statements about the block that are to be proved. -/

section Statements

open Sys2Proof Sys2Proof.Machine

/-! ## Steps and invariants -/

/-- A step takes the command at the front of the queue and runs it on the state with the queue's rest (the model's own
queue, entry 1). -/
def Obligations.StepTakesTheFront : Prop :=
  ∀ (c : Instr) (rest : List Instr) (s : State), s.pending = c :: rest → step s = exec c { s with pending := rest }

/-- With nothing in the queue the block idles, and no command touches the queue of waiting commands (the model's own queue,
entry 1). -/
def Obligations.QueueIsTakenFromTheFrontOnly : Prop :=
  (∀ s : State, s.pending = [] → step s = .next s) ∧
  (∀ (c : Instr) (s t : State), exec c s = .next t → t.pending = s.pending)

/-- Every command, from every state, answers a next state: no command of the manual stops the model. That a command or an
event whose condition does not hold (a path that is not ACTIVE, a port that is DOWN, a timer that has not counted out) answers
the state as it stands at all is the model's choice, which no section of the manual gives (entry 3). -/
def Obligations.EveryCommandAnswers : Prop := ∀ (c : Instr) (s : State), ∃ t, exec c s = .next t

/-- The ATTN line stands at the value of its causes after every step, and that value is true exactly on an ACTIVE path where a
present turbine out of service has vibration grade ALARM, the grid state is CONDITION, or an item is OVERDUE (R166). -/
def Obligations.EveryStepFormsAttn : Prop :=
  (∀ s t : State, attnFormed s → step s = .next t → attnFormed t) ∧
  (∀ s : State, attnValue s = true ↔ s.standing = .active ∧
     ((∃ t, (s.turbines.get t).present = true ∧ (s.turbines.get t).service = false ∧ s.vib.grades.get t = .alarm) ∨
      s.harm.grid.state = .condition ∨ ∃ i it, s.items.get i = some it ∧ it.state = .overdue))

/-- The invariants hold at reset: ATTN stands at the value of its causes, every queue is within its capacity, the engine is
sound, and no commit waits (R54, R56, R166, R178, R181). -/
def Obligations.InvariantsHoldAtReset : Prop :=
  attnFormed State.reset ∧ queuesBounded State.reset ∧ engineSound State.reset ∧ commitWaits State.reset

/-- Every step keeps the Finding Queue and the four transmit queues within their capacity (section 10.2, R178). -/
def Obligations.EveryStepBoundsTheQueues : Prop := ∀ s t : State, queuesBounded s → step s = .next t → queuesBounded t

/-- Every step keeps the classes of the Analysis Queue within their capacity, and leaves no record waiting while the engine
is IDLE (R54, R56). -/
def Obligations.EveryStepKeepsTheEngineSound : Prop := ∀ s t : State, engineSound s → step s = .next t → engineSound t

/-- After every step a waiting commit has groups left, and each of them has a member with an open or closing window: a group
without one has changed over, and a commit with none left has ended (R188; entry 10). -/
def Obligations.EveryStepKeepsCommitsWaiting : Prop := ∀ s t : State, commitWaits s → step s = .next t → commitWaits t

/-- What power-on leaves: every slot EMPTY with instance 0, no turbine present, every speed record NO_SIGNAL, the clock
UNSET, every mask ON, the advice mode SILENT, the Command Unit READY and every queue empty: the Analysis Queue, the Finding
Queue, the four transmit queues and the model's own queue of commands (R4, R21, R37, R54, R128, R165, R171, R173, R181;
entry 1). -/
def Obligations.PowerOnValues : Prop :=
  (∀ i, (State.reset.streams.slots.get i).state = .empty ∧ (State.reset.streams.slots.get i).inst = 0) ∧
  (∀ t, (State.reset.turbines.get t).present = false ∧ (State.reset.turbines.get t).oper = .unknown) ∧
  (∀ t, (State.reset.speeds.get t).state = .noSignal) ∧ State.reset.clock.state = .unset ∧
  (∀ k, State.reset.findings.masks.get k = true) ∧ State.reset.advice.active = false ∧ State.reset.cmd = .ready ∧
  State.reset.engine.vibQueue = [] ∧ State.reset.engine.harmQueue = [] ∧ State.reset.engine.analysing = none ∧
  State.reset.pending = [] ∧ State.reset.findings.queue = [] ∧ State.reset.portU.transit = [] ∧ State.reset.portU.localQ = [] ∧
  State.reset.portD.transit = [] ∧ State.reset.portD.localQ = []

/-! ## Start-up and supply (chapter 11, section 9.8) -/

/-- RESET_RELEASE from reset or without supply: the straps are read and every block takes its power-on value, every queue of
the part empty (R173 step 1). What is no state of the part stays by the model's choice: the line signals and the image (entry
33) and the model's own queue of commands (entry 1). -/
def Obligations.ResetReleaseReadsTheStraps : Prop :=
  ∀ (strap : Nat) (umgt : Bool) (s : State), strap < 16 → s.standing = .held ∨ s.standing = .unpowered →
    exec (.resetRelease strap umgt) s =
      .next (State.powerOn .restoring (strap + 1) umgt s.portU.signal s.portD.signal s.image s.pending)

/-- RESET_ASSERT and POWER_LOSS on a running part: the path is BYPASS at once, every queue and count is lost, ATTN is not
asserted, and the image is as the interruption of a write leaves it: a header being written is found not good, another record
being written is as its torn bytes leave it, and without a write the image stays (R157, R172; what of the state around them
stays is the model's choice, entry 33). -/
def Obligations.FallLosesTheVolatileState : Prop :=
  ∀ (torn : TornRecord) (s : State), s.standing = .restoring ∨ s.standing = .active →
    (exec (.resetAssert torn) s =
      .next (State.powerOn .held s.node s.umgt s.portU.signal s.portD.signal (imageInterrupted s torn) s.pending)) ∧
    (exec (.powerLoss torn) s =
      .next (State.powerOn .unpowered s.node s.umgt s.portU.signal s.portD.signal (imageInterrupted s torn) s.pending)) ∧
    (∀ p, s.store.state = .writing p .header → (imageInterrupted s torn).header = false) ∧
    (∀ p r, s.store.state = .writing p r → r ≠ .header → imageInterrupted s torn = imageTorn s.image r torn) ∧
    ((∀ p r, s.store.state ≠ .writing p r) → imageInterrupted s torn = s.image)

/-- RESTORE_COMPLETE: main counters come from the good turbine blocks where the header was answered and good and are 0 otherwise,
the store state is ABSENT where nothing was answered and IDLE otherwise, the path becomes ACTIVE, and each port takes its link
state from the line (R155, R173).
Items come from the good item blocks, an item without one being lost, and every restored item but a DAYS item is evaluated
(R155, R156). The findings are STORE_ABSENT, STORE_INVALID or STORE_PARTIAL with the numbers lost, then STARTED with the restore
result, the numbers, the node and UMGT, then a PORT_DOWN for each port whose line is down (R155, R173); that the restore's
finding comes before the items' and Port U's PORT_DOWN first is the model's choice (entry 17), and so is that STARTED carries 0
for both numbers where no record was read, the store absent or its header bad (entry 26). -/
def Obligations.RestoreFillsAndActivates : Prop :=
  (∀ (answered : Nat) (s : State), s.standing = .restoring → (∀ p, s.cmd ≠ .commit p) →
     ∃ t, exec (.restoreComplete answered) s = .next t ∧ t.standing = .active ∧
       (∀ x, (t.usage.get x).main =
         if 0 < answered ∧ s.image.header = true ∧ x.val + 1 < answered then (s.image.blocks.get x).getD .zero else .zero) ∧
       t.store.state = (if answered = 0 then .absent else .idle) ∧
       t.portU.up = (s.portU.up || s.portU.signal) ∧ t.portD.up = (s.portD.up || s.portD.signal) ∧ t.image = s.image ∧
       t.clock = s.clock ∧ t.streams = s.streams ∧ t.turbines = s.turbines) ∧
  (∀ (answered : Nat) (s : State), s.standing = .restoring →
     let block := fun x : Tid => if x.val + 1 < answered then s.image.block x else none
     let item := fun i : ItemId => if i.val + 25 < answered then s.image.item i else none
     let lostBlocks := (allTurbines.filter (fun x => (block x).isNone)).length
     let lostItems := (allItems.filter (fun i => (item i).isNone)).length
     let emptied : State := { s with
       usage := mapTab (fun u => { u with main := .zero }) s.usage,
       items := Vector.replicate 96 none }
     let filled : State := { s with
       usage := tabOf (fun x => { s.usage.get x with main := (block x).getD .zero }),
       items := tabOf (fun i => (item i).getD none) }
     let absent : StoreCtl := { s.store with state := .absent }
     let idle : StoreCtl := { s.store with state := .idle, timer := loadTimer (s.active.settings.ckptInterval * 36000) }
     let ends := fun (w : State) (result blocks items : Nat) => exec (.restoreComplete answered) s =
       .next (settle (findingLook { takeLinkState (takeLinkState
         (raise (allItems.foldl evaluateItem w) .started none .none
           [vNat result, vNat blocks, vNat items, vNat s.node, vNat (flagCode s.umgt)]) .u) .d with standing := .active }))
     (answered = 0 → ends (raise { emptied with store := absent } .storeAbsent none .none []) 3 0 0) ∧
     (0 < answered → s.image.header = false → ends (raise { emptied with store := idle } .storeInvalid none .none []) 2 0 0) ∧
     (0 < answered → s.image.header = true → lostBlocks = 0 → lostItems = 0 → ends { filled with store := idle } 0 0 0) ∧
     (0 < answered → s.image.header = true → 0 < lostBlocks ∨ 0 < lostItems →
       ends (raise { filled with store := idle } .storePartial none .none [vNat lostBlocks, vNat lostItems])
         1 lostBlocks lostItems) ∧
     (s.clock.state = .unset → (∀ p, s.cmd ≠ .commit p) → ∃ t, exec (.restoreComplete answered) s = .next t ∧
       ∀ i, t.items.get i = (if 0 < answered ∧ s.image.header = true then (item i).getD none else none).map (fun it =>
         if it.basis = .days then it
         else { it with state := itemStateAt it (mainOf ((block it.turbine).getD .zero) it.basis) }))) ∧
  (∀ (s : State) (p : Port),
     ((portOf s p).signal = true → takeLinkState s p = setPort s p { portOf s p with up := true }) ∧
     ((portOf s p).signal = false → takeLinkState s p = raise s .portDown none (.port p) [vNat (portOf s p).badCheck]))

/-! ## Link ports (chapter 11) -/

/-- LINK_DOWN on an UP port of an ACTIVE part: the port goes DOWN, the frame in transmission is cut off, and PORT_DOWN carries
the bad-check count. LINK_UP on a DOWN port: the port comes UP, and PORT_UP carries the frames waiting in its two queues.
The port's queues and counts are kept in both (R174). -/
def Obligations.LineSignalMovesThePort : Prop :=
  (∀ (p : Port) (s : State), s.standing = .active → (portOf s p).up = true →
     exec (.linkDown p) s = .next (settle (raise
       (setPort s p { portOf s p with signal := false, up := false, sending := none })
       .portDown none (.port p) [vNat (portOf s p).badCheck]))) ∧
  (∀ (p : Port) (s : State), s.standing = .active → (portOf s p).up = false →
     exec (.linkUp p) s = .next (settle (raise
       (setPort s p { portOf s p with signal := true, up := true })
       .portUp none (.port p) [vNat ((portOf s p).transit.length + (portOf s p).localQ.length)])))

/-- A frame that fails its check is dropped: the port's bad-check count rises by 1, stopping at its top, and nothing else
changes (R175). -/
def Obligations.BadFrameIsOnlyCounted : Prop :=
  ∀ (p : Port) (bytes : List Byte) (s : State), receives s p = true → frameGood bytes = false →
    exec (.receiveFrame p bytes) s =
      .next (settle (setPort s p { portOf s p with badCheck := min ((portOf s p).badCheck + 1) 4294967295 }))

/-- A good frame that is no own-node COMMAND, and on Port U not sample-bearing, goes unchanged into the other side's
transit queue where there is room (R176, R178). At a full transit queue it is dropped: the port's overflow count rises by 1,
and PORT_OVERFLOW names the port and carries that count and the frame's source (R178). -/
def Obligations.OtherFramesPassUnchanged : Prop :=
  ∀ (p : Port) (bytes : List Byte) (s : State), receives s p = true → frameGood bytes = true →
    ¬ ((headerOf bytes).kind = 8 ∧ (headerOf bytes).source = s.node) →
    (p = .d ∨ (headerOf bytes).kind = 0 ∨ 3 < (headerOf bytes).kind) →
    ((portOf s (otherPort p)).transit.length < transitCap (otherPort p) →
      exec (.receiveFrame p bytes) s =
        .next (settle (setPort s (otherPort p)
          { portOf s (otherPort p) with transit := (portOf s (otherPort p)).transit ++ [{ bytes := bytes }] }))) ∧
    (transitCap (otherPort p) ≤ (portOf s (otherPort p)).transit.length →
      exec (.receiveFrame p bytes) s =
        .next (settle (raise (setPort s (otherPort p)
            { portOf s (otherPort p) with overflow := min ((portOf s (otherPort p)).overflow + 1) 4294967295 })
          .portOverflow none (.port (otherPort p))
          [vNat (min ((portOf s (otherPort p)).overflow + 1) 4294967295), vNat (headerOf bytes).source])))

/-- An own-node COMMAND frame does exactly what the row of its code does with the parameters the frame carries (R176, R181,
R192, R194; entry 2).
One whose payload is shorter than a code and a tag is refused BAD_PARAMETER with code, tag and detail 0, one whose code is not in
the table UNKNOWN_COMMAND, one whose parameters have not the length of their layout BAD_PARAMETER with detail 0, and parameters
of that length spell a command (R181, R192, R194; entry 25). -/
def Obligations.CommandFrameIsItsCommand : Prop :=
  (∀ (p : Port) (bytes : List Byte) (c : Instr) (s : State), frameGood bytes = true → (headerOf bytes).kind = 8 →
     (headerOf bytes).source = s.node → 2 ≤ (payloadOf bytes).length →
     parse ⟨p, byteAt (payloadOf bytes) 1⟩ (byteAt (payloadOf bytes) 0) ((payloadOf bytes).drop 2) = .command c →
     exec (.receiveFrame p bytes) s = exec c s) ∧
  (∀ (p : Port) (bytes : List Byte) (s : State), frameGood bytes = true → (headerOf bytes).kind = 8 →
     (headerOf bytes).source = s.node →
     let c : Instr := .receiveFrame p bytes
     let body := payloadOf bytes
     let code := byteAt body 0
     let o : Origin := ⟨p, byteAt body 1⟩
     let ps := body.drop 2
     (body.length < 2 → accepts s ⟨p, 0⟩ → answersRefused c s ⟨p, 0⟩ 0 .badParameter 0) ∧
     (2 ≤ body.length → accepts s o →
       (code = 0 ∨ (11 ≤ code ∧ code ≤ 15) ∨ (24 ≤ code ∧ code ≤ 31) ∨ 52 ≤ code → answersRefused c s o code .unknownCommand 0) ∧
       (∀ n, commandLength code ps = some n → ps.length ≠ n → answersRefused c s o code .badParameter 0) ∧
       (∀ n, commandLength code ps = some n → ps.length = n → ∃ i, parse o code ps = .command i)))

/-- TRANSMIT_START: the oldest local frame goes first while the local run count is below 4 or no transit frame waits,
otherwise the oldest transit frame; the run count follows the table of R179, and the frame sent has left its queue: what
was behind it stands at the front. A place freed in the Port D local queue is looked at by the Finding Unit, which places its
oldest records while it holds at most 12 frames; one freed in the Port U local queue takes the owed ADVICE frame of the lowest
turbine first (R164, R169; that owed frames take it before any reply is the model's choice, entry 53). That the frame sent is
the RESTART reply is told to the Command Unit (R191).
TRANSMIT_COMPLETE: the transmitter becomes idle and nothing else changes (R179). -/
def Obligations.TransmitterAlternates : Prop :=
  (∀ (p : Port) (s : State), canSend s p = true →
     ∃ u, exec (.transmitStart p) s = .next (settle u) ∧
       (∀ f rest, (portOf s p).localQ = f :: rest → (portOf s p).transit = [] →
         (portOf u p).sending = some f.frame ∧ (portOf u p).run = 0 ∧ (portOf u p).transit = [] ∧
         ∃ more, (portOf u p).localQ = rest ++ more) ∧
       (∀ f rest g gs, (portOf s p).localQ = f :: rest → (portOf s p).transit = g :: gs → (portOf s p).run < 4 →
         (portOf u p).sending = some f.frame ∧ (portOf u p).run = (portOf s p).run + 1 ∧ (portOf u p).transit = g :: gs ∧
         ∃ more, (portOf u p).localQ = rest ++ more) ∧
       (∀ f rest g gs, (portOf s p).localQ = f :: rest → (portOf s p).transit = g :: gs → 4 ≤ (portOf s p).run →
         (portOf u p).sending = some g ∧ (portOf u p).run = 0 ∧ (portOf u p).transit = gs ∧
         (portOf u p).localQ = f :: rest) ∧
       (∀ g gs, (portOf s p).localQ = [] → (portOf s p).transit = g :: gs →
         (portOf u p).sending = some g ∧ (portOf u p).run = 0 ∧ (portOf u p).transit = gs ∧ (portOf u p).localQ = [])) ∧
  (∀ (p : Port) (s : State), s.standing = .active →
     exec (.transmitComplete p) s = .next (settle (setPort s p { portOf s p with sending := none }))) ∧
  (∀ (p : Port) (s : State), canSend s p = true →
   let sent := fun (f : LocalFrame) (rest : List LocalFrame) (n : Nat) =>
     ({ setPort s p { portOf s p with localQ := rest, sending := some f.frame, run := n } with
        cmd := if f.what = .restartReply ∧ s.cmd = .restart false then .restart true else s.cmd } : State)
   ∃ u, exec (.transmitStart p) s = .next (settle u) ∧
     (∀ f rest, (portOf s p).localQ = f :: rest → (portOf s p).transit = [] →
       (p = .d → u = findingLook (sent f rest 0)) ∧ (p = .u → u = placeOwed (sent f rest 0))) ∧
     (∀ f rest g gs, (portOf s p).localQ = f :: rest → (portOf s p).transit = g :: gs → (portOf s p).run < 4 →
       (p = .d → u = findingLook (sent f rest ((portOf s p).run + 1))) ∧
       (p = .u → u = placeOwed (sent f rest ((portOf s p).run + 1))))) ∧
  (∀ x : State, x.standing = .active →
     (x.findings.queue = [] ∨ 12 < x.portD.localQ.length → findingLook x = x) ∧
     (∀ f rest, x.findings.queue = f :: rest → x.portD.localQ.length ≤ 12 →
       findingLook x = findingLook { x with
         findings := checkLost (stampOf x.clock) { x.findings with
           queue := rest, frameSeq := (x.findings.frameSeq + 1) % 256 },
         portD := { x.portD with
           localQ := x.portD.localQ ++ [findingFrame x.node (headerStamp x.clock) x.findings.frameSeq f] } }) ∧
     (16 ≤ x.portU.localQ.length ∨ (∀ t, (x.advice.recs.get t).owed = false) → placeOwed x = x) ∧
     (∀ t, (x.advice.recs.get t).owed = true → (∀ y, y < t → (x.advice.recs.get y).owed = false) →
       x.portU.localQ.length < 16 →
       placeOwed x = placeOwed { x with
         portU := { x.portU with localQ := x.portU.localQ ++ [adviceFrame x t] },
         advice := { x.advice with
           frameSeq := (x.advice.frameSeq + 1) % 256,
           recs := put x.advice.recs t { x.advice.recs.get t with owed := false } } }))

/-- A reply, DONE or REFUSED or the reply of RESTART, is offered to the local queue of the command's port: placed at the end where
there is a place, otherwise dropped and counted; either way it takes the next REPLY number, and nothing else changes
(R178, R182). Its payload is the tag, the code, and DONE with the results or REFUSED with the reason and the detail (R182,
R194); the detail 0 of a reply DONE is the model's choice (entry 65). -/
def Obligations.RepliesAreOfferedOrDropped : Prop :=
  ∀ (s : State) (what : LocalKind) (o : Origin) (code : Nat) (refusal : Option (Reason × Nat)) (results : List Byte),
    (∀ r d, replyRefused s o code r d = replyAs s .reply o code (some (r, d)) []) ∧
    replyDone s o code results = replyAs s .reply o code none results ∧
    (replyFrame s what o code refusal results).what = what ∧
    (replyFrame s what o code refusal results).frame =
      buildFrame 9 1 s.node 0 s.replySeq (s.clock.sinceStart * 100 % 4294967296)
        (match refusal with
          | none => u8 o.tag ++ u8 code ++ u8 0 ++ u8 0 ++ u16 0 ++ results
          | some (r, d) => u8 o.tag ++ u8 code ++ u8 1 ++ u8 (reasonCode r) ++ u16 d) ∧
    ((portOf s o.port).localQ.length < 16 →
      replyAs s what o code refusal results =
        { setPort s o.port { portOf s o.port with
            localQ := (portOf s o.port).localQ ++ [replyFrame s what o code refusal results] }
          with replySeq := (s.replySeq + 1) % 256 }) ∧
    (16 ≤ (portOf s o.port).localQ.length →
      replyAs s what o code refusal results =
        { setPort s o.port { portOf s o.port with
            repliesDropped := min ((portOf s o.port).repliesDropped + 1) 4294967295 }
          with replySeq := (s.replySeq + 1) % 256 })

/-- Every frame the part builds passes the check that a receiver makes, and carries the header fields it was given
(R175, R193). -/
def Obligations.BuiltFramesPassTheCheck : Prop :=
  ∀ (kind flags source channel seq stamp : Nat) (payload : List Byte), kind < 256 → flags < 256 → source < 256 →
    channel < 256 → seq < 256 → stamp < 4294967296 → payload.length ≤ 512 →
    frameGood (buildFrame kind flags source channel seq stamp payload).bytes = true ∧
    headerOf (buildFrame kind flags source channel seq stamp payload).bytes =
      { kind := kind, flags := flags, source := source, channel := channel, seq := seq, len := payload.length, stamp := stamp } ∧
    payloadOf (buildFrame kind flags source channel seq stamp payload).bytes = payload

/-- A command taken while the Command Unit is WORKING is refused BUSY with detail 0, one from Port U without UMGT is refused
WRONG_PORT in either state, and nothing else changes (R177, R181); shown for one command without and one with a parameter,
and for the whole of what a COMMAND frame can ask. -/
def Obligations.WorkingRefusesBusy : Prop :=
  ∀ (o : Origin) (s : State), s.standing = .active → (portOf s o.port).up = true →
    (o.port = .u ∧ s.umgt = false → ∀ k body, command o k body s = .next (settle (replyRefused s o k .wrongPort 0))) ∧
    (o.port = .d ∨ s.umgt = true → s.cmd ≠ .ready →
      (∀ k body, command o k body s = .next (settle (replyRefused s o k .busy 0))) ∧
      answersRefused (.restart o) s o 51 .busy 0 ∧ (∀ k, answersRefused (.readStream o k) s o 2 .busy 0))

/-! ## Reads (section 12.5) -/

/-- The ten reads change nothing and reply DONE with the values as they stand (R190): the status of every block (R63, R128, R149,
R165, R166, R180, R183), a stream's entries and its runtime (R4), a turbine's record, grade, requests, ice state and advice, or of
turbine 0 present YES and the grid state (R20, R169), the speed record (R37), a VIB slot's window, test, series and band state with
the frozen flags (R86), the grid record with the former, the hysteresis and the counts (R109), the Contributor List (R109), the ice
record (R113), and the main counters, sub-counters and gates (R135). The order of the bytes is the model's reading of R194 (entry
24), and so are the fields of a window that READ BANDS shows without one (entry 21), its bands where the set has changed since (entry
39), the code of a test's cause (entry 45) and the cycle count that READ GRID shows without an open window (entry 60). -/
def Obligations.ReadsChangeNothing : Prop :=
  ∀ (o : Origin) (s : State), accepts s o →
    answersDone (.readStatus o) s o 1 s
      (let port (r : PortRec) := u8 (if r.up = true then 0 else 1) ++ uCounts [r.badCheck, r.overflow, r.repliesDropped] ++
         u8 r.transit.length ++ u8 r.localQ.length ++ u8 r.run
       let counts (c : ClassCounts) := uCounts [c.queued, c.overrun, c.staleAtStart, c.analysed, c.staleAtDelivery]
       let severe (v : Severity) := u8 (s.findings.queue.filter (fun f => decide (severity f.kind = v))).length
       u8 (if s.standing = .active then 1 else 0) ++ u8 s.node ++ uFlag s.umgt ++ port s.portU ++ port s.portD ++
       uCounts [s.streams.unknown, s.streams.mismatched] ++
       (uFlag s.engine.analysing.isSome ++
        u8 (match s.engine.analysing with | some (.vib _) => 0 | some (.harm _) => 1 | none => 255) ++
        u8 s.engine.vibQueue.length ++ u8 s.engine.harmQueue.length ++ u8 s.engine.harmRun ++ counts s.engine.vibCounts ++
        counts s.engine.harmCounts ++ u32 s.engine.omitted) ++
       (u16 s.streams.gen ++ u16 s.active.bandGen ++ u16 s.active.limitGen ++ u16 s.active.curveGen) ++
       (uFlag (decide (∃ i : SlotId, s.staged.streams.get i ≠ (s.streams.slots.get i).entry)) ++
        uFlag (decide (s.staged.bands ≠ s.active.bands)) ++ uFlag (decide (s.staged.limits ≠ s.active.limits)) ++
        uFlag (decide (s.staged.curves ≠ s.active.curves)) ++ uFlag (decide (s.staged.settings ≠ s.active.settings))) ++
       (u8 (clockStateCode s.clock.state) ++ u16 s.clock.day ++ u8 s.clock.hour ++ u8 s.clock.minute ++ u8 s.clock.second ++
        u8 s.clock.tenth ++ uCounts [s.clock.heldTicks, s.clock.sinceStart]) ++
       (u8 (storeStateCode s.store.state) ++ uFlag s.store.pending ++ uFlag s.store.faultRaised ++
        u32 (timerTicks s.store.timer) ++ uCounts [s.store.started, s.store.completed, s.store.failed] ++
        noneOnes 1 s.store.failedPos) ++
       (u8 s.findings.queue.length ++ (severe .info ++ severe .notice ++ severe .alert ++ severe .alarm) ++
        u16 s.findings.nextSeq ++ u32 s.findings.lost ++ (s.findings.masks.toList.map uFlag).flatten ++
        uFlag s.findings.attn ++
        uFlag (decide (∃ t : Tid, (s.turbines.get t).present = true ∧ (s.turbines.get t).service = false ∧
          s.vib.grades.get t = .alarm)) ++
        uFlag (decide (s.harm.grid.state = .condition)) ++
        uFlag (decide (∃ i : ItemId, (s.items.get i).map (fun it => it.state) = some .overdue))) ++
       u8 (if s.advice.active = true then 0 else 1)) ∧
    (∀ i : SlotId, answersDone (.readStream o i.val) s o 2 s
      (let x := s.streams.slots.get i
       uFlag (entryAt s i).isNone ++ entryBytes i (entryAt s i) ++
       (u8 (streamStateCode x.state) ++ u16 x.inst ++ noneOnes 2 x.expected ++
        uCounts [x.gaps, x.stale, x.malformed, x.taken] ++ u8 x.thin ++ u8 (timerTicks x.silence) ++ u16 x.silentTicks) ++
       entryBytes i (stagedAt s i) ++ uFlag (slotDiffers s i))) ∧
    answersDone (.readTurbine o 0) s o 3 s
      ((uFlag true ++ u8 0 ++ u16 0 ++ u8 0 ++ noneSigned none ++ noneOnes 4 none ++ noneSigned none ++ u32 0 ++ uFlag false ++
        u32 0 ++ uFlag false ++ u16 0) ++
       (u8 0 ++ uFlag false ++ uFlag false ++ u8 0 ++ u8 0 ++ u8 0 ++ u16 0 ++ uFlag false) ++
       u8 (gridStateCode s.harm.grid.state)) ∧
    (∀ t : Tid, answersDone (.readTurbine o (tnum t)) s o 3 s
      (let r := s.turbines.get t
       let a := s.advice.recs.get t
       (uFlag r.present ++ u8 r.cls ++ u16 r.rated ++ u8 (operCode r.oper) ++ noneSigned r.lastPower ++
        noneOnes 4 r.lastWind ++ noneSigned r.lastTemp ++ u32 r.implausible ++ uFlag r.service ++
        u32 (timerTicks r.limitTimer) ++ uFlag r.overrun ++ u16 (timerTicks r.blanking)) ++
       (u8 (gradeCode (s.vib.grades.get t)) ++ uFlag (curtailRequested s t) ++ uFlag (holdRequested s t) ++
        u8 (iceStateCode (s.ice.get t).state) ++ u8 (adviceCode a.advice) ++ u8 a.limit ++ u16 (timerTicks a.refresh) ++
        uFlag a.owed))) ∧
    (∀ t : Tid, answersDone (.readSpeed o (tnum t)) s o 4 s
      (let r := s.speeds.get t
       u8 (speedStateCode r.state) ++ noneOnes 4 r.speed ++ noneZero 4 r.period ++ uTime r.reference ++ u16 r.edges ++
       uTime r.lastCounted ++ uTime r.lastMarker ++ u8 r.consecSlips ++ u8 r.goodRun ++ u8 (timerTicks r.stopTimer) ++
       uCounts [r.spacingRejects, r.disorderRejects, r.slips, r.lost])) ∧
    (∀ (i : SlotId) (e : StreamEntry) (r : VibRec) (t : Tid), entryAt s i = some e → s.vib.recs.get i = some r →
      e.role = .vib → e.source = tnum t →
      (∀ b : SetId, e.bandSet = b.val → setOf s e = s.active.bands.get b) ∧
      answersDone (.readBands o i.val) s o 5 s
      ((match r.window with
         | none => u8 0 ++ u8 255 ++ u8 0 ++ u8 0 ++ u16 0
         | some w => u8 (if w.closing.isSome = true then 2 else 1) ++ u8 (if w.test = true then 1 else 0) ++ u8 w.revs ++
             u8 w.target ++ u16 w.samples.length) ++
       uFlag r.testPending ++
       (match r.lastTest with
         | none => u8 0 ++ u8 255
         | some (v, c) => u8 (testOutcomeCode (some v)) ++ u8 ((c.map (fun c => (causeIndex c).val)).getD 255)) ++
       u8 (gradeCode r.grade) ++ noneZero 2 r.meanSpeed ++ u8 r.skip ++ u8 r.post ++
       uCounts [r.queued, r.graded, r.discarded] ++ uCounts r.abandoned.toList ++ u8 (setOf s e).bands.length ++
       ((setOf s e).bands.zipIdx.map (fun p =>
         let x := r.bands.getD p.2 .fresh
         u8 (bandKindCode p.1.kind) ++ noneOnes 4 x.latest ++ u8 (gradeCode x.grade) ++ u8 x.exceed ++ u8 x.alarm ++
         u8 x.fall ++ uFlag x.beyond ++
         uFlag (decide (p.1.iceSensitive = true ∧ ((s.ice.get t).state = .iced ∨ (s.ice.get t).state = .thawing))))).flatten)) ∧
    answersDone (.readGrid o) s o 6 s
      (let h := s.harm
       let g := s.harm.grid
       u8 (match h.former with | .suspended => 0 | .waiting => 1 | .opened _ => 2) ++
       (u8 (gridStateCode g.state) ++ u8 g.exceedRun ++ u8 g.cleanRun ++ noneOnes 8 g.onset ++ u8 g.escalation ++
        uFlag g.armed ++ u8 g.requests.length ++ (g.requests.map (fun t => u8 (tnum t))).flatten ++
        noneOnes 1 (g.verdict.map verdictCode) ++ noneZero 1 g.worst ++ noneOnes 4 g.worstRatio ++ noneOnes 4 g.thdV ++
        noneOnes 4 g.thdI ++ noneZero 2 g.meanFund ++ (g.fundamentals.toList.map (noneOnes 4)).flatten) ++
       u8 (match h.former with | .opened w => w.cycles | .suspended => 0 | .waiting => 0) ++ u16 h.detector.h ++ u8 h.summary ++
       uCounts [h.queued, h.analysed, h.exceedings, h.omissions, h.discarded] ++ uCounts h.abandoned.toList) ∧
    answersDone (.readContributors o) s o 7 s
      (u8 s.harm.contributors.length ++ (s.harm.contributors.map (fun p =>
        u8 (tnum p.turbine) ++ u32 p.current ++ uFlag (s.turbines.get p.turbine).service ++
        uFlag (holdRequested s p.turbine) ++ uFlag (curtailRequested s p.turbine))).flatten) ∧
    (∀ t : Tid, answersDone (.readIce o (tnum t)) s o 8 s
      (let r := s.ice.get t
       u8 (iceStateCode r.state) ++ u8 r.evidence ++ u16 r.blockCount ++ u32 r.blockSum ++ noneOnes 2 r.lastMean ++
       uFlag r.reportsLive ++ uFlag r.warm ++ noneSigned r.lastAmbient ++ u32 r.thawTimer ++ u8 r.trial ++
       uCounts [r.qualifying, r.skipped, r.ended] ++ uCounts r.discarded.toList ++ uFlag (holdRequested s t) ++
       u16 s.active.curveGen)) ∧
    (∀ i : ItemId, answersDone (.readItem o i.val) s o 9 s (itemBytes s i)) ∧
    (∀ t : Tid, answersDone (.readCounters o (tnum t)) s o 10 s
      (let c := s.usage.get t
       uCounts [c.main.run, c.main.krev, c.main.starts, c.main.ice, c.main.curtailed] ++ u16 c.run.ticks ++ u16 c.revSub ++
       u16 c.ice.ticks ++ u16 c.curtailed.ticks ++ uFlag c.run.gate ++ uFlag c.ice.gate ++ uFlag c.curtailed.gate))

/-- Reads that name a turbine or a slot outside their range are refused BAD_PARAMETER with the parameter as detail (R37, R86, R113,
R135, R144, R190). A load whose first bad entry is the k-th is refused BAD_ENTRY with k, and nothing is staged (R184): LOAD
STREAM, LOAD BANDSET with its settings as entry 0 (R65; beside an empty band list too by the model's choice: entry 64), LOAD LIMITS
(R95), LOAD CURVE (R110) and LOAD SETTINGS. A stream entry is bad where its slot is above 191 or named before, or where it breaks the ranges of its role and kind (R1, R2); the set settings
and the bands are good in the ranges of R65, the limits of R95, the bins of R110 and the 25 settings of R183, entry 1 at 0 and 1
by the model's choice of codes (entry 55).
READ BANDS of a slot without a VIB entry is refused BAD_PARAMETER 1 (R86), DROP STREAM with a slot above 191 BAD_PARAMETER with that
slot's list position (R184), and LOAD STREAM and DROP STREAM with a count outside 1 to 16 with detail 1 (R184; the detail is the
model's reading, DEDUCED, entry 25); LOAD BANDSET of a set above 31 with 1 and of more than 12 bands with 2 (R65; entry 54), and LOAD
CURVE of a class above 3 with 1 (R110).
So are a slot or a turbine out of range in HOLD STREAM (R14), RESUME STREAM (R15), DECLARE ICE and DECLARE CLEAR (R125, R126) and an
item slot out of range or empty in SIGN OFF (R147); a day, hour, minute, second, tenth or start mode in SET CLOCK (R130), a turbine or
a counter in SET COUNTER (R138), a kind or a setting in SET FINDING MASK (R163) and a mode in ADVICE MODE (R171), of several the
lowest by the model's choice (entry 59). -/
def Obligations.BadParametersAndEntriesAreRefused : Prop :=
  (∀ (o : Origin) (s : State), accepts s o →
     (∀ k, 192 ≤ k → answersRefused (.readStream o k) s o 2 .badParameter 1 ∧
       answersRefused (.readBands o k) s o 5 .badParameter 1) ∧
     (∀ k, 25 ≤ k → answersRefused (.readTurbine o k) s o 3 .badParameter 1) ∧
     (∀ k, k = 0 ∨ 25 ≤ k → answersRefused (.readSpeed o k) s o 4 .badParameter 1 ∧
       answersRefused (.readIce o k) s o 8 .badParameter 1 ∧ answersRefused (.readCounters o k) s o 10 .badParameter 1) ∧
     (∀ k, 96 ≤ k → answersRefused (.readItem o k) s o 9 .badParameter 1)) ∧
  (∀ (o : Origin) (s : State), accepts s o →
     (∀ es k, 1 ≤ es.length → es.length ≤ 16 → firstBadPair [] 1 es = some k →
       answersRefused (.loadStream o es) s o 16 .badEntry k) ∧
     (∀ (b : SetId) st bs, bs.length ≤ 12 → setSettingsOk st = false →
       answersRefused (.loadBandset o b.val st bs) s o 18 .badEntry 0) ∧
     (∀ (b : SetId) st bs k, bs.length ≤ 12 → setSettingsOk st = true → firstBadBand 1 bs = some k →
       answersRefused (.loadBandset o b.val st bs) s o 18 .badEntry k) ∧
     (∀ ls k, ls.length = 40 → firstBadLimit 1 ls = some k → answersRefused (.loadLimits o ls) s o 19 .badEntry k) ∧
     (∀ (c : Fin 4) bs k, bs.length = 25 → firstBadBin 3 bs = some k →
       answersRefused (.loadCurve o c.val bs) s o 20 .badEntry k) ∧
     (∀ ns k, ns.length = 25 → firstBadSetting (settingAt ns 16) 1 ns = some k →
       answersRefused (.loadSettings o ns) s o 21 .badEntry k)) ∧
  (∀ (es : List RawEntry) k, firstBadPair [] 1 es = some k ↔
     ∃ pre r post, es = pre ++ r :: post ∧ k = pre.length + 1 ∧
       (192 ≤ r.slot ∨ entryOk r = false ∨ ∃ x ∈ pre, x.slot = r.slot) ∧
       ∀ a x b, pre = a ++ x :: b → x.slot < 192 ∧ entryOk x = true ∧ ∀ y ∈ a, y.slot ≠ x.slot) ∧
  (∀ r : RawEntry, entryOk r = true ↔
     (1 ≤ r.kind ∧ r.kind ≤ 3 ∧ r.role ≤ 6 ∧ r.disposition ≤ 2 ∧ r.source ≤ 31 ∧ r.channel ≤ 7 ∧ r.silence ≤ 255) ∧
     (r.role = 0 ∨ r.role = 4 → r.kind = 1 ∧ 1 ≤ r.source ∧ r.source ≤ 24) ∧
     (r.role = 2 ∨ r.role = 3 → r.kind = 1 ∧ r.source = 0) ∧
     (r.role = 1 → r.kind = 2 ∧ 1 ≤ r.source ∧ r.source ≤ 24 ∧ 1 ≤ r.pulses ∧ r.pulses ≤ 512 ∧ r.edges ≤ 2 ∧
       r.markerPresent ≤ 1 ∧ (r.markerPresent = 1 → r.markerPolarity ≤ 1) ∧ r.spacing ≤ 65535) ∧
     (r.role = 5 → r.kind = 3 ∧ 1 ≤ r.source ∧ r.source ≤ 24) ∧
     (r.role = 2 ∨ r.role = 3 ∨ r.role = 4 → r.phase ≤ 2) ∧ (r.role = 0 → r.bandSet ≤ 31) ∧
     (r.role = 0 ∨ r.role = 2 ∨ r.role = 3 ∨ r.role = 4 → r.scale ≤ 7) ∧
     (r.disposition = 2 → 2 ≤ r.thinN ∧ r.thinN ≤ 16)) ∧
  (∀ r : RawSetSettings, setSettingsOk r = true ↔
     1 ≤ r.revolutions ∧ r.revolutions ≤ 64 ∧ 1 ≤ r.persistence ∧ r.persistence ≤ 15 ∧ r.report ≤ 1 ∧ r.postscale ≤ 16 ∧
     r.skip ≤ 15) ∧
  (∀ (bs : List RawBand) k, firstBadBand 1 bs = some k ↔
     ∃ pre b post, bs = pre ++ b :: post ∧ k = pre.length + 1 ∧ bandOk b = false ∧ ∀ x ∈ pre, bandOk x = true) ∧
  (∀ b : RawBand, bandOk b = true ↔
     b.kind ≤ 1 ∧ 1 ≤ b.lower ∧ b.lower < b.upper ∧ (b.kind = 0 → b.upper ≤ 2000) ∧ (b.kind = 1 → b.upper ≤ 10000) ∧
     1 ≤ b.alert ∧ b.alert < b.alarm ∧ b.alarm ≤ 16777215 ∧ b.iceSensitive ≤ 1) ∧
  (∀ (ls : List RawLimit) k, firstBadLimit 1 ls = some k ↔
     ∃ pre l post, ls = pre ++ l :: post ∧ k = pre.length + 1 ∧ (2000 < l.voltage ∨ 10000 < l.current) ∧
       ∀ x ∈ pre, x.voltage ≤ 2000 ∧ x.current ≤ 10000) ∧
  (∀ (bs : List Nat) k, firstBadBin 3 bs = some k ↔
     ∃ pre b post, bs = pre ++ b :: post ∧ k = pre.length + 3 ∧ 32767 < b ∧ ∀ x ∈ pre, x ≤ 32767) ∧
  (∀ (ns : List Nat) don k, firstBadSetting don 1 ns = some k ↔
     ∃ pre n post, ns = pre ++ n :: post ∧ k = pre.length + 1 ∧ settingOk don k n = false ∧
       ∀ j x, pre[j]? = some x → settingOk don (j + 1) x = true) ∧
  (∀ don n : Nat,
     (settingOk don 1 n = true ↔ n ≤ 1) ∧ (settingOk don 2 n = true ↔ n ≤ 600) ∧
     (settingOk don 3 n = true ↔ 1 ≤ n ∧ n ≤ 255) ∧ (settingOk don 4 n = true ↔ 1 ≤ n ∧ n ≤ 20) ∧
     (settingOk don 5 n = true ↔ n = 50 ∨ n = 60) ∧ (settingOk don 6 n = true ↔ 2 ≤ n ∧ n ≤ 20) ∧
     (settingOk don 7 n = true ↔ 1 ≤ n ∧ n ≤ 15) ∧ (settingOk don 8 n = true ↔ 1 ≤ n ∧ n ≤ 255) ∧
     (settingOk don 9 n = true ↔ 1 ≤ n ∧ n ≤ 255) ∧ (settingOk don 10 n = true ↔ 1 ≤ n ∧ n ≤ 4) ∧
     (settingOk don 11 n = true ↔ 10 ≤ n ∧ n ≤ 90 ∧ n % 10 = 0) ∧ (settingOk don 12 n = true ↔ n ≤ 1) ∧
     (settingOk don 13 n = true ↔ n ≤ 16) ∧
     (n < 65536 → (settingOk don 14 n = true ↔ n ≤ 50 ∨ 65536 - 300 ≤ n)) ∧
     (settingOk don 15 n = true ↔ 10 ≤ n ∧ n ≤ 600) ∧ (settingOk don 16 n = true ↔ 5 ≤ n ∧ n ≤ 80) ∧
     (settingOk don 17 n = true ↔ n < don) ∧ (settingOk don 18 n = true ↔ 1 ≤ n ∧ n ≤ 15) ∧
     (n < 65536 → (settingOk don 19 n = true ↔ n ≤ 150 ∨ 65536 - 50 ≤ n)) ∧
     (settingOk don 20 n = true ↔ 1 ≤ n ∧ n ≤ 1440) ∧ (settingOk don 21 n = true ↔ n ≤ 1) ∧
     (settingOk don 22 n = true ↔ 1 ≤ n ∧ n ≤ 4) ∧ (settingOk don 23 n = true ↔ 1 ≤ n ∧ n ≤ 60) ∧
     (settingOk don 24 n = true ↔ 1 ≤ n ∧ n ≤ 24) ∧ (settingOk don 25 n = true ↔ n ≤ 23)) ∧
  (∀ (o : Origin) (s : State), accepts s o →
     (∀ i : SlotId, (∀ e, entryAt s i = some e → e.role ≠ .vib) → answersRefused (.readBands o i.val) s o 5 .badParameter 1) ∧
     (∀ es, es.length = 0 ∨ 16 < es.length → answersRefused (.loadStream o es) s o 16 .badParameter 1) ∧
     (∀ ks, ks.length = 0 ∨ 16 < ks.length → answersRefused (.dropStream o ks) s o 17 .badParameter 1) ∧
     (∀ ks pre k post, ks.length ≤ 16 → ks = pre ++ k :: post → (∀ x ∈ pre, x < 192) → 192 ≤ k →
       answersRefused (.dropStream o ks) s o 17 .badParameter (pre.length + 1)) ∧
     (∀ k st bs, 32 ≤ k → answersRefused (.loadBandset o k st bs) s o 18 .badParameter 1) ∧
     (∀ (b : SetId) st bs, 12 < bs.length → answersRefused (.loadBandset o b.val st bs) s o 18 .badParameter 2) ∧
     (∀ k bs, bs.length = 25 → 4 ≤ k → answersRefused (.loadCurve o k bs) s o 20 .badParameter 1)) ∧
  (∀ (o : Origin) (s : State), accepts s o →
     (∀ k, 192 ≤ k → answersRefused (.holdStream o k) s o 33 .badParameter 1 ∧
       answersRefused (.resumeStream o k) s o 34 .badParameter 1) ∧
     (∀ k, k = 0 ∨ 25 ≤ k → answersRefused (.declareIce o k) s o 42 .badParameter 1 ∧
       answersRefused (.declareClear o k) s o 43 .badParameter 1 ∧
       ∀ counter value, answersRefused (.setCounter o k counter value) s o 41 .badParameter 1) ∧
     (∀ (t : Tid) counter value, 5 ≤ counter → answersRefused (.setCounter o (tnum t) counter value) s o 41 .badParameter 2) ∧
     (∀ k, 96 ≤ k → answersRefused (.signOff o k) s o 40 .badParameter 1) ∧
     (∀ i : ItemId, s.items.get i = none → answersRefused (.signOff o i.val) s o 40 .badParameter 1) ∧
     (∀ day hour minute second tenth mode : Nat,
       let refused (k : Nat) := answersRefused (.setClock o day hour minute second tenth mode) s o 45 .badParameter k
       (65535 < day → refused 1) ∧ (day ≤ 65535 → 23 < hour → refused 2) ∧
       (day ≤ 65535 → hour ≤ 23 → 59 < minute → refused 3) ∧
       (day ≤ 65535 → hour ≤ 23 → minute ≤ 59 → 59 < second → refused 4) ∧
       (day ≤ 65535 → hour ≤ 23 → minute ≤ 59 → second ≤ 59 → 9 < tenth → refused 5) ∧
       (day ≤ 65535 → hour ≤ 23 → minute ≤ 59 → second ≤ 59 → tenth ≤ 9 → 1 < mode → refused 6)) ∧
     (∀ kind setting, kind = 0 ∨ 37 < kind → answersRefused (.setFindingMask o kind setting) s o 49 .badParameter 1) ∧
     (∀ kind setting, 1 ≤ kind → kind ≤ 37 → 1 < setting →
       answersRefused (.setFindingMask o kind setting) s o 49 .badParameter 2) ∧
     (∀ mode, 1 < mode → answersRefused (.adviceMode o mode) s o 50 .badParameter 1))

/-! ## The Staging Area and COMMIT (sections 12.2 and 12.3) -/

/-- LOAD STREAM and DROP STREAM past their checks write the named staged slots only: a slot named takes its entry or becomes
empty, the others keep theirs (R184). The entry taken holds the field values sent; a field that its role or disposition does not use
is stored as 0 (R1). -/
def Obligations.StreamLoadsStageOnly : Prop :=
  ∀ (o : Origin) (s : State), accepts s o →
    (∀ es : List RawEntry, 1 ≤ es.length → es.length ≤ 16 → firstBadPair [] 1 es = none →
      ∃ x, answersDone (.loadStream o es) s o 16 { s with staged := { s.staged with streams := x } } [] ∧
        (∀ (i : SlotId) r, r ∈ es → r.slot = i.val → x.get i = some (entryOf r)) ∧
        (∀ i : SlotId, (∀ r ∈ es, r.slot ≠ i.val) → x.get i = s.staged.streams.get i)) ∧
    (∀ ks : List Nat, 1 ≤ ks.length → ks.length ≤ 16 → (∀ k ∈ ks, k < 192) →
      ∃ x, answersDone (.dropStream o ks) s o 17 { s with staged := { s.staged with streams := x } } [] ∧
        (∀ i : SlotId, x.get i = if i.val ∈ ks then none else s.staged.streams.get i)) ∧
    (∀ r : RawEntry, entryOk r = true →
      let e := entryOf r
      let phased := r.role = 2 ∨ r.role = 3 ∨ r.role = 4
      let scaled := r.role = 0 ∨ phased
      let tach := r.role = 1
      let marked := tach ∧ r.markerPresent = 1
      e.source = r.source ∧ e.channel = r.channel ∧ streamKindCode e.kind = r.kind ∧ roleCode e.role = r.role ∧
      phaseCode e.phase = (if phased then r.phase else 0) ∧ e.bandSet = (if r.role = 0 then r.bandSet else 0) ∧
      e.scale = (if scaled then r.scale else 0) ∧ e.pulses = (if tach then r.pulses else 0) ∧
      edgesCode e.edges = (if tach then r.edges else 0) ∧ (e.markerPresent = true ↔ marked) ∧
      polarityCode e.markerPolarity = (if marked then r.markerPolarity else 0) ∧
      e.spacing = (if tach then r.spacing else 0) ∧ dispositionCode e.disposition = r.disposition ∧
      e.thinN = (if r.disposition = 2 then r.thinN else 0) ∧ e.silence = r.silence)

/-- The four table loads past their checks write the staged copy of the set, the limits, the class or the settings they
carry, and nothing else (R65, R95, R110, R183, R184): the set settings and each band's fields, the THD pair and the pairs of the
orders 2 to 40, the 25 bins, and the 25 settings, each at its place. The codes of the unknown-stream policy, FORWARD 0 and DISCARD 1, by which
LOAD SETTINGS is read are the model's choice (entry 55). -/
def Obligations.TableLoadsStageOnly : Prop :=
  ∀ (o : Origin) (s : State), accepts s o →
    (∀ (b : SetId) st bs, bs.length ≤ 12 → setSettingsOk st = true → (∀ x ∈ bs, bandOk x = true) →
      answersDone (.loadBandset o b.val st bs) s o 18
        { s with staged := { s.staged with bands := put s.staged.bands b (bandSetOf st bs) } } []) ∧
    (∀ ls : List RawLimit, ls.length = 40 → (∀ l ∈ ls, l.voltage ≤ 2000 ∧ l.current ≤ 10000) →
      answersDone (.loadLimits o ls) s o 19 { s with staged := { s.staged with limits := limitsOf ls } } []) ∧
    (∀ (c : Fin 4) (bs : List Nat), bs.length = 25 → (∀ b ∈ bs, b ≤ 32767) →
      answersDone (.loadCurve o c.val bs) s o 20
        { s with staged := { s.staged with curves := put s.staged.curves c (curveOf bs) } } []) ∧
    (∀ ns : List Nat, ns.length = 25 → firstBadSetting (settingAt ns 16) 1 ns = none →
      answersDone (.loadSettings o ns) s o 21 { s with staged := { s.staged with settings := settingsOf ns } } []) ∧
    (∀ (st : RawSetSettings) (bs : List RawBand), (∀ b ∈ bs, bandOk b = true) → setSettingsOk st = true →
      let x := bandSetOf st bs
      x.revolutions = st.revolutions ∧ x.persistence = st.persistence ∧ (x.report = .level ↔ st.report = 1) ∧
      x.postscale = st.postscale ∧ x.skip = st.skip ∧ x.bands.length = bs.length ∧
      ∀ (k : Nat) (b : RawBand) (y : Band), bs[k]? = some b → x.bands[k]? = some y →
        bandKindCode y.kind = b.kind ∧ y.lower = b.lower ∧ y.upper = b.upper ∧ y.alert = b.alert ∧ y.alarm = b.alarm ∧
        (y.iceSensitive = true ↔ b.iceSensitive = 1)) ∧
    (∀ ls : List RawLimit, ls.length = 40 → ∀ l : RawLimit,
      (ls[0]? = some l → (limitsOf ls).thd = { voltage := l.voltage, current := l.current }) ∧
      (∀ k : Fin 39, ls[k.val + 1]? = some l →
        (limitsOf ls).orders.get k = { voltage := l.voltage, current := l.current })) ∧
    (∀ (bs : List Nat) (k : Fin 25) n, bs[k.val]? = some n → (curveOf bs).get k = n) ∧
    (∀ a1 a2 a3 a4 a5 a6 a7 a8 a9 a10 a11 a12 a13 a14 a15 a16 a17 a18 a19 a20 a21 a22 a23 a24 a25 : Nat,
      settingsOf [a1, a2, a3, a4, a5, a6, a7, a8, a9, a10, a11, a12, a13, a14, a15, a16, a17, a18, a19, a20, a21, a22, a23,
          a24, a25] =
        { policy := if a1 = 0 then .forward else .discard, blankingTime := a2, stopTime := a3, tolerance := a4,
          nominal := a5, cycles := a6, gridPersist := a7, release := a8, escalation := a9, cmax := a10, reduction := a11,
          response := if a12 = 0 then .latched else .following, gridPostscale := a13,
          tempGate := if a14 < 32768 then (a14 : Int) else (a14 : Int) - 65536, blockSize := a15, onDeficit := a16,
          offDeficit := a17, confirm := a18, thawTemp := if a19 < 32768 then (a19 : Int) else (a19 : Int) - 65536,
          thawDwell := a20, holdOnIce := decide (a21 = 1), trialBlocks := a22, refresh := a23, ckptInterval := a24,
          ckptHour := a25 })

/-- DISCARD STAGE makes each staged copy equal to its active copy, so that the five staged-differs flags are NO, and replies
DONE; a FAULTY slot with an entry still counts as changed at a later commit (R185). -/
def Obligations.DiscardStageCopiesTheActive : Prop :=
  ∀ (o : Origin) (s : State), accepts s o →
    ∃ u, answersDone (.discardStage o) s o 22 u [] ∧ u = { s with staged := u.staged } ∧
      (∀ i, u.staged.streams.get i = (s.streams.slots.get i).entry) ∧ u.staged.bands = s.active.bands ∧
      u.staged.limits = s.active.limits ∧ u.staged.curves = s.active.curves ∧ u.staged.settings = s.active.settings ∧
      stagedDiffers u = [false, false, false, false, false] ∧
      (∀ i e, (s.streams.slots.get i).state = .faulty → (s.streams.slots.get i).entry = some e → slotChanged u i = true)

/-- COMMIT IMMEDIATE past its check: the staged tables and settings are active, each generation rises by 1 where its table
changed, the Stream Table's where a slot changed (its wrap is the model's choice, entry 43), each changed slot has taken its
staged entry as a new instance or become EMPTY and every other slot is as it was, the staged copies stand, the unit stays
READY, and the reply DONE carries the number of slots changed, no forcing and the four generations (R5, R187, R194).
A COMMIT whose staged Stream Table repeats a key or breaks a role limit is refused with that slot, in either mode, and
changes nothing (R186). A mode above 1 is refused BAD_PARAMETER 1, and a timeout that is not 0 and lies outside 10 to 600 BAD_PARAMETER
2, in either mode (R186); where both are, the mode is named by the model's choice (entry 59).
COMMIT AT_BOUNDARY past its check makes the tables active and leaves waiting only groups with an open or closing window
(R188; entry 10).
Behind the tables, in an order that is the model's choice (entry 30): each VIB stream of a changed band set whose slot is not itself
changed takes fresh band states, no stream grade and a new series, under IMMEDIATE losing its window and its pending test under
COMMIT, and the grades are formed again (R66, R81; the beyond-range flag by the model's choice, entry 41); changed limits set the
runs, the escalation count, the verdict, the worst order and the ratios back (R98, R107); a changed curve discards every turbine's
block (R111); a Cmax below the requests withdraws the latest ones (R107); evidence above K becomes K (R119); a change of hold-on-ice
is told for each ICED turbine (R124); and a changed reduction has every advice computed (R167).
A slot that changes over gives ENDED where it was LIVE, REPLACED or DROPPED, and takes its staged entry with a new record where it
is VIB, its h 0 where it is the reference (R5, R67, R90; entry 58); the grades of the turbines touched are formed again (R81).
Each changed slot is in one group; two are in one exactly where a chain of bonds joins them, a bond being that the old entry of one
and the new entry of the other share a key, a source as TACH, OPSTAT or CONV_I, a feeder role and phase, or a turbine as VIB (R188);
the groups stand in the order of their highest slots (entry 30). The first waiting group without a window changes over, then the
next, and with none left the reply is DONE with the slots changed, no forcing and the generations, and the unit READY (R188).
The check gives DUPLICATE_KEY with the lowest slot whose staged key stands in a lower slot, else DUPLICATE_ROLE with the lowest
slot that breaks a role limit, else nothing (R3, R186). -/
def Obligations.CommitImmediateTakesTheStage : Prop :=
  (∀ (o : Origin) (s : State) (timeout : Nat), accepts s o → (timeout = 0 ∨ (10 ≤ timeout ∧ timeout ≤ 600)) →
     commitRefusal s = none →
     ∃ t, answersDone (.commit o 0 timeout) s o 23 t (u8 (changedSlots s).length ++ u8 0 ++ u8 0 ++ u16 t.streams.gen ++
         u16 t.active.bandGen ++ u16 t.active.limitGen ++ u16 t.active.curveGen) ∧
       t = (changedSlots s).foldl (fun x i => changeOver x [i]) (applyTables s true (changedSlots s)) ∧
       ((∀ i, slotChanged s i = false) → t.streams.gen = s.streams.gen) ∧
       ((∃ i, slotChanged s i = true) → t.streams.gen = (s.streams.gen + 1) % 65536) ∧
       (∀ i, i ∈ changedSlots s ↔ slotChanged s i = true) ∧
       t.active.bands = s.staged.bands ∧ t.active.limits = s.staged.limits ∧ t.active.curves = s.staged.curves ∧
       t.active.settings = s.staged.settings ∧
       t.active.bandGen = (if s.staged.bands = s.active.bands then s.active.bandGen else (s.active.bandGen + 1) % 65536) ∧
       t.active.limitGen = (if s.staged.limits = s.active.limits then s.active.limitGen else (s.active.limitGen + 1) % 65536) ∧
       t.active.curveGen = (if s.staged.curves = s.active.curves then s.active.curveGen else (s.active.curveGen + 1) % 65536) ∧
       (∀ i, t.streams.slots.get i =
         if slotChanged s i = true then slotTaking (s.streams.slots.get i) (s.staged.streams.get i)
         else s.streams.slots.get i) ∧
       t.staged = s.staged ∧ t.cmd = .ready ∧ t.clock = s.clock ∧ t.image = s.image ∧ t.store = s.store) ∧
  (∀ (o : Origin) (s : State) (mode timeout : Nat) why detail, accepts s o → mode ≤ 1 →
     (timeout = 0 ∨ (10 ≤ timeout ∧ timeout ≤ 600)) → commitRefusal s = some (why, detail) →
     answersRefused (.commit o mode timeout) s o 23 why detail) ∧
  (∀ (o : Origin) (s : State) (timeout ticks : Nat), accepts s o → commitTicks timeout = some ticks → commitRefusal s = none →
     ∃ t, exec (.commit o 1 timeout) s = .next t ∧
       t = settle { applyTables s false (changedSlots s) with
         cmd := .commit { origin := o, ticks := ticks, groups := groupsOf s (changedSlots s), changed := (changedSlots s).length } } ∧
       t.active.bands = s.staged.bands ∧ t.active.limits = s.staged.limits ∧ t.active.curves = s.staged.curves ∧
       t.active.settings = s.staged.settings ∧ t.staged = s.staged ∧
       (∀ i, slotChanged s i = false → t.streams.slots.get i = s.streams.slots.get i) ∧
       (∀ p, t.cmd = .commit p → ∀ g ∈ p.groups, g.any (slotHasWindow t) = true)) ∧
  (∀ s : State,
     (∀ i : SlotId, commitRefusal s = some (.duplicateKey, i.val) ↔ keyRepeated s i ∧ ∀ j, j < i → ¬ keyRepeated s j) ∧
     (∀ i : SlotId, commitRefusal s = some (.duplicateRole, i.val) ↔
       (∀ j, ¬ keyRepeated s j) ∧ roleRepeated s i ∧ ∀ j, j < i → ¬ roleRepeated s j) ∧
     (commitRefusal s = none ↔ ∀ j, ¬ keyRepeated s j ∧ ¬ roleRepeated s j)) ∧
  (∀ (o : Origin) (s : State) (mode timeout : Nat), accepts s o →
     (1 < mode → answersRefused (.commit o mode timeout) s o 23 .badParameter 1) ∧
     (mode ≤ 1 → timeout ≠ 0 → timeout < 10 ∨ 600 < timeout →
       answersRefused (.commit o mode timeout) s o 23 .badParameter 2)) ∧
  (∀ (s : State) (immediate : Bool) (changed : List SlotId),
     let old := s.active
     let new := s.staged
     let next (differs : Bool) (g : Nat) : Nat := if differs = true then (g + 1) % 65536 else g
     let named (i : SlotId) : Prop := ∃ e, (s.streams.slots.get i).entry = some e ∧ e.role = .vib ∧
       ∃ b : SetId, b.val = e.bandSet ∧ new.bands.get b ≠ old.bands.get b
     let s1 : State := { s with
       active := {
         bands := new.bands, bandGen := next (decide (new.bands ≠ old.bands)) old.bandGen,
         limits := new.limits, limitGen := next (decide (new.limits ≠ old.limits)) old.limitGen,
         curves := new.curves, curveGen := next (decide (new.curves ≠ old.curves)) old.curveGen,
         settings := new.settings },
       streams := { s.streams with gen := if changed = [] then s.streams.gen else (s.streams.gen + 1) % 65536 } }
     ∃ slots : List SlotId, slots.Pairwise (· < ·) ∧ (∀ i, i ∈ slots ↔ named i ∧ i ∉ changed) ∧
       (let s2 := (slots.filterMap (fun i => vibTurbine (s.streams.slots.get i).entry)).foldl formGrades
         (slots.foldl (resetForSet immediate) s1)
        let g := s2.harm.grid
        let s3 : State := if new.limits = old.limits then s2 else { s2 with harm := { s2.harm with grid := { g with
          exceedRun := 0, cleanRun := 0, escalation := 0, verdict := none, worst := none, worstRatio := none,
          thdV := none, thdI := none } } }
        let s4 : State := if new.curves = old.curves then s3 else allTurbines.foldl (discardBlock .curve) s3
        let s5 := (s4.harm.grid.requests.drop new.settings.cmax).reverse.foldl withdraw s4
        let s6 : State := { s5 with
          ice := mapTab (fun r => { r with evidence := min r.evidence new.settings.confirm }) s5.ice }
        let s7 := allTurbines.foldl (fun x t =>
          tellHold (decide ((x.ice.get t).state = .iced) && old.settings.holdOnIce) x t) s6
        applyTables s immediate changed =
          if old.settings.reduction = new.settings.reduction then s7 else allTurbines.foldl computeAdvice s7)) ∧
  (∀ (s : State) (i : SlotId) (e : StreamEntry) (r : VibRec), entryAt s i = some e → s.vib.recs.get i = some r →
     let fresh (x : VibRec) : VibRec := { x with
       bands := (setOf s e).bands.map (fun _ => .fresh), grade := .unknown, skip := (setOf s e).skip, post := 0 }
     resetForSet false s i = { s with vib := { s.vib with recs := put s.vib.recs i (some (fresh r)) } } ∧
     resetForSet true s i = updVib (cancelTest .commit (abandonWindow .commit s i) i) i fresh) ∧
  (∀ (s : State) (t : Tid),
     let v := formGrades s t
     v.vib.recs = s.vib.recs ∧ v.streams = s.streams ∧
     (∀ x, v.vib.grades.get x =
       if x = t then worstGrade ((vibSlots s t).map (streamGrade s)) else s.vib.grades.get x)) ∧
  (∀ (s : State) (t : Tid) (before : Bool),
     let hold := decide ((s.ice.get t).state = .iced) && s.active.settings.holdOnIce
     let kept := s.harm.grid.requests.filter (fun x => x ≠ t)
     (t ∈ s.harm.grid.requests → withdraw s t =
       computeAdvice { s with harm := { s.harm with grid := { s.harm.grid with requests := kept } } } t) ∧
     (t ∉ s.harm.grid.requests → withdraw s t = s) ∧
     (before = hold → tellHold before s t = s) ∧
     (before = false → hold = true → tellHold before s t = withdraw (computeAdvice s t) t) ∧
     (before = true → hold = false → tellHold before s t = computeAdvice s t)) ∧
  (∀ (s : State) (i : SlotId),
     let x := s.streams.slots.get i
     (slotChanged s i = true ↔ s.staged.streams.get i ≠ x.entry ∨ (x.state = .faulty ∧ s.staged.streams.get i ≠ none)) ∧
     (∀ e, x.entry = some e → x.state = .live →
       leaveOld s i = tellEnded s i e (if s.staged.streams.get i = none then .dropped else .replaced)) ∧
     (x.entry = none ∨ x.state ≠ .live → leaveOld s i = s) ∧
     (s.staged.streams.get i = none → takeStaged s i = setVib (setSlot s i { Slot.reset with inst := x.inst }) i none) ∧
     (∀ e, s.staged.streams.get i = some e →
       let u := setVib (setSlot s i { Slot.reset with state := .idle, entry := some e, inst := (x.inst + 1) % 65536 }) i
         (if e.role = .vib then some (newVibRec (setOf s e)) else none)
       takeStaged s i = if e.role = .gridV ∧ e.phase = .a
         then { u with harm := { u.harm with detector := { u.harm.detector with h := 0 } } } else u) ∧
     (∀ g : List SlotId, ∃ ts : List Tid, changeOver s g = ts.foldl formGrades (g.foldl takeStaged (g.foldl leaveOld s)) ∧
       ∀ t, t ∈ ts ↔ ∃ j ∈ g, ∃ e, (entryAt s j = some e ∨ s.staged.streams.get j = some e) ∧ e.role = .vib ∧
         e.source = tnum t)) ∧
  (∀ s : State,
     let shares (a b : StreamEntry) : Prop :=
       (a.source = b.source ∧ a.channel = b.channel) ∨
       (a.role = b.role ∧ (a.role = .tach ∨ a.role = .opstat ∨ a.role = .convI) ∧ a.source = b.source) ∨
       (a.role = b.role ∧ (a.role = .gridV ∨ a.role = .gridI) ∧ a.phase = b.phase) ∨
       (a.role = .vib ∧ b.role = .vib ∧ a.source = b.source)
     let half (i j : SlotId) : Prop := ∃ a b, (s.streams.slots.get i).entry = some a ∧ s.staged.streams.get j = some b ∧
       shares a b
     let changed (i : SlotId) : Prop := slotChanged s i = true
     let groups := groupsOf s (changedSlots s)
     (∀ i, changed i ↔ ∃ g ∈ groups, i ∈ g) ∧ groups.flatten.Nodup ∧
     (∀ i j, changed i → changed j →
       ((∃ g ∈ groups, i ∈ g ∧ j ∈ g) ↔
         ∀ p : SlotId → Prop, (∀ a b, changed a → changed b → half a b ∨ half b a → p a → p b) → p i → p j)) ∧
     (∀ g ∈ groups, g.Pairwise (· < ·)) ∧ groups.Pairwise (fun g h => ∃ j ∈ h, ∀ i ∈ g, i < j)) ∧
  (∀ (s : State) (i : SlotId), slotHasWindow s i = true ↔ windowAt s i ≠ none ∨
     ((∃ e, entryAt s i = some e ∧ e.role = .gridV ∧ e.phase = .a) ∧ ∃ w, s.harm.former = .opened w)) ∧
  (∀ (s : State) (p : PendingCommit), s.cmd = .commit p →
     (p.groups = [] → settle s = formAttn (replyDone { s with cmd := .ready } p.origin 23
       (u8 p.changed ++ u8 0 ++ u8 0 ++ u16 s.streams.gen ++ u16 s.active.bandGen ++ u16 s.active.limitGen ++
        u16 s.active.curveGen))) ∧
     (p.groups ≠ [] → (∀ g ∈ p.groups, ∃ i ∈ g, slotHasWindow s i = true) → settle s = formAttn s) ∧
     (∀ pre g post, p.groups = pre ++ g :: post → (∀ h ∈ pre, ∃ i ∈ h, slotHasWindow s i = true) →
       (∀ i ∈ g, slotHasWindow s i = false) →
       settle s = settle (changeOver { s with cmd := .commit { p with groups := pre ++ post } } g)))

/-- COMMIT_TIMEOUT: every group still waiting changes over at once, each of its slots taking its staged copy, the reply
carries the forced flag and the number of slots forced, and the unit becomes READY (R189). That the groups change over as one step is
the model's choice (entry 30). -/
def Obligations.CommitTimeoutForcesTheGroups : Prop :=
  ∀ (s : State) (p : PendingCommit), s.standing = .active → s.cmd = .commit p → p.ticks = 0 → p.groups.flatten.Nodup →
    ∃ u, exec .commitTimeout s = .next (settle (replyDone u p.origin 23
        (u8 p.changed ++ u8 1 ++ u8 p.groups.flatten.length ++ generationBytes s))) ∧
      u.cmd = .ready ∧
      (∀ i, u.streams.slots.get i =
        if i ∈ p.groups.flatten then slotTaking (s.streams.slots.get i) (s.staged.streams.get i)
        else s.streams.slots.get i) ∧
      u.active = s.active ∧ u.staged = s.staged ∧ u.clock = s.clock ∧ u.store = s.store

/-- A good stream entry read back by READ STREAM and loaded again by LOAD STREAM is the same entry: no field of it is lost in
its 18 bytes (R1, R194). -/
def Obligations.StreamEntriesReadBackAsLoaded : Prop :=
  ∀ (i : SlotId) (r : RawEntry), r.wf = true → entryOk r = true →
    (entryBytes i (some (entryOf r))).length = 18 ∧
    entryOk (rawEntryOf (entryBytes i (some (entryOf r)))) = true ∧
    entryOf (rawEntryOf (entryBytes i (some (entryOf r)))) = entryOf r

/-! ## Streams (chapter 1) -/

/-- HOLD STREAM makes a slot in IDLE or SILENT HELD with its timer stopped and its sequence unset, leaves a HELD slot as it
is, and is refused on an EMPTY or FAULTY slot; on a LIVE slot the same, and the stream's block is told ENDED (R14). -/
def Obligations.HoldStreamHolds : Prop :=
  ∀ (o : Origin) (s : State) (i : SlotId), accepts s o →
    (∀ e, (s.streams.slots.get i).state = .idle ∨ (s.streams.slots.get i).state = .silent → entryAt s i = some e →
      answersDone (.holdStream o i.val) s o 33
        (setSlot s i { s.streams.slots.get i with state := .held, silence := none, expected := none }) []) ∧
    (∀ e, (s.streams.slots.get i).state = .live → entryAt s i = some e →
      answersDone (.holdStream o i.val) s o 33
        (tellEnded (setSlot s i { s.streams.slots.get i with state := .held, silence := none, expected := none }) i e .held)
        []) ∧
    ((s.streams.slots.get i).state = .held → answersDone (.holdStream o i.val) s o 33 s []) ∧
    ((s.streams.slots.get i).state = .empty ∨ (s.streams.slots.get i).state = .faulty →
      answersRefused (.holdStream o i.val) s o 33 .badParameter 1)

/-- RESUME STREAM returns a HELD slot to IDLE with its thinning counter 0 and its counts, instance and unset sequence kept,
changes nothing in IDLE, LIVE, SILENT or FAULTY, replying DONE in both cases, and is refused on an EMPTY slot (R15). -/
def Obligations.ResumeStreamResumes : Prop :=
  ∀ (o : Origin) (s : State) (i : SlotId), accepts s o →
    ((s.streams.slots.get i).state = .held →
      answersDone (.resumeStream o i.val) s o 34 (setSlot s i { s.streams.slots.get i with state := .idle, thin := 0 }) []) ∧
    ((s.streams.slots.get i).state = .idle ∨ (s.streams.slots.get i).state = .live ∨
      (s.streams.slots.get i).state = .silent ∨ (s.streams.slots.get i).state = .faulty →
      answersDone (.resumeStream o i.val) s o 34 s []) ∧
    ((s.streams.slots.get i).state = .empty → answersRefused (.resumeStream o i.val) s o 34 .badParameter 1)

/-- SILENCE_EXPIRY: a LIVE slot whose timer has counted out becomes SILENT with its timer stopped, silent ticks 0 and its
sequence unset; STREAM_SILENT carries the limit, and then ENDED with cause SILENT is told (R12). -/
def Obligations.SilenceExpirySilences : Prop :=
  ∀ (s : State) (i : SlotId) (e : StreamEntry), s.standing = .active → (s.streams.slots.get i).state = .live →
    (s.streams.slots.get i).silence = some 0 → entryAt s i = some e →
    exec (.silenceExpiry i) s = .next (settle (tellEnded
      (raise (setSlot s i { s.streams.slots.get i with state := .silent, silence := none, silentTicks := 0, expected := none })
        .streamSilent (sourceTurbine e.source) (.slot i) [vNat e.silence])
      i e .silent))

/-- The Classifier on a LIVE slot: with d = (s − e) modulo 256, d = 0 takes the frame in order, d from 1 to 127 counts d
missing frames with STREAM_GAP and GAP (GAP first: the model's choice, entry 17), and d from 128 on counts a stale frame, whose expected sequence, frames taken,
timer and thinning counter stay and of which the block is told nothing; a stale frame is itself disposed of: forwarded to Port D
where the disposition is PASS, dropped where it is TAKE or THIN (R10). A frame taken is handed on as DATA; a malformed one is
counted and told as GAP in the place of its data (R11). Then it is disposed of: PASS forwards it, TAKE does not, THIN every
N-th (R17).
RECEIVE_FRAME of a sample-bearing frame on Port U: one whose key no slot holds is counted as unknown, one of another kind than
its slot expects is counted as mismatched, and the policy forwards or drops both (R6, R7). On a HELD slot it is counted and
forwarded, on a FAULTY slot counted and disposed of (R16). One that fails the reference check makes its slot FAULTY with
STREAM_FAULTY, tells ENDED where it was LIVE, and is counted and disposed of (R8); that the slot's expected sequence becomes
unset and its silence timer stops is the model's reading (DEDUCED, entry 18). One that passes makes an IDLE or SILENT slot LIVE
with its sequence taken afresh, no gap and no stale frame counted, STREAM_BACK before LIVE from SILENT (R9, R13), and meets the
sequence check on a LIVE slot. -/
def Obligations.SequenceCheckHasThreeCases : Prop :=
  (∀ (s : State) (i : SlotId) (e : StreamEntry) (f : Frame) (d : Option FrameData) (ex : Nat),
     (s.streams.slots.get i).expected = some ex → ex < 256 →
     let q := (headerOf f.bytes).seq
     let x := s.streams.slots.get i
     let y := (liveFrame s i e f d).streams.slots.get i
     let gap := (q + 256 - ex) % 256
     (gap ≤ 127 → y.expected = some ((q + 1) % 256) ∧ y.taken = min (x.taken + 1) 4294967295 ∧
       (1 ≤ gap → y.gaps = min (x.gaps + gap) 4294967295) ∧ (gap = 0 → y.gaps = x.gaps) ∧ y.stale = x.stale ∧ y.silence = loadTimer e.silence ∧
       y.malformed = (if d.isSome = true then x.malformed else min (x.malformed + 1) 4294967295)) ∧
     (128 ≤ gap → y = { x with stale := min (x.stale + 1) 4294967295 }) ∧
     (128 ≤ gap →
       let late := setSlot s i { x with stale := min (x.stale + 1) 4294967295 }
       (e.disposition = .pass → liveFrame s i e f d = offerTransit late .d f) ∧
       (e.disposition = .take ∨ e.disposition = .thin → liveFrame s i e f d = late)) ∧
     (let z : Slot := { x with
        expected := some ((q + 1) % 256),
        taken := min (x.taken + 1) 4294967295,
        silence := loadTimer e.silence,
        malformed := if d.isSome = true then x.malformed else min (x.malformed + 1) 4294967295 }
      (gap = 0 → liveFrame s i e f d = handOn (setSlot s i z) i e f d) ∧
      (1 ≤ gap → gap ≤ 127 → liveFrame s i e f d = handOn (raise
        (tellGap (setSlot s i { z with gaps := min (x.gaps + gap) 4294967295 }) i e)
        .streamGap (sourceTurbine e.source) (.slot i)
        [vNat gap, vNat (min (x.gaps + gap) 4294967295), vNat ex, vNat q]) i e f d))) ∧
  (∀ (s : State) (bytes : List Byte), receives s .u = true → frameGood bytes = true → 1 ≤ (headerOf bytes).kind →
     (headerOf bytes).kind ≤ 3 →
     let h := headerOf bytes
     let f : Frame := { bytes := bytes }
     let c := exec (.receiveFrame .u bytes) s
     let unknown : State := { s with streams := { s.streams with unknown := min (s.streams.unknown + 1) 4294967295 } }
     let mismatched : State := { s with streams := { s.streams with mismatched := min (s.streams.mismatched + 1) 4294967295 } }
     ((∀ i e, (s.streams.slots.get i).state ≠ .empty → entryAt s i = some e → ¬ (e.source = h.source ∧ e.channel = h.channel)) →
       (s.active.settings.policy = .forward → c = .next (settle (offerTransit unknown .d f))) ∧
       (s.active.settings.policy = .discard → c = .next (settle unknown))) ∧
     (∀ i e, (s.streams.slots.get i).state ≠ .empty → entryAt s i = some e → e.source = h.source → e.channel = h.channel →
       (∀ j e', (s.streams.slots.get j).state ≠ .empty → entryAt s j = some e' → e'.source = h.source →
         e'.channel = h.channel → j = i) →
       let x := s.streams.slots.get i
       let data := frameData e.kind (payloadOf bytes)
       let malformed := if data.isSome then x.malformed else min (x.malformed + 1) 4294967295
       let counted := { x with taken := min (x.taken + 1) 4294967295, malformed := malformed }
       (streamKindCode e.kind ≠ h.kind →
         (s.active.settings.policy = .forward → c = .next (settle (offerTransit mismatched .d f))) ∧
         (s.active.settings.policy = .discard → c = .next (settle mismatched))) ∧
       (streamKindCode e.kind = h.kind →
         (x.state = .held → c = .next (settle (offerTransit (setSlot s i counted) .d f))) ∧
         (x.state = .faulty → e.disposition = .pass → c = .next (settle (offerTransit (setSlot s i counted) .d f))) ∧
         (x.state = .faulty → e.disposition = .take → c = .next (settle (setSlot s i counted))) ∧
         (x.state = .faulty → e.disposition = .thin →
           (e.thinN ≤ x.thin + 1 → c = .next (settle (offerTransit (setSlot s i { counted with thin := 0 }) .d f))) ∧
           (x.thin + 1 < e.thinN → c = .next (settle (setSlot s i { counted with thin := x.thin + 1 })))) ∧
         (x.state = .idle ∨ x.state = .live ∨ x.state = .silent → referenceFailure s e ≠ none →
           ∃ u, c = .next (settle u) ∧ (u.streams.slots.get i).state = .faulty ∧ (u.streams.slots.get i).expected = none ∧
             (u.streams.slots.get i).silence = none ∧ (u.streams.slots.get i).taken = counted.taken ∧
             (u.streams.slots.get i).malformed = malformed ∧ (u.streams.slots.get i).inst = x.inst ∧
             (∀ j, j ≠ i → u.streams.slots.get j = s.streams.slots.get j)) ∧
         (x.state = .live → referenceFailure s e = none → c = .next (settle (liveFrame s i e f data))) ∧
         (x.state = .idle ∨ x.state = .silent → referenceFailure s e = none →
           ∃ u, c = .next (settle u) ∧ (u.streams.slots.get i).state = .live ∧
             (u.streams.slots.get i).expected = some ((h.seq + 1) % 256) ∧ (u.streams.slots.get i).taken = counted.taken ∧
             (u.streams.slots.get i).malformed = malformed ∧ (u.streams.slots.get i).silence = loadTimer e.silence ∧
             (u.streams.slots.get i).gaps = x.gaps ∧ (u.streams.slots.get i).stale = x.stale ∧
             (u.streams.slots.get i).inst = x.inst ∧ (∀ j, j ≠ i → u.streams.slots.get j = s.streams.slots.get j)) ∧
         (x.state = .silent → referenceFailure s e = none → e.role = .plain → e.disposition = .take →
           c = .next (settle (raise
             (setSlot s i { counted with state := .live, expected := some ((h.seq + 1) % 256), silence := loadTimer e.silence })
             .streamBack (sourceTurbine e.source) (.slot i) [vNat x.silentTicks])))))) ∧
  (∀ (s : State) (e : StreamEntry), referenceFailure s e ≠ none ↔
     (e.role = .vib ∧ (setOf s e).bands = []) ∨
     ((e.role = .vib ∨ e.role = .tach ∨ e.role = .convI ∨ e.role = .opstat) ∧
       ∃ x : Tid, e.source = tnum x ∧ (s.turbines.get x).present = false)) ∧
  (∀ (s : State) (i : SlotId) (e : StreamEntry) (f : Frame),
     let x := s.streams.slots.get i
     (∀ v, handOn s i e f (some v) = disposeFrame (tellData s i e (headerOf f.bytes).stamp v) i e f) ∧
     handOn s i e f none = disposeFrame (tellGap s i e) i e f ∧
     (e.disposition = .pass → disposeFrame s i e f = offerTransit s .d f) ∧
     (e.disposition = .take → disposeFrame s i e f = s) ∧
     (e.disposition = .thin → e.thinN ≤ x.thin + 1 →
       disposeFrame s i e f = offerTransit (setSlot s i { x with thin := 0 }) .d f) ∧
     (e.disposition = .thin → x.thin + 1 < e.thinN → disposeFrame s i e f = setSlot s i { x with thin := x.thin + 1 })) ∧
  (∀ (s : State) (bytes : List Byte), receives s .u = true → frameGood bytes = true → 1 ≤ (headerOf bytes).kind →
     (headerOf bytes).kind ≤ 3 →
     let h := headerOf bytes
     let f : Frame := { bytes := bytes }
     let c := exec (.receiveFrame .u bytes) s
     (∀ i e, (s.streams.slots.get i).state ≠ .empty → entryAt s i = some e → e.source = h.source → e.channel = h.channel →
       (∀ j e', (s.streams.slots.get j).state ≠ .empty → entryAt s j = some e' → e'.source = h.source →
         e'.channel = h.channel → j = i) → streamKindCode e.kind = h.kind →
       let x := s.streams.slots.get i
       let data := frameData e.kind (payloadOf bytes)
       let counted := { x with
         taken := min (x.taken + 1) 4294967295, malformed := if data.isSome then x.malformed else min (x.malformed + 1) 4294967295 }
       let live := { counted with state := .live, expected := some ((h.seq + 1) % 256), silence := loadTimer e.silence }
       let failed := { x with state := .faulty, expected := none, silence := none }
       (x.state = .faulty → c = .next (settle (disposeFrame (setSlot s i counted) i e f))) ∧
       (x.state = .idle ∨ x.state = .live ∨ x.state = .silent → ∀ why, referenceFailure s e = some why →
         let told := raise (setSlot s i failed) .streamFaulty (sourceTurbine e.source) (.slot i)
           [vNat (match why with | .bandSet => 0 | .turbine => 1)]
         let ended := if x.state = .live then tellEnded told i e .faulty else told
         c = .next (settle (disposeFrame
           (setSlot ended i { counted with state := .faulty, expected := none, silence := none }) i e f))) ∧
       (x.state = .idle → referenceFailure s e = none →
         c = .next (settle (handOn (tellLive (setSlot s i live) i e) i e f data))) ∧
       (x.state = .silent → referenceFailure s e = none →
         c = .next (settle (handOn (tellLive (raise (setSlot s i live) .streamBack (sourceTurbine e.source) (.slot i)
           [vNat x.silentTicks]) i e) i e f data)))))

/-! ## Turbines (chapter 2) -/

/-- LOAD TURBINE present: a turbine that was not present takes the class and rated power; a change of rated power sets the
implausible-reports count to 0; nothing else of the record changes (R22, R24, R26). Where a present turbine changes class its
current icing block is discarded, as R118 of section 7.5 says of the change of class that R24 tells the Icing Watch.
LOAD TURBINE not present: class and rated power 0, the operating state UNKNOWN, the last values none, blanking 0 where no
curtail request is withdrawn, no curtail request and no place in the Contributor List; service mode, counters and ice
state are kept (R22, R23, R99). Of a turbine that is not present already, with class and rated power 0, it changes nothing
(R22).
A turbine number outside 1 to 24 is refused BAD_PARAMETER 1 and, with present YES, a class above 3 BAD_PARAMETER 3 and a rated
power outside 1 to 32,767 BAD_PARAMETER 4 (R22); present that is neither NO nor YES is refused BAD_PARAMETER 2 (R181). Of
several, the lowest is named by the model's choice (entry 59). -/
def Obligations.LoadTurbineConfigures : Prop :=
  (∀ (o : Origin) (s : State) (t : Tid) (cls rated : Nat), accepts s o → cls ≤ 3 → 1 ≤ rated → rated ≤ 32767 →
     ∃ u, answersDone (.loadTurbine o (tnum t) 1 cls rated) s o 32 u [] ∧
       u = { s with turbines := u.turbines, ice := u.ice } ∧
       u.turbines.get t = { s.turbines.get t with present := true, cls := cls, rated := rated,
                                                  implausible := if (s.turbines.get t).rated = rated then (s.turbines.get t).implausible else 0 } ∧
       (∀ x, x ≠ t → u.turbines.get x = s.turbines.get x) ∧
       ((s.turbines.get t).present = true → (s.turbines.get t).cls ≠ cls → (u.ice.get t).blockCount = 0 ∧ (u.ice.get t).blockSum = 0) ∧
       ((s.turbines.get t).present = false ∨ (s.turbines.get t).cls = cls → u.ice = s.ice)) ∧
  (∀ (o : Origin) (s : State) (t : Tid) (cls rated : Nat), accepts s o → (s.turbines.get t).present = true →
     ∃ u, answersDone (.loadTurbine o (tnum t) 0 cls rated) s o 32 u [] ∧
       (u.turbines.get t).present = false ∧ (u.turbines.get t).cls = 0 ∧ (u.turbines.get t).rated = 0 ∧
       (u.turbines.get t).oper = .unknown ∧ (u.turbines.get t).lastPower = none ∧ (u.turbines.get t).lastWind = none ∧
       (u.turbines.get t).lastTemp = none ∧ (u.turbines.get t).service = (s.turbines.get t).service ∧
       (t ∉ s.harm.grid.requests → (u.turbines.get t).blanking = none) ∧ t ∉ u.harm.grid.requests ∧ (∀ p ∈ u.harm.contributors, p.turbine ≠ t) ∧
       (u.usage.get t).main = (s.usage.get t).main ∧ (u.ice.get t).state = (s.ice.get t).state ∧
       (∀ x, x ≠ t → u.turbines.get x = s.turbines.get x) ∧ u.streams = s.streams ∧ u.items = s.items) ∧
  (∀ (o : Origin) (s : State) (t : Tid) (cls rated : Nat), accepts s o → (s.turbines.get t).present = false →
     (s.turbines.get t).cls = 0 → (s.turbines.get t).rated = 0 → answersDone (.loadTurbine o (tnum t) 0 cls rated) s o 32 s []) ∧
  (∀ (o : Origin) (s : State) (turbine present cls rated : Nat), accepts s o →
     let refused (k : Nat) := answersRefused (.loadTurbine o turbine present cls rated) s o 32 .badParameter k
     (turbine = 0 ∨ 24 < turbine → refused 1) ∧
     (1 ≤ turbine → turbine ≤ 24 →
       (2 ≤ present → refused 2) ∧ (present = 1 → 3 < cls → refused 3) ∧
       (present = 1 → cls ≤ 3 → rated = 0 ∨ 32767 < rated → refused 4)))

/-- A power is plausible exactly from minus one quarter to five quarters of rated power, both ends included and each bound
rounded toward zero to whole kW (R26).
The deficit of a report: 0 at or above the expected power, otherwise (E − P) × 1,000 / E rounded down and held at 1,000
(R116).
A report at the Icing Watch: last ambient, warm and the thaw timer of ICED follow its temperature (R121); it qualifies where the
rotor generates under advice NONE out of service with plausible power, a used bin, and a temperature at or below the gate,
which THAWING lifts (R115); it joins the block, which ends at M with its mean, or is counted as skipped (R117). At a block end the
evidence and the state move by R119, R120 and R123 with their findings in order. A change of state moves the ice gate and tells a
hold request that begins or ends (R124, R127; the Advice Unit first, entry 17). That a dwell already reached stays due when the state stays ICED is the model's
choice (entry 7). -/
def Obligations.ReportsAreMeasuredAndJudged : Prop :=
  (∀ (rated : Nat) (power : Int),
     plausible rated power = true ↔ (-(rated : Int)).tdiv 4 ≤ power ∧ power ≤ (5 * (rated : Int)).tdiv 4) ∧
  (∀ (e : Nat) (p : Int), 0 < e →
     ((e : Int) ≤ p → deficit e p = 0) ∧
     (p < (e : Int) → 0 ≤ p → (deficit e p : Int) = ((e : Int) - p) * 1000 / (e : Int)) ∧ (p < 0 → deficit e p = 1000)) ∧
  (∀ (s : State) (t : Tid) (p : Report),
     let st := s.active.settings
     let turb := s.turbines.get t
     let old := s.ice.get t
     let r : IceRec := { old with
       lastAmbient := some p.temp, warm := decide (st.thawTemp ≤ p.temp),
       thawTimer := if old.state = .iced ∧ p.temp < st.thawTemp then 0 else old.thawTimer }
     let fit := p.rotor = .generating ∧ (s.advice.recs.get t).advice = .none ∧ turb.service = false ∧
       plausible turb.rated p.power = true ∧ (old.state = .thawing ∨ p.temp ≤ st.tempGate)
     let bin := (p.wind + 5) / 10
     let u (r : IceRec) : State := { s with ice := put s.ice t r }
     let skipped := u { r with skipped := min (r.skipped + 1) 4294967295 }
     (¬ fit ∨ bin < 3 ∨ 27 < bin → iceReport s t p = skipped) ∧
     (∀ (c : Fin 4) (b : Fin 25), turb.cls = c.val → bin = b.val + 3 →
       let expected := (s.active.curves.get c).get b
       (expected = 0 → iceReport s t p = skipped) ∧
       (fit → expected ≠ 0 →
         let n := r.blockCount + 1
         let sum := r.blockSum + deficit expected p.power
         let q := { r with blockCount := n, blockSum := sum, qualifying := min (r.qualifying + 1) 4294967295 }
         (n < st.blockSize → iceReport s t p = u q) ∧
         (st.blockSize ≤ n → iceReport s t p =
           iceTransition (u r) t (blockEnd st (sum / n) q).1 (blockEnd st (sum / n) q).2)))) ∧
  (∀ (st : Settings) (mean : Nat) (r : IceRec), 1 ≤ st.confirm →
     let on := st.onDeficit * 10 ≤ mean
     let off := mean ≤ st.offDeficit * 10
     let ev := if on then min (r.evidence + 1) st.confirm else if off then r.evidence - 1 else r.evidence
     let r1 := { r with
       lastMean := some mean, ended := min (r.ended + 1) 4294967295, blockCount := 0, blockSum := 0 }
     let r2 := { r1 with evidence := ev }
     let suspect := (FindingKind.iceSuspect, [vNat mean, vNat ev, vNat st.confirm])
     let confirmed := (FindingKind.iceConfirmed, [vNat 0, vNat mean, vOptInt r.lastAmbient])
     let cleared (cause : Nat) := (FindingKind.iceCleared, [vNat cause, vNat mean])
     let out := blockEnd st mean r
     (r.state = .clear → ev = 0 → out = (r2, [])) ∧
     (r.state = .clear → ev ≠ 0 → ev ≠ st.confirm → out = ({ r2 with state := .suspect }, [suspect])) ∧
     (r.state = .clear → ev ≠ 0 → ev = st.confirm →
       out = ({ r2 with state := .iced, thawTimer := 0, thawDue := false }, [suspect, confirmed])) ∧
     (r.state = .suspect → ev = 0 → out = ({ r2 with state := .clear }, [cleared 0])) ∧
     (r.state = .suspect → ev ≠ 0 → ev ≠ st.confirm → out = (r2, [])) ∧
     (r.state = .suspect → ev = st.confirm →
       out = ({ r2 with state := .iced, thawTimer := 0, thawDue := false }, [confirmed])) ∧
     (r.state = .iced → ev = 0 → out = ({ r2 with state := .clear, thawTimer := 0, thawDue := false }, [cleared 0])) ∧
     (r.state = .iced → ev ≠ 0 → out = (r2, [])) ∧
     (r.state = .thawing → on → out =
       ({ r1 with state := .iced, evidence := st.confirm, thawTimer := 0, thawDue := false, trial := 0 },
        [(.iceReturned, [vNat mean, vNat r.trial])])) ∧
     (r.state = .thawing → ¬ on → st.trialBlocks ≤ r.trial + 1 →
       out = ({ r1 with state := .clear, evidence := 0, trial := 0 }, [cleared 1])) ∧
     (r.state = .thawing → ¬ on → r.trial + 1 < st.trialBlocks → out = ({ r1 with trial := r.trial + 1 }, []))) ∧
  (∀ (s : State) (t : Tid) (r : IceRec) (fs : List (FindingKind × List Word32)),
     let old := (s.ice.get t).state
     let frozen (x : IceState) := x = .iced ∨ x = .thawing
     let w : State := { s with ice := put s.ice t r }
     let told (g : State) := fs.foldl (fun x f => raise x f.1 (some (tnum t)) .none f.2) g
     let hold (x : IceState) := x = .iced ∧ s.active.settings.holdOnIce = true
     ∃ g, ((frozen old ↔ frozen r.state) → g = w) ∧
       (frozen r.state → ¬ frozen old → g = setGate w t .ice true) ∧
       (frozen old → ¬ frozen r.state → g = setGate w t .ice false) ∧
       ((hold old ↔ hold r.state) → iceTransition s t r fs = told g) ∧
       (hold r.state → ¬ hold old → iceTransition s t r fs = withdraw (computeAdvice (told g) t) t) ∧
       (hold old → ¬ hold r.state → iceTransition s t r fs = computeAdvice (told g) t))

/-- BEGIN SERVICE on a turbine in service reloads its limit and clears overrun raised, and tells no receiver; on a turbine
out of service the service mode is ON, the timer holds the limit in ticks, the advice becomes NONE and no curtail request
stands; the ice state is kept (R30), and the icing block is discarded (R118 of section 7.5).
END SERVICE on a turbine out of service changes nothing; on one in service the mode is OFF with the timer stopped and
overrun raised NO, and blanking is requested (R32), which loads it with the blanking time, 0 leaving it stopped (R34 of
section 2.5); the counters, the items and the ice state are kept (R32). It abandons a TEST window, open or closing, of each VIB slot
of the turbine under SERVICE_ENDED, leaving an automatic one, and cancels a pending test under that cause (R32; R85 of section 5.7),
the slots in ascending order by the model's choice (entry 17); then the advice is computed and blanking requested (R32).
A turbine number outside 1 to 24 is refused BAD_PARAMETER 1 by both, a limit above 72 BAD_PARAMETER 2, the turbine first where both are
(entry 59), and BEGIN SERVICE of a turbine not present NOT_PRESENT (R30, R32). -/
def Obligations.ServiceBeginsAndEnds : Prop :=
  (∀ (o : Origin) (s : State) (t : Tid) (limit : Nat), accepts s o → (s.turbines.get t).present = true → limit ≤ 72 →
     ((s.turbines.get t).service = true →
       answersDone (.beginService o (tnum t) limit) s o 35
         { s with turbines := put s.turbines t { s.turbines.get t with
             limitTimer := (if limit = 0 then none else some (limit * 36000)), limitHours := limit, overrun := false } } []) ∧
     ((s.turbines.get t).service = false →
       ∃ u, answersDone (.beginService o (tnum t) limit) s o 35 u [] ∧ (u.turbines.get t).service = true ∧
         (u.turbines.get t).limitTimer = (if limit = 0 then none else some (limit * 36000)) ∧
         (u.turbines.get t).overrun = false ∧ (u.advice.recs.get t).advice = .none ∧ t ∉ u.harm.grid.requests ∧
         (u.ice.get t).state = (s.ice.get t).state ∧ (u.ice.get t).blockCount = 0 ∧ u.streams = s.streams ∧
         u.items = s.items ∧ u.speeds = s.speeds)) ∧
  (∀ (o : Origin) (s : State) (t : Tid), accepts s o →
     ((s.turbines.get t).service = false → answersDone (.endService o (tnum t)) s o 36 s []) ∧
     ((s.turbines.get t).service = true →
       ∃ u, answersDone (.endService o (tnum t)) s o 36 u [] ∧ (u.turbines.get t).service = false ∧
         (u.turbines.get t).limitTimer = none ∧ (u.turbines.get t).overrun = false ∧
         (u.turbines.get t).blanking = loadTimer s.active.settings.blankingTime ∧
         (∀ x, (u.usage.get x).main = (s.usage.get x).main) ∧
         (u.ice.get t).state = (s.ice.get t).state ∧ u.items = s.items ∧ u.streams = s.streams ∧ u.speeds = s.speeds ∧
         (let off : State := { s with turbines := put s.turbines t { s.turbines.get t with
            service := false, limitTimer := none, overrun := false } }
          u = requestBlanking (computeAdvice
            ((vibSlots s t).foldl (fun x i => cancelTest .serviceEnded (abandonTest .serviceEnded x i) i) off) t) t))) ∧
  (∀ (s : State) (i : SlotId) (r : VibRec), s.vib.recs.get i = some r →
     let k := causeIndex .serviceEnded
     let ended (u : State) := raise u .vibTest (slotTurbine s i) (.slot i) []
     (r.window = none → abandonTest .serviceEnded s i = s) ∧
     (∀ w, r.window = some w →
       (w.test = false → abandonTest .serviceEnded s i = s) ∧
       (w.test = true → abandonTest .serviceEnded s i = ended (setVib s i (some { r with
         window := none, abandoned := put r.abandoned k (min (r.abandoned.get k + 1) 4294967295),
         lastTest := some (.abandoned, some .serviceEnded) })))) ∧
     (r.testPending = false → cancelTest .serviceEnded s i = s) ∧
     (r.testPending = true → cancelTest .serviceEnded s i = ended (setVib s i (some { r with
       testPending := false, lastTest := some (.cancelled, some .serviceEnded) })))) ∧
  (∀ (o : Origin) (s : State), accepts s o →
     (∀ k limit, k = 0 ∨ 25 ≤ k → answersRefused (.beginService o k limit) s o 35 .badParameter 1 ∧
       answersRefused (.endService o k) s o 36 .badParameter 1) ∧
     (∀ (t : Tid) limit, 72 < limit → answersRefused (.beginService o (tnum t) limit) s o 35 .badParameter 2) ∧
     (∀ (t : Tid) limit, limit ≤ 72 → (s.turbines.get t).present = false →
       answersRefused (.beginService o (tnum t) limit) s o 35 .notPresent 0))

/-- SERVICE_LIMIT_EXPIRY stops the timer, sets overrun raised and raises SERVICE_OVERRUN with the limit in hours, once per
service period; BLANKING_EXPIRY only stops the blanking timer (R31, R35). -/
def Obligations.TurbineTimersExpire : Prop :=
  ∀ (s : State) (t : Tid), s.standing = .active →
    ((s.turbines.get t).limitTimer = some 0 → (s.turbines.get t).overrun = false →
      exec (.serviceLimitExpiry t) s = .next (settle (raise
        { s with turbines := put s.turbines t { s.turbines.get t with limitTimer := none, overrun := true } }
        .serviceOverrun (some (tnum t)) .none [vNat (s.turbines.get t).limitHours]))) ∧
    ((s.turbines.get t).limitTimer = some 0 → (s.turbines.get t).overrun = true →
      exec (.serviceLimitExpiry t) s = .next (settle
        { s with turbines := put s.turbines t { s.turbines.get t with limitTimer := none } })) ∧
    ((s.turbines.get t).blanking = some 0 →
      exec (.blankingExpiry t) s = .next (settle
        { s with turbines := put s.turbines t { s.turbines.get t with blanking := none } }))

/-- An entry into GENERATING from PARKED, IDLING or UNKNOWN is a start: the starts counter rises by 1, blanking is loaded and
the run gate opens; an entry from FAULTED opens the gate only (R28, R29, R34).
A report stores its power where plausible, counted as implausible and the last power kept where not, its wind and its temperature,
and then sets the operating state; the Icing Watch takes it second by the model's choice (R25, R26; entry 17). ENDED makes the
operating state UNKNOWN with the last values kept, and ends the Icing Watch's live reports and block; GAP changes nothing, LIVE only
that reports are live (R27, R114, R118). A report of the state that stands, and a change between two states other than GENERATING,
act on no other block (R25, R28). A start is counted, begins a window series on the turbine's VIB streams, whose skip is the set's,
and requests blanking, before the gate opens (R29, R83). A change away from GENERATING closes the run gate, abandons the turbine's
automatic windows under NOT_GENERATING, TEST windows excepted, and discards its icing block, counted where it held a report (R28, R74,
R85, R118). A blanking request loads the timer with the blanking time and abandons every window of the turbine under BLANKING (R34,
R85). Of several VIB slots each of these acts in ascending order, by the model's choice (entry 17). -/
def Obligations.StartsAreCounted : Prop :=
  (∀ (s : State) (t : Tid), (s.turbines.get t).oper ≠ .generating →
    ((s.turbines.get t).oper ≠ .faulted → (s.usage.get t).main.starts < 4294967295 →
      ((setOper s t .generating).usage.get t).main.starts = (s.usage.get t).main.starts + 1 ∧
      ((setOper s t .generating).turbines.get t).blanking = loadTimer s.active.settings.blankingTime ∧
      ((setOper s t .generating).usage.get t).run.gate = true) ∧
    ((s.turbines.get t).oper = .faulted →
      ((setOper s t .generating).usage.get t).main = (s.usage.get t).main ∧
      ((setOper s t .generating).turbines.get t).blanking = (s.turbines.get t).blanking ∧
      ((setOper s t .generating).usage.get t).run.gate = true)) ∧
  (∀ (s : State) (t : Tid) (new : OperState),
    let old := (s.turbines.get t).oper
    let u : State := { s with turbines := put s.turbines t { s.turbines.get t with oper := new } }
    let gate (x : State) (isOpen : Bool) : State :=
      { x with usage := put x.usage t { x.usage.get t with run := { (x.usage.get t).run with gate := isOpen } } }
    let counted := advanceMain u t .starts
    let left := (vibSlots (gate u false) t).foldl (abandonAutomatic .notGenerating) (gate u false)
    (new = old → setOper s t new = s) ∧
    (new ≠ old → new ≠ .generating → old ≠ .generating → setOper s t new = u) ∧
    (new = .generating → old = .faulted → setOper s t new = gate u true) ∧
    (new = .generating → old ≠ .faulted → old ≠ .generating →
      setOper s t new = gate (requestBlanking ((vibSlots counted t).foldl newSeries counted) t) true) ∧
    (new ≠ .generating → old = .generating → setOper s t new = discardBlock .notGenerating left t) ∧
    (new ≠ .generating → (setOper s t new).turbines = u.turbines)) ∧
  (∀ (s : State) (t : Tid) (cause : BlockCause),
    let r := s.ice.get t
    let k := blockCauseIndex cause
    discardBlock cause s t = { s with ice := put s.ice t { r with
      blockCount := 0, blockSum := 0,
      discarded := if 0 < r.blockCount then put r.discarded k (min (r.discarded.get k + 1) 4294967295) else r.discarded } }) ∧
  (∀ (s : State) (i : SlotId) (e : StreamEntry) (r : VibRec), entryAt s i = some e → s.vib.recs.get i = some r →
    newSeries s i = { s with vib := { s.vib with recs := put s.vib.recs i (some { r with
      skip := (setOf s e).skip, post := 0 }) } }) ∧
  (∀ (s : State) (t : Tid),
    let x : State := { s with turbines := put s.turbines t { s.turbines.get t with
      blanking := loadTimer s.active.settings.blankingTime } }
    requestBlanking s t = (vibSlots x t).foldl (abandonWindow .blanking) x) ∧
  (∀ (s : State) (t : Tid) (i : SlotId) (e : StreamEntry), e.role = .opstat → e.source = tnum t →
    let r := s.turbines.get t
    let ice (x : State) (b : Bool) : State := { x with ice := put x.ice t { x.ice.get t with reportsLive := b } }
    (∀ (stamp : Nat) (p : Report),
      let stored : TurbineRec := if plausible r.rated p.power = true
        then { r with lastPower := some p.power, lastWind := some p.wind, lastTemp := some p.temp }
        else { r with lastWind := some p.wind, lastTemp := some p.temp, implausible := min (r.implausible + 1) 4294967295 }
      tellData s i e stamp (.report p) =
        iceReport (setOper { s with turbines := put s.turbines t stored } t p.rotor) t p) ∧
    (∀ cause, tellEnded s i e cause = discardBlock .streamEnded (ice (setOper s t .unknown) false) t) ∧
    tellGap s i e = s ∧ tellLive s i e = ice s true)

/-! ## Speed (chapter 3) -/

/-- STOP_EXPIRY: the record enters STOPPED with speed 0, the reference, period, runs and timer cleared, and last counted
edge, last marker and the counts kept; where it was TRACKING, TRACKING LOST is told (R50). At TRACKING LOST the Vibration Watch
abandons the turbine's windows (R51 of section 3.7, R74 of section 5.3), so that none is left on its VIB slots. -/
def Obligations.StopExpiryStops : Prop :=
  ∀ (s : State) (t : Tid), s.standing = .active → (s.speeds.get t).stopTimer = some 0 →
    ∃ u, exec (.stopExpiry t) s = .next (settle u) ∧
      u.speeds.get t = { s.speeds.get t with state := .stopped, speed := some 0, period := none, reference := none, edges := 0,
                                             consecSlips := 0, goodRun := 0, stopTimer := none } ∧
      (∀ x, x ≠ t → u.speeds.get x = s.speeds.get x) ∧ u.turbines = s.turbines ∧ u.streams = s.streams ∧ u.usage = s.usage ∧
      ((s.speeds.get t).state ≠ .tracking → u = { s with speeds := u.speeds }) ∧
      ((s.speeds.get t).state = .tracking → ∀ i, i ∈ vibSlots s t → windowAt u i = none)

/-- A judged revolution with a wrong count in TRACKING is a slip: slips, consecutive slips and lost revolutions rise by 1,
speed and period are kept, and the third slip in a row makes the record UNRELIABLE with SPEED_UNRELIABLE and TRACKING LOST
after SLIP (R48).
In ACQUIRING a correct count stores period and speed and enters TRACKING with BOUNDARY, a wrong one is a slip, and both are lost
revolutions (R44). In UNRELIABLE a correct count adds to the good run, the eighth enters TRACKING with SPEED_REGAINED and
BOUNDARY, and a wrong one clears the run (R49). In TRACKING a correct count is checked for a step, which tells STEP and requests
blanking, and then gives a revolution event to the Vibration Watch and the Usage Counters (R45, R47, R137; the Watch first by the
model's choice, entry 17). In STOPPED and NO_SIGNAL nothing is judged. Period and speed are those of R46. A boundary without a
reference only becomes it (R41).
Two edge times differ by the stamps' difference read as a signed number of ms, times 1,000, plus the offsets' difference (R39). A
record is a marker, a counted edge or ignored by its flag and polarity, the expected count being P, or 2P for BOTH (R38). A marker at
or before the last marker is counted as disorder and changes nothing else; any other becomes the last marker and a boundary (R39,
R41). A counted edge at or before the last one is counted as disorder, one closer than the minimum spacing as a spacing reject, and
nothing else changes; any other becomes the last counted edge, reloads the stop timer, takes a STOPPED record to ACQUIRING, its speed
none (DEDUCED, entry 19), and raises edges since boundary where a reference is held (R39, R40, R50). It shows the marker missing where
it brings that count to twice the expected one with a marker present (R41), and without a marker it is a boundary where no reference
is held or the count is the expected one (R42). A missing marker is a slip and a lost revolution, and the reference becomes none; in
TRACKING it tells SLIP and at the third TRACKING LOST, in UNRELIABLE it clears the good run (R41, R48).
The notices of the TACH stream: LIVE from NO_SIGNAL, and GAP in every other state, take the record to ACQUIRING with the stop timer
loaded, ENDED takes it to NO_SIGNAL, and where it leaves TRACKING so, TRACKING LOST is told; DATA takes its records one after another
(R38, R43). At TRACKING LOST each VIB slot of the turbine loses its window and its pending test under TRACKING_LOST (R51, R74, R85),
in ascending order of the slots by the model's choice (entry 17). -/
def Obligations.RevolutionsAreJudged : Prop :=
  (∀ (s : State) (t : Tid) (b ref : Time) (count expected : Nat), (s.speeds.get t).state = .tracking → count ≠ expected →
     let r := s.speeds.get t
     let r' := (judge s t b ref count expected).speeds.get t
     r'.slips = min (r.slips + 1) 4294967295 ∧ r'.lost = min (r.lost + 1) 4294967295 ∧ r'.consecSlips = r.consecSlips + 1 ∧
     r'.speed = r.speed ∧ r'.period = r.period ∧
     r'.state = (if 3 ≤ r.consecSlips + 1 then .unreliable else .tracking)) ∧
  (∀ (s : State) (t : Tid) (b ref : Time) (count expected : Nat),
     let r := s.speeds.get t
     let v := judge s t b ref count expected
     let one (n : Nat) := min (n + 1) 4294967295
     let good : SpeedRec := { r with period := some (periodOf b ref), speed := some (speedBetween b ref) }
     let u (x : SpeedRec) : State := { s with speeds := put s.speeds t x }
     (r.state = .acquiring → count = expected →
       v = vibBoundary (u { good with consecSlips := 0, state := .tracking, lost := one r.lost }) t b) ∧
     (r.state = .acquiring → count ≠ expected → v = u { r with slips := one r.slips, lost := one r.lost }) ∧
     (r.state = .unreliable → count ≠ expected →
       v = u { r with slips := one r.slips, lost := one r.lost, goodRun := 0 }) ∧
     (r.state = .unreliable → count = expected → r.goodRun + 1 < 8 →
       v = u { good with goodRun := r.goodRun + 1, lost := one r.lost }) ∧
     (r.state = .unreliable → count = expected → 8 ≤ r.goodRun + 1 →
       v = vibBoundary (raise (u { good with goodRun := 0, consecSlips := 0, state := .tracking, lost := one r.lost })
         .speedRegained (some (tnum t)) .none [vNat (speedBetween b ref)]) t b) ∧
     (r.state = .tracking → count = expected →
       let held := r.speed.getD 0
       let step := s.active.settings.tolerance * held < ((speedBetween b ref : Int) - (held : Int)).natAbs * 100
       let told := requestBlanking (vibStep s t) t
       let counted (x : State) := { x with speeds := put x.speeds t { good with consecSlips := 0 } }
       (step → v = countRevolution (vibRevolution (counted told) t b true) t) ∧
       (¬ step → v = countRevolution (vibRevolution (counted s) t b false) t)) ∧
     (r.state = .tracking → count ≠ expected →
       let slipped : SpeedRec := { r with slips := one r.slips, lost := one r.lost, consecSlips := r.consecSlips + 1 }
       let told := vibSlip (u slipped) t
       (r.consecSlips + 1 < 3 → v = told) ∧
       (3 ≤ r.consecSlips + 1 → v = vibTrackingLost (raise
         { told with speeds := put told.speeds t { slipped with state := .unreliable, goodRun := 0 } }
         .speedUnreliable (some (tnum t)) .none [vNat count, vNat expected, vNat slipped.slips]) t)) ∧
     (r.state = .stopped ∨ r.state = .noSignal → v = s)) ∧
  (∀ b ref : Time, 1 ≤ usDiff b ref → usDiff b ref ≤ 4294967295 →
     (periodOf b ref : Int) = usDiff b ref ∧ speedBetween b ref = min (600000000 / (usDiff b ref).toNat) 65535) ∧
  (∀ (s : State) (t : Tid) (b : Time) (expected : Nat),
     let r := s.speeds.get t
     let mark (x : State) : State := { x with speeds := put x.speeds t { x.speeds.get t with reference := some b, edges := 0 } }
     (r.reference = none → boundaryAt s t b expected = mark s) ∧
     (∀ ref, r.reference = some ref → boundaryAt s t b expected = mark (judge s t b ref r.edges expected))) ∧
  (∀ (s : State) (t : Tid) (b : Time),
     vibBoundary s t b = (vibSlots s t).foldl (openingCheck t b) s ∧
     (∀ step, vibRevolution s t b step = (vibSlots s t).foldl (revolutionAt t b step) s) ∧
     (let x := s.usage.get t
      (x.revSub + 1 ≠ 1000 → countRevolution s t = { s with usage := put s.usage t { x with revSub := x.revSub + 1 } }) ∧
      (x.revSub + 1 = 1000 → countRevolution s t = advanceMain { s with usage := put s.usage t { x with revSub := 0 } } t .krev))) ∧
  (∀ a b x y : Nat, a < 4294967296 → b < 4294967296 →
     ∃ d : Int, -2147483648 ≤ d ∧ d ≤ 2147483647 ∧ (d - ((a : Int) - (b : Int))) % 4294967296 = 0 ∧
       timeDiff { stamp := a, sub := x * 16 } { stamp := b, sub := y * 16 } = 16 * (1000 * d + (x : Int) - (y : Int))) ∧
  (∀ (s : State) (t : Tid) (e : StreamEntry) (stamp : Nat) (x : EdgeRec),
     let expected := if e.edges = .both then 2 * e.pulses else e.pulses
     let at_ : Time := { stamp := stamp, sub := x.offset * 16 }
     let counts := e.edges = .both ∨ (e.edges = .rising ∧ x.polarity = .rising) ∨ (e.edges = .falling ∧ x.polarity = .falling)
     let c := takeEdge t e stamp s x
     (x.marker = true → e.markerPresent = true → x.polarity = e.markerPolarity → c = takeMarker s t at_ expected) ∧
     (x.marker = true → e.markerPresent = false ∨ x.polarity ≠ e.markerPolarity → c = s) ∧
     (x.marker = false → counts → c = takeCounted s t e at_) ∧
     (x.marker = false → ¬ counts → c = s)) ∧
  (∀ (s : State) (t : Tid) (b : Time) (expected : Nat),
     let r := s.speeds.get t
     let u (x : SpeedRec) : State := { s with speeds := put s.speeds t x }
     (∀ l, r.lastMarker = some l → timeDiff b l ≤ 0 →
       takeMarker s t b expected = u { r with disorderRejects := min (r.disorderRejects + 1) 4294967295 }) ∧
     ((∀ l, r.lastMarker = some l → 0 < timeDiff b l) →
       takeMarker s t b expected = boundaryAt (u { r with lastMarker := some b }) t b expected)) ∧
  (∀ (s : State) (t : Tid) (e : StreamEntry) (b : Time),
     let r := s.speeds.get t
     let u (x : SpeedRec) : State := { s with speeds := put s.speeds t x }
     let expected := if e.edges = .both then 2 * e.pulses else e.pulses
     let c := takeCounted s t e b
     let n := if r.reference = none then r.edges else r.edges + 1
     let taken : SpeedRec := { r with
       state := if r.state = .stopped then .acquiring else r.state, speed := if r.state = .stopped then none else r.speed,
       lastCounted := some b, stopTimer := loadTimer s.active.settings.stopTime, edges := n }
     (∀ l, r.lastCounted = some l → timeDiff b l ≤ 0 →
       c = u { r with disorderRejects := min (r.disorderRejects + 1) 4294967295 }) ∧
     (∀ l, r.lastCounted = some l → 0 < timeDiff b l → timeDiff b l < (e.spacing : Int) * 16 →
       c = u { r with spacingRejects := min (r.spacingRejects + 1) 4294967295 }) ∧
     ((∀ l, r.lastCounted = some l → 0 < timeDiff b l ∧ (e.spacing : Int) * 16 ≤ timeDiff b l) →
       (e.markerPresent = true → r.reference ≠ none → n = 2 * expected → c = missingMarker (u taken) t n expected) ∧
       (e.markerPresent = true → r.reference = none ∨ n ≠ 2 * expected → c = u taken) ∧
       (e.markerPresent = false → r.reference = none ∨ n = expected → c = boundaryAt (u taken) t b expected) ∧
       (e.markerPresent = false → r.reference ≠ none → n ≠ expected → c = u taken))) ∧
  (∀ (s : State) (t : Tid) (count expected : Nat),
     let r := s.speeds.get t
     let u (x : SpeedRec) : State := { s with speeds := put s.speeds t x }
     let one (n : Nat) := min (n + 1) 4294967295
     let missed : SpeedRec := { r with slips := one r.slips, lost := one r.lost, reference := none, edges := 0 }
     let slipped : SpeedRec := { missed with consecSlips := r.consecSlips + 1 }
     let told := vibSlip (u slipped) t
     let c := missingMarker s t count expected
     (r.state = .acquiring → c = u missed) ∧ (r.state = .unreliable → c = u { missed with goodRun := 0 }) ∧
     (r.state = .tracking → r.consecSlips + 1 < 3 → c = told) ∧
     (r.state = .tracking → 3 ≤ r.consecSlips + 1 → c = vibTrackingLost (raise
       { told with speeds := put told.speeds t { slipped with state := .unreliable, goodRun := 0 } }
       .speedUnreliable (some (tnum t)) .none [vNat count, vNat expected, vNat slipped.slips]) t)) ∧
  (∀ (s : State) (t : Tid) (i : SlotId) (e : StreamEntry), e.role = .tach → e.source = tnum t →
     let r := s.speeds.get t
     let u (x : SpeedRec) : State := { s with speeds := put s.speeds t x }
     let fresh : SpeedRec := { r with
       state := .acquiring, reference := none, edges := 0, speed := none, period := none, consecSlips := 0, goodRun := 0,
       stopTimer := loadTimer s.active.settings.stopTime }
     let gone : SpeedRec := { r with
       state := .noSignal, reference := none, lastCounted := none, lastMarker := none, speed := none, period := none, edges := 0,
       consecSlips := 0, goodRun := 0, stopTimer := none }
     let told (x : SpeedRec) := if r.state = .tracking then vibTrackingLost (u x) t else u x
     (r.state = .noSignal → tellLive s i e = u fresh ∧ tellGap s i e = s) ∧ (r.state ≠ .noSignal → tellGap s i e = told fresh) ∧
     (∀ cause, tellEnded s i e cause = told gone) ∧
     (∀ stamp xs, tellData s i e stamp (.edges xs) = xs.foldl (takeEdge t e stamp) s)) ∧
  (∀ (s : State) (t : Tid) (i : SlotId) (r : VibRec) (cause : AbandonCause),
     vibTrackingLost s t =
       (vibSlots s t).foldl (fun u i => cancelTest .trackingLost (abandonWindow .trackingLost u i) i) s ∧
     (s.vib.recs.get i = some r →
       (r.testPending = false → cancelTest cause s i = s) ∧
       (r.testPending = true → cancelTest cause s i =
         raise (setVib s i (some { r with testPending := false, lastTest := some (.cancelled, some cause) }))
           .vibTest (slotTurbine s i) (.slot i) [])))

/-! ## Analysis and vibration (chapters 4 and 5) -/

/-- ANALYSIS_COMPLETE of a vibration record that fails the check of its slot, instance and generation: the result is discarded,
the stale-at-delivery count rises by 1, nothing is graded, and the engine, IDLE, looks for its next record (R58, R62, R75). Of
one that passes and is no test: the stream's windows-graded count rises by 1, its last mean speed is the record's, each band
is judged at its level, and the stream, turbine and linked grades are the worst of their parts (R62, R76, R80, R81). Of a
test: the outcome COMPLETED, VIB_TEST with the levels, and only the beyond-range flags change (R85).
Of a harmonic record that fails it: discarded and counted, and the grid record stays (R62, R94). Of one that passes: the
result is stored with its verdict, worst order and ratios, THD ratios and feeder fundamentals, h is set from it, the counts and the
runs rise, the Contributor List is the result's, and the grid state moves through NORMAL, EXCEEDING and CONDITION with the first
request, the escalations and the release (R97 to R104), and then the summary counts (R98, R108).
An order exceeds on a feeder stream where its magnitude times 10,000 is above the limit times the fundamental, THD likewise, and the
window is an exceeding one where any does; an absent order, a limit of 0 and a fundamental of 0 give no ratio (R61, R97). A ratio is
in thousandths, rounded down and held at 65,535; an order's and either THD's is the highest over the streams; the worst order has
the highest, the lower order where two are equal (R97). The Contributor List holds each present turbine whose CONV_I stream has the
worst order, with its current to the nearest 0.01 A, largest first, then by turbine number, and is empty without a worst order (R99).
A fundamental is in the stream's unit to the nearest whole, none for a feeder stream not in the result by the model's choice (R98;
entry 49). h is 2 per cent of √2 times the reference's fundamental, rounded down (R90). The summary counts up to the postscale, and
lists up to six orders above one half of their limit, highest ratio first, then the lower order (R108).
The model's choices here: how the magnitudes are computed and rounded (entries 12 and 13), the worst order by the ratios kept
in thousandths (entry 31), and the onset as the opening's time rounded down to the ms (entry 47). Where the active set has
another number of bands than the record, that the first band states are kept and further ones stand fresh is the model's
reading (entry 39).
The engine that looks for a record takes the oldest harmonic one unless three were taken running and a vibration record waits,
and leaves the rest waiting (R56, R57). One that fails the start check is discarded, its class's stale-at-start count rises by
1, its watch is told, and the engine chooses again (R58, R75, R94); that a discarded record of another instance is counted for
no stream and a discarded test has no cause is the model's (entries 23, 45), and so is that a stream struck here raises the
engine's omitted count alone (R58, R63; entry 44). -/
def Obligations.ResultsAreDeliveredOrDiscarded : Prop :=
  (∀ (s : State) (r : VibRecord),
     (vibIdentity s r = true ↔ (s.streams.slots.get r.slot).state ≠ .empty ∧ (s.streams.slots.get r.slot).inst = r.inst ∧
       r.gen = s.active.bandGen)) ∧
  (∀ (s : State) (r : VibRecord), s.standing = .active → s.engine.analysing = some (.vib r) → vibIdentity s r = false →
     ∃ u, exec .analysisComplete s = .next (settle (engineLook u)) ∧
       u.engine = { s.engine with
         analysing := none,
         vibCounts := { s.engine.vibCounts with
           staleAtDelivery := min (s.engine.vibCounts.staleAtDelivery + 1) 4294967295 } } ∧
       u.vib.grades = s.vib.grades ∧ u.vib.linked = s.vib.linked ∧ u.items = s.items ∧ u.streams = s.streams ∧
       u.harm = s.harm ∧ (r.test = false → u.findings = s.findings)) ∧
  (∀ (s : State) (r : VibRecord) (v : VibRec) (e : StreamEntry), s.standing = .active →
     s.engine.analysing = some (.vib r) → vibIdentity s r = true → r.test = false → s.vib.recs.get r.slot = some v →
     entryAt s r.slot = some e →
     let set := setOf s e
     let judged := fun (k : Nat) (b : Band) => (judgeBand set (s.ice.get r.turbine).state r.meanSpeed (rateHz r.rate) b
       (reportedLevel r e.scale b) (v.bands.getD k .fresh)).1
     ∃ u v', exec .analysisComplete s = .next (settle (engineLook u)) ∧ u.engine = { s.engine with analysing := none } ∧
       u.vib.recs.get r.slot = some v' ∧ v'.graded = min (v.graded + 1) 4294967295 ∧ v'.meanSpeed = some r.meanSpeed ∧
       v'.window = v.window ∧ u.streams = s.streams ∧ u.speeds = s.speeds ∧ u.harm = s.harm ∧
       (∀ i, i ≠ r.slot → u.vib.recs.get i = s.vib.recs.get i) ∧
       v'.bands.length = set.bands.length ∧ (∀ k b, set.bands[k]? = some b → v'.bands[k]? = some (judged k b)) ∧
       v'.grade = worstGrade (v'.bands.map (fun x => x.grade)) ∧
       (∀ t, u.vib.grades.get t =
         if t = r.turbine then worstGrade ((vibSlots u t).map (streamGrade u)) else s.vib.grades.get t) ∧
       (∀ t b, (u.vib.linked.get t).get b =
         if t = r.turbine then worstGrade ((slotsNaming u (vibSlots u t) b).map (streamGrade u))
         else (s.vib.linked.get t).get b)) ∧
  (∀ (s : State) (r : HarmRecord), s.standing = .active → s.engine.analysing = some (.harm r) → harmIdentity s r = false →
     exec .analysisComplete s = .next (settle (engineLook { s with
       engine := { s.engine with
         analysing := none,
         harmCounts := { s.engine.harmCounts with
           staleAtDelivery := min (s.engine.harmCounts.staleAtDelivery + 1) 4294967295 } },
       harm := { s.harm with discarded := min (s.harm.discarded + 1) 4294967295 } }))) ∧
  (∀ (s : State) (r : HarmRecord), s.standing = .active → s.engine.analysing = some (.harm r) → harmIdentity s r = true →
     let ms := primaryMags s r :: (keptSecondaries s r).map (secondaryMags s r)
     let v := verdictOf s.active.limits ms
     let worst := worstOrder (windowRatios s.active.limits ms)
     let places := contributorsOf s ms (worst.map (fun p => p.1))
     let chosen := (places.find? (fun p => candidate s p.turbine)).map (fun p => p.turbine)
     let g := s.harm.grid
     let st := s.active.settings
     ∃ u, exec .analysisComplete s = .next (settle (engineLook u)) ∧
       u.engine = { s.engine with
         analysing := none,
         omitted := min (s.engine.omitted + (r.secondaries.length - (keptSecondaries s r).length)) 4294967295 } ∧
       u.streams = s.streams ∧ u.speeds = s.speeds ∧ u.items = s.items ∧ u.active = s.active ∧
       u.harm.contributors = places ∧ u.harm.analysed = min (s.harm.analysed + 1) 4294967295 ∧
       u.harm.exceedings = (if v = .exceeding then min (s.harm.exceedings + 1) 4294967295 else s.harm.exceedings) ∧
       u.harm.former = s.harm.former ∧ u.harm.grid.verdict = some v ∧ u.harm.grid.worst = worst.map (fun p => p.1) ∧
       u.harm.grid.worstRatio = worst.map (fun p => p.2.ratio) ∧ u.harm.grid.meanFund = some r.meanFund ∧
       u.harm.grid.thdV = (thdOf s.active.limits ms .gridV).map (fun c => c.ratio) ∧
       u.harm.grid.thdI = (thdOf s.active.limits ms .gridI).map (fun c => c.ratio) ∧
       u.harm.grid.fundamentals = feederFundamentals ms ∧
       u.harm.detector = { s.harm.detector with h := hysteresisOf (primaryMags s r) } ∧
       (∃ x, u = gridSummaryStep x (windowRatios s.active.limits ms) ∧ x.active = s.active ∧ x.harm.summary = s.harm.summary) ∧
       (v = .exceeding →
         u.harm.grid.exceedRun = min (g.exceedRun + 1) 255 ∧ u.harm.grid.cleanRun = 0 ∧
         u.harm.grid.onset = (if g.state = .normal then some (msOf r.opening) else g.onset) ∧
         (g.state ≠ .condition → u.harm.grid.exceedRun < st.gridPersist →
           u.harm.grid.state = .exceeding ∧ u.harm.grid.requests = g.requests) ∧
         (g.state ≠ .condition → st.gridPersist ≤ u.harm.grid.exceedRun →
           u.harm.grid.state = .condition ∧ u.harm.grid.escalation = 0 ∧ u.harm.grid.armed = false ∧
           u.harm.grid.requests = g.requests ++ chosen.toList) ∧
         (g.state = .condition → u.harm.grid.state = .condition ∧
           (min (g.escalation + 1) 255 < st.escalation →
             u.harm.grid.escalation = min (g.escalation + 1) 255 ∧ u.harm.grid.requests = g.requests) ∧
           (st.escalation ≤ min (g.escalation + 1) 255 → u.harm.grid.escalation = 0 ∧
             u.harm.grid.requests = (if g.requests.length < st.cmax then g.requests ++ chosen.toList else g.requests)))) ∧
       (v = .clean →
         u.harm.grid.cleanRun = min (g.cleanRun + 1) 255 ∧ u.harm.grid.exceedRun = 0 ∧
         (g.state ≠ .condition → u.harm.grid.state = .normal ∧ u.harm.grid.requests = g.requests) ∧
         (g.state = .exceeding → u.harm.grid.onset = none) ∧
         (g.state = .condition → g.armed = true ∨ (st.response = .following ∧ st.release ≤ u.harm.grid.cleanRun) →
           u.harm.grid.state = .normal ∧ u.harm.grid.onset = none ∧ u.harm.grid.requests = [] ∧ u.harm.grid.armed = false) ∧
         (g.state = .condition → g.armed = false → (st.response = .latched ∨ u.harm.grid.cleanRun < st.release) →
           u.harm.grid.state = .condition ∧ u.harm.grid.onset = g.onset ∧ u.harm.grid.requests = g.requests))) ∧
  (∀ s : State, s.engine.analysing = none →
     (s.engine.harmQueue = [] → s.engine.vibQueue = [] → engineLook s = s) ∧
     (∀ h hs, s.engine.harmQueue = h :: hs → s.engine.vibQueue = [] ∨ s.engine.harmRun < 3 → harmIdentity s h = true →
       engineLook s = { s with engine := { s.engine with
         harmQueue := hs,
         analysing := some (.harm { h with secondaries := keptSecondaries s h }), harmRun := min (s.engine.harmRun + 1) 3,
         harmCounts := { s.engine.harmCounts with analysed := min (s.engine.harmCounts.analysed + 1) 4294967295 },
         omitted := min (s.engine.omitted + (h.secondaries.length - (keptSecondaries s h).length)) 4294967295 } }) ∧
     (∀ v vs, s.engine.vibQueue = v :: vs → s.engine.harmQueue = [] ∨ 3 ≤ s.engine.harmRun → vibIdentity s v = true →
       engineLook s = { s with engine := { s.engine with
         vibQueue := vs, analysing := some (.vib v), harmRun := 0,
         vibCounts := { s.engine.vibCounts with analysed := min (s.engine.vibCounts.analysed + 1) 4294967295 } } })) ∧
  (∀ s : State, s.engine.analysing = none → s.engine.vibQueue.length ≤ 8 → s.engine.harmQueue.length ≤ 4 →
     (∀ h hs, s.engine.harmQueue = h :: hs → s.engine.vibQueue = [] ∨ s.engine.harmRun < 3 → harmIdentity s h = false →
       engineLook s = engineLook { s with
         engine := { s.engine with
           harmQueue := hs,
           harmCounts := { s.engine.harmCounts with
             staleAtStart := min (s.engine.harmCounts.staleAtStart + 1) 4294967295 } },
         harm := { s.harm with discarded := min (s.harm.discarded + 1) 4294967295 } }) ∧
     (∀ v vs, s.engine.vibQueue = v :: vs → s.engine.harmQueue = [] ∨ 3 ≤ s.engine.harmRun → vibIdentity s v = false →
       let left : State := { s with engine := { s.engine with
         vibQueue := vs,
         vibCounts := { s.engine.vibCounts with
           staleAtStart := min (s.engine.vibCounts.staleAtStart + 1) 4294967295 } } }
       let told : State :=
         if (s.streams.slots.get v.slot).inst = v.inst then
           updVib left v.slot (fun x => { x with
             discarded := min (x.discarded + 1) 4294967295,
             lastTest := if v.test then some (.discarded, none) else x.lastTest })
         else left
       engineLook s = engineLook
         (if v.test then raise told .vibTest (some (tnum v.turbine)) (.slot v.slot) [] else told))) ∧
  (∀ gs : List Grade, (∀ g ∈ gs, gradeCode g ≤ gradeCode (worstGrade gs)) ∧ (worstGrade gs = .unknown ∨ worstGrade gs ∈ gs)) ∧
  (∀ (s : State) (r : VibRecord) (v : VibRec) (e : StreamEntry), s.standing = .active →
     s.engine.analysing = some (.vib r) → vibIdentity s r = true → r.test = true → s.vib.recs.get r.slot = some v →
     entryAt s r.slot = some e →
     let set := setOf s e
     let flagged : VibRec := { v with
       lastTest := some (.completed, none),
       bands := (set.bands.zip (fitBands set.bands.length v.bands)).map (fun p =>
         { p.2 with beyond := beyondRange p.1 r.meanSpeed (rateHz r.rate) }) }
     exec .analysisComplete s = .next (settle (engineLook (raise
       { s with engine := { s.engine with analysing := none }, vib := { s.vib with recs := put s.vib.recs r.slot (some flagged) } }
       .vibTest (sourceTurbine e.source) (.slot r.slot) (set.bands.map (fun b => vNat (reportedLevel r e.scale b))))))) ∧
  (∀ n f L : Nat, 0 < f → 0 < L →
     let q := ratioOf n f L
     q ≤ 65535 ∧ (q * L) * (q * L) * f ≤ n * 100000000000000 ∧
       (q < 65535 → n * 100000000000000 < ((q + 1) * L) * ((q + 1) * L) * f)) ∧
  (∀ (l : Limits) (ms : List StreamMags),
     let fund (m : StreamMags) := (m.nums.getD 0 none).getD 0
     let limit (m : StreamMags) (p : LimitPair) := if m.role = .gridV then p.voltage else p.current
     let feeder (m : StreamMags) := m.role = .gridV ∨ m.role = .gridI
     let total (m : StreamMags) := ((m.nums.drop 1).map (fun n => n.getD 0)).sum
     let given (m : StreamMags) (k : Fin 39) (n : Nat) :=
       m ∈ ms ∧ feeder m ∧ m.nums[k.val + 1]? = some (some n) ∧ 0 < limit m (l.orders.get k) ∧ 0 < fund m
     let givenThd (m : StreamMags) := m ∈ ms ∧ 0 < limit m l.thd ∧ 0 < fund m
     let above (n f L : Nat) := L * L * f < n * 100000000
     (verdictOf l ms = .exceeding ↔ (∃ m k n, given m k n ∧ above n (fund m) (limit m (l.orders.get k))) ∨
       ∃ m, givenThd m ∧ feeder m ∧ above (total m) (fund m) (limit m l.thd)) ∧
     ((windowRatios l ms).map (fun p => p.1)).Pairwise (· < ·) ∧
     (∀ h, (∃ c, (h, c) ∈ windowRatios l ms) ↔ ∃ m k n, given m k n ∧ h = k.val + 2) ∧
     (∀ (k : Fin 39) c, (k.val + 2, c) ∈ windowRatios l ms →
       (∃ m n, given m k n ∧ c.ratio = ratioOf n (fund m) (limit m (l.orders.get k))) ∧
       (∀ m n, given m k n → ratioOf n (fund m) (limit m (l.orders.get k)) ≤ c.ratio) ∧
       (c.half = true ↔ ∃ m n, given m k n ∧
         limit m (l.orders.get k) * limit m (l.orders.get k) * fund m < 4 * (n * 100000000))) ∧
     (∀ role, role = Role.gridV ∨ role = Role.gridI →
       (thdOf l ms role = none ↔ ∀ m, givenThd m → m.role ≠ role) ∧
       (∀ c, thdOf l ms role = some c →
         (∃ m, givenThd m ∧ m.role = role ∧ c.ratio = ratioOf (total m) (fund m) (limit m l.thd)) ∧
         (∀ m, givenThd m → m.role = role → ratioOf (total m) (fund m) (limit m l.thd) ≤ c.ratio)))) ∧
  (∀ rs : List (Nat × Compared), (rs.map (fun p => p.1)).Pairwise (· < ·) →
     (worstOrder rs = none ↔ rs = []) ∧
     (∀ p, worstOrder rs = some p → p ∈ rs ∧
       ∀ q ∈ rs, q.2.ratio < p.2.ratio ∨ (q.2.ratio = p.2.ratio ∧ p.1 ≤ q.1))) ∧
  (∀ (s : State) (ms : List StreamMags) (h : Nat),
     let place (m : StreamMags) : Option Place :=
       match m.turbine, m.nums.getD (h - 1) none with
       | some t, some n =>
         if m.role = .convI ∧ (s.turbines.get t).present = true then some { turbine := t, current := scaledMag m n } else none
       | _, _ => none
     (contributorsOf s ms (some h)).Perm (ms.filterMap place) ∧
     (contributorsOf s ms (some h)).Pairwise (fun p q =>
       q.current < p.current ∨ (q.current = p.current ∧ p.turbine ≤ q.turbine)) ∧
     contributorsOf s ms none = []) ∧
  (∀ (m : StreamMags) (n : Nat), 0 < m.den →
     let a := scaledMag m n
     4 * (n * 4 ^ m.scale) < (2 * a + 1) ^ 2 * m.den ∧ (a ≠ 0 → (2 * a - 1) ^ 2 * m.den ≤ 4 * (n * 4 ^ m.scale))) ∧
  (∀ m : StreamMags, 0 < m.den →
     let h := hysteresisOf m
     h * h * (10000 * m.den) ≤ 8 * (m.nums.getD 0 none).getD 0 ∧ 8 * (m.nums.getD 0 none).getD 0 < (h + 1) * (h + 1) * (10000 * m.den)) ∧
  (∀ ms : List StreamMags,
     let feeder (m : StreamMags) := m.role = .gridV ∨ m.role = .gridI
     let place (m : StreamMags) := (if m.role = .gridI then 3 else 0) + phaseCode m.phase
     (∀ m ∈ ms, feeder m → (∀ x ∈ ms, feeder x → place x = place m → x = m) →
       ∀ k : Fin 6, k.val = place m → (feederFundamentals ms).get k = (m.nums.getD 0 none).map (scaledMag m)) ∧
     (∀ k : Fin 6, (∀ m ∈ ms, feeder m → place m ≠ k.val) → (feederFundamentals ms).get k = none)) ∧
  (∀ (s : State) (r : HarmRecord) (x : SecStream) (h : Nat), 1 ≤ h → h ≤ 40 →
     ((primaryMags s r).nums.getD (h - 1) none = none ↔ 45000 * rateHz r.rate ≤ h * r.meanFund * 100) ∧
     ((secondaryMags s r x).nums.getD (h - 1) none = none ↔ 45000 * rateHz x.rate ≤ h * r.meanFund * 100) ∧
     (primaryMags s r).role = .gridV ∧ (secondaryMags s r x).role = x.role ∧ (secondaryMags s r x).phase = x.phase ∧
     (secondaryMags s r x).turbine = x.turbine) ∧
  (∀ (s : State) (rs : List (Nat × Compared)),
     let n := s.active.settings.gridPostscale
     let counted (k : Nat) : State := { s with harm := { s.harm with summary := k } }
     (n = 0 → gridSummaryStep s rs = s) ∧
     (n ≠ 0 → s.harm.summary + 1 < n → gridSummaryStep s rs = counted (s.harm.summary + 1)) ∧
     (n ≠ 0 → n ≤ s.harm.summary + 1 → ∃ ps : List (Nat × Compared), ps.Perm (rs.filter (fun p => p.2.half)) ∧
       ps.Pairwise (fun p q => q.2.ratio < p.2.ratio ∨ (q.2.ratio = p.2.ratio ∧ p.1 ≤ q.1)) ∧
       gridSummaryStep s rs = raise (counted 0) .gridSummary (some 0) .none
         ((ps.take 6).map (fun p => [vNat p.1, vNat p.2.ratio])).flatten))

/-- Grading one band: its two runs count the windows above its alert and alarm levels, up to 15, and a band without a grade is GOOD
first; GOOD rises to ALERT and ALERT to ALARM when the run reaches the persistence, both in one window where both do; in a
window without a rise, a level below seven eighths of the grade's lower level adds to the fall run, which at the persistence
takes the grade down one step, and any other level clears that run (R78, R79).
So a grade moves down by at most one step and never in a window in which it rose, and a band at or below its alert level never
rises (R78, R79).
A frozen or beyond-range band keeps its grade and its three runs and raises no finding (R77, R80).
A band beyond range has level 0; otherwise its level is the nearest whole root of the sum of the lines from its lower to its
upper edge, times 4 to the scale code (R76, R77; how a line is computed and that the root is rounded to the nearest is the
model's choice, entries 12 and 13, and so is that the span which places the lines is taken in whole µs between the two
boundaries, where R52 and R60 give it in ms: entry 40).
A graded band raises VIB_GRADE at each change of its grade, but for UNKNOWN to GOOD, two rises in one window raising two by the model's
choice (entry 17), and then VIB_LEVEL where the set's report mode is LEVEL and the band holds ALERT or ALARM (R82). A window of a
stream is graded so at its delivery, the findings of its bands in band order before the grades are formed (entry 17), bands beyond
those the record has standing fresh (entry 39); then its series counts, where the postscale N is not 0: skip remaining falls by 1
where it is above 0, else the postscale count rises by 1, and at N it is 0 and VIB_SUMMARY is raised with the latest levels in band
order, 0 for a band beyond range (R81, R83). -/
def Obligations.BandGradesMoveByTheRules : Prop :=
  (∀ (p : Nat) (b : Band) (l : Nat) (x : BandState), 1 ≤ p →
     let y := gradeBand p b l x
     let base := if x.grade = .unknown then Grade.good else x.grade
     y.exceed = (if b.alert < l then min (x.exceed + 1) 15 else 0) ∧ y.alarm = (if b.alarm < l then min (x.alarm + 1) 15 else 0) ∧
     (base = .good → y.grade = (if p ≤ y.exceed then (if p ≤ y.alarm then .alarm else .alert) else .good)) ∧
     (base = .alert → p ≤ y.alarm → y.grade = .alarm ∧ y.fall = 0) ∧
     (base = .alert → y.alarm < p →
       (7 * b.alert ≤ 8 * l → y.grade = .alert ∧ y.fall = 0) ∧
       (8 * l < 7 * b.alert → x.fall + 1 < p → y.grade = .alert ∧ y.fall = x.fall + 1) ∧
       (8 * l < 7 * b.alert → p ≤ x.fall + 1 → y.grade = .good ∧ y.fall = 0)) ∧
     (base = .alarm →
       (7 * b.alarm ≤ 8 * l → y.grade = .alarm ∧ y.fall = 0) ∧
       (8 * l < 7 * b.alarm → x.fall + 1 < p → y.grade = .alarm ∧ y.fall = x.fall + 1) ∧
       (8 * l < 7 * b.alarm → p ≤ x.fall + 1 → y.grade = .alert ∧ y.fall = 0)) ∧
     gradeCode y.grade + 1 ≥ gradeCode x.grade ∧
     (l ≤ b.alert → b.alert < b.alarm → x.grade ≠ .unknown → gradeCode y.grade ≤ gradeCode x.grade) ∧
     y.grade ≠ .unknown) ∧
  (∀ (set : BandSet) (ice : IceState) (meanSpeed hz l : Nat) (b : Band) (x : BandState),
     (b.iceSensitive = true ∧ (ice = .iced ∨ ice = .thawing)) ∨ beyondRange b meanSpeed hz = true →
     (judgeBand set ice meanSpeed hz b l x).2 = [] ∧ (judgeBand set ice meanSpeed hz b l x).1.grade = x.grade ∧
     (judgeBand set ice meanSpeed hz b l x).1.exceed = x.exceed ∧ (judgeBand set ice meanSpeed hz b l x).1.alarm = x.alarm ∧
     (judgeBand set ice meanSpeed hz b l x).1.fall = x.fall) ∧
  (∀ (r : VibRecord) (scale : Nat) (b : Band),
     let us := spanUs r.opening r.closing
     let hz := rateHz r.rate
     let lines := bandLines b r.meanSpeed hz us
     let total := (lines.map (lineNum r)).sum * 4 ^ scale
     let den := powerDen r.samples.length
     let l := reportedLevel r scale b
     (beyondRange b r.meanSpeed hz = true ↔
       (b.kind = .fixed ∧ hz ≤ 2 * b.upper) ∨ (b.kind = .order ∧ 6000 * hz ≤ 2 * b.upper * r.meanSpeed)) ∧
     (beyondRange b r.meanSpeed hz = true → l = 0) ∧
     (beyondRange b r.meanSpeed hz = false → 0 < us → r.samples ≠ [] →
       4 * total < (2 * l + 1) ^ 2 * den ∧ (l ≠ 0 → (2 * l - 1) ^ 2 * den ≤ 4 * total)) ∧
     (∀ k, k ∈ lines ↔ 1 ≤ k ∧ 2 * (k * 1000000) < hz * us ∧
       (b.kind = .fixed → b.lower * us ≤ k * 1000000 ∧ k * 1000000 ≤ b.upper * us) ∧
       (b.kind = .order → b.lower * r.meanSpeed * us ≤ k * 6000000000 ∧ k * 6000000000 ≤ b.upper * r.meanSpeed * us))) ∧
  (∀ (set : BandSet) (ice : IceState) (meanSpeed hz l : Nat) (b : Band) (x : BandState),
     ¬ (b.iceSensitive = true ∧ (ice = .iced ∨ ice = .thawing)) → beyondRange b meanSpeed hz = false →
     let y := gradeBand set.persistence b l x
     let base := if x.grade = .unknown then Grade.good else x.grade
     let change (g h : Grade) : BandFinding :=
       (.vibGrade, [vNat (gradeCode g), vNat (gradeCode h), vNat l, vNat b.alert, vNat b.alarm, vNat meanSpeed])
     let changes := if y.grade = base then []
       else if base = .good ∧ y.grade = .alarm then [change .good .alert, change .alert .alarm]
       else [change base y.grade]
     let level : List BandFinding := if set.report = .level ∧ (y.grade = .alert ∨ y.grade = .alarm)
       then [(.vibLevel, [vNat (gradeCode y.grade), vNat l, vNat b.alert, vNat b.alarm])] else []
     judgeBand set ice meanSpeed hz b l x = ({ y with latest := some l, beyond := false }, changes ++ level)) ∧
  (∀ (s : State) (r : VibRecord) (v : VibRec) (e : StreamEntry), s.standing = .active →
     s.engine.analysing = some (.vib r) → vibIdentity s r = true → r.test = false → s.vib.recs.get r.slot = some v →
     entryAt s r.slot = some e →
     let set := setOf s e
     let judged := set.bands.zipIdx.map (fun p => judgeBand set (s.ice.get r.turbine).state r.meanSpeed (rateHz r.rate) p.1
       (reportedLevel r e.scale p.1) (v.bands.getD p.2 .fresh))
     let told := (judged.zipIdx.map (fun p => p.1.2.map (fun f => (p.2 + 1, f)))).flatten
     let graded : State := { s with vib := { s.vib with recs := put s.vib.recs r.slot (some { v with
       graded := min (v.graded + 1) 4294967295, meanSpeed := some r.meanSpeed, bands := judged.map (fun j => j.1),
       grade := worstGrade (judged.map (fun j => j.1.grade)) }) } }
     let raised := told.foldl (fun u p => raise u p.2.1 (sourceTurbine e.source) (.slotBand r.slot p.1) p.2.2) graded
     exec .analysisComplete s = .next (settle (engineIdle (summaryStep (formGrades raised r.turbine) r.slot set)))) ∧
  (∀ s : State, engineIdle s = engineLook { s with engine := { s.engine with analysing := none } }) ∧
  (∀ (s : State) (i : SlotId) (set : BandSet) (r : VibRec), s.vib.recs.get i = some r →
     let u (skip post : Nat) := setVib s i (some { r with skip := skip, post := post })
     (set.postscale = 0 → summaryStep s i set = s) ∧
     (set.postscale ≠ 0 → 0 < r.skip → summaryStep s i set = u (r.skip - 1) r.post) ∧
     (set.postscale ≠ 0 → r.skip = 0 → r.post + 1 < set.postscale → summaryStep s i set = u 0 (r.post + 1)) ∧
     (set.postscale ≠ 0 → r.skip = 0 → set.postscale ≤ r.post + 1 →
       summaryStep s i set = raise (u 0 0) .vibSummary (slotTurbine s i) (.slot i)
         (r.bands.map (fun x => vNat (x.latest.getD 0))))) ∧
  (∀ (set : BandSet) (ice : IceState) (meanSpeed hz l : Nat) (b : Band) (x : BandState),
     (beyondRange b meanSpeed hz = true → (judgeBand set ice meanSpeed hz b l x).1.latest = some 0) ∧
     (beyondRange b meanSpeed hz = false → (judgeBand set ice meanSpeed hz b l x).1.latest = some l))

/-- TRIGGER WINDOW on a LIVE VIB slot of a present turbine in service that is TRACKING, with no test waiting, sets the test request
PENDING and changes nothing else; the refusals come in the order of R84's table, a slot without a VIB entry of the turbine being
refused like one that is not LIVE (R84; the turbine first where both numbers are out of range: entry 59).
The opening check: a LIVE stream without a window whose set is loaded, and whose slot no commit holds, opens a TEST window for a
pending request, else an automatic one where the turbine is present, GENERATING, out of service and not blanked; it takes the
samples of the recent store from the boundary on (R70, R85, R87; that a test asks for no present turbine: entry 17). A
revolution opens a window, but at a step boundary none, or counts in an OPEN one; the one that reaches the target makes it
CLOSING with the samples before the boundary, or closes it at once (R72). DATA goes into the recent store of 8 frames of one
rate, then to the window: another rate abandons it
(so alone where the frame is too long as well: entry 63), more than 16,384 samples abandon it with WINDOW_TOO_LONG, and a frame at or
after the closing boundary closes it (R68, R71, R72); that this frame's own rate does not matter is the model's reading (DEDUCED,
entry 20). A window that closes is queued with its mean speed, and an automatic one
makes the opening check at its closing boundary (R73). An abandoned one is counted under its cause, and a test ends with
VIB_TEST; SERVICE and NOT_GENERATING leave a TEST window (R74, R85), the slots of a turbine in ascending order and VIB_TEST
before WINDOW_TOO_LONG by the model's choice (entry 17).
A record that the watch queues goes to the end of its class, which counts it, and an IDLE engine looks at once; at a class of 8 records
it is discarded at entry: the overrun count rises, WINDOW_OVERRUN is raised with the count, the slot and the close stamp (to the ms
below: entry 47), the slot that
still holds the instance counts a discarded record, and a test ends DISCARDED with VIB_TEST (R54, R55, R56, R75, R85), after
WINDOW_OVERRUN by the model's choice (entry 17); that a slot with another instance counts none (entry 23, DEDUCED) and that DISCARDED has
no cause (entry 45) are the model's. -/
def Obligations.TriggeredAndAutomaticWindows : Prop :=
  (∀ (o : Origin) (s : State), accepts s o →
     (∀ k slot, k = 0 ∨ 25 ≤ k → answersRefused (.triggerWindow o k slot) s o 37 .badParameter 1) ∧
     (∀ (t : Tid) slot, 192 ≤ slot → answersRefused (.triggerWindow o (tnum t) slot) s o 37 .badParameter 2)) ∧
  (∀ (o : Origin) (s : State) (t : Tid) (i : SlotId), accepts s o →
     let good := (s.streams.slots.get i).state = .live ∧ ∃ e, entryAt s i = some e ∧ e.role = .vib ∧ e.source = tnum t
     (∀ r, (s.turbines.get t).present = true → (s.turbines.get t).service = true → good → (s.speeds.get t).state = .tracking →
       testWaiting s i = false → s.vib.recs.get i = some r →
       answersDone (.triggerWindow o (tnum t) i.val) s o 37
         { s with vib := { s.vib with recs := put s.vib.recs i (some { r with testPending := true }) } } []) ∧
     ((s.turbines.get t).present = false → answersRefused (.triggerWindow o (tnum t) i.val) s o 37 .notPresent 0) ∧
     ((s.turbines.get t).present = true → (s.turbines.get t).service = false →
       answersRefused (.triggerWindow o (tnum t) i.val) s o 37 .notInService 0) ∧
     ((s.turbines.get t).present = true → (s.turbines.get t).service = true → ¬ good →
       answersRefused (.triggerWindow o (tnum t) i.val) s o 37 .badParameter 2) ∧
     ((s.turbines.get t).present = true → (s.turbines.get t).service = true → good → (s.speeds.get t).state ≠ .tracking →
       answersRefused (.triggerWindow o (tnum t) i.val) s o 37 .badParameter 1) ∧
     ((s.turbines.get t).present = true → (s.turbines.get t).service = true → good → (s.speeds.get t).state = .tracking →
       testWaiting s i = true → answersRefused (.triggerWindow o (tnum t) i.val) s o 37 .windowPending 0)) ∧
  (∀ (s : State) (t : Tid) (b : Time) (i : SlotId) (r : VibRec) (e : StreamEntry),
     s.vib.recs.get i = some r → entryAt s i = some e →
     let set := setOf s e
     let turb := s.turbines.get t
     let mayOpen := r.window = none ∧ (s.streams.slots.get i).state = .live ∧ set.bands ≠ [] ∧
       ¬ ∃ p, s.cmd = .commit p ∧ ∃ g ∈ p.groups, i ∈ g
     let automatic := turb.present = true ∧ turb.oper = .generating ∧ turb.service = false ∧ timerTicks turb.blanking = 0
     let opened (test : Bool) : VibWindow :=
       { test := test, opening := b, closing := none, revs := 0, target := set.revolutions,
         rate := r.recent.head?.map (fun f => f.rate), samples := recentFrom r.recent b }
     (mayOpen → r.testPending = true →
       openingCheck t b s i = setVib s i (some { r with window := some (opened true), testPending := false })) ∧
     (mayOpen → r.testPending = false → automatic →
       openingCheck t b s i = setVib s i (some { r with window := some (opened false) })) ∧
     (mayOpen → r.testPending = false → ¬ automatic → openingCheck t b s i = s) ∧
     (¬ mayOpen → openingCheck t b s i = s)) ∧
  (∀ (fs : List StoredFrame) (b : Time),
     (∀ x, x ∈ recentFrom fs b ↔ (∃ f ∈ fs, x ∈ timed f.stamp f.rate f.samples) ∧ 0 ≤ timeDiff x.time b) ∧
     (∀ f, recentFrom [f] b = (timed f.stamp f.rate f.samples).filter (fun x => decide (0 ≤ timeDiff x.time b))) ∧
     (∀ f g, recentFrom [f, g] b = (if stampDiff g.stamp f.stamp < 0
       then timed g.stamp g.rate g.samples ++ timed f.stamp f.rate f.samples
       else timed f.stamp f.rate f.samples ++ timed g.stamp g.rate g.samples).filter
         (fun x => decide (0 ≤ timeDiff x.time b)))) ∧
  (∀ (s : State) (t : Tid) (b : Time) (i : SlotId) (r : VibRec), s.vib.recs.get i = some r →
     (r.window = none → revolutionAt t b false s i = openingCheck t b s i ∧ revolutionAt t b true s i = s) ∧
     (∀ (w : VibWindow) (isStep : Bool), r.window = some w →
       let cut := { w with
         revs := w.revs + 1, closing := some b, samples := w.samples.filter (fun x => decide (timeDiff x.time b < 0)) }
       (w.closing ≠ none → revolutionAt t b isStep s i = s) ∧
       (w.closing = none → w.revs + 1 < w.target →
         revolutionAt t b isStep s i = setVib s i (some { r with window := some { w with revs := w.revs + 1 } })) ∧
       (w.closing = none → w.target ≤ w.revs + 1 → (∀ x ∈ w.samples, timeDiff (stampTime x.time.stamp) b < 0) →
         revolutionAt t b isStep s i = setVib s i (some { r with window := some cut })) ∧
       (∀ x rate, w.closing = none → w.target ≤ w.revs + 1 → x ∈ w.samples → 0 ≤ timeDiff (stampTime x.time.stamp) b →
         w.rate = some rate → revolutionAt t b isStep s i = closeWindow s t i cut b rate))) ∧
  (∀ (s : State) (t : Tid) (i : SlotId) (stamp : Nat) (rate : RateCode) (xs : List Int) (r : VibRec),
     s.vib.recs.get i = some r →
     let kept := if ∀ g ∈ r.recent, g.rate = rate then r.recent else []
     let frame : StoredFrame := { stamp := stamp, rate := rate, samples := xs }
     let recent := (kept ++ [frame]).drop (kept.length + 1 - 8)
     let u := setVib s i (some { r with recent := recent })
     (r.window = none → vibData s t i stamp rate xs = u) ∧
     (∀ w, r.window = some w →
       let mine := (timed stamp rate xs).filter (fun x => decide (0 ≤ timeDiff x.time w.opening))
       let give (new : List Sample) : State :=
         if w.rate ≠ none ∧ w.rate ≠ some rate then abandonWindow .rateChange u i
         else if 16384 < w.samples.length + new.length then
           raise (abandonWindow .tooLong u i) .windowTooLong (slotTurbine s i) (.slot i)
             [vNat w.revs, vNat w.target, vNat (rateCodeNum rate)]
         else setVib s i (some { r with
           recent := recent, window := some { w with samples := w.samples ++ new, rate := some rate } })
       (w.closing = none → vibData s t i stamp rate xs = give mine) ∧
       (∀ c, w.closing = some c → timeDiff (stampTime stamp) c < 0 →
         vibData s t i stamp rate xs = give (mine.filter (fun x => decide (timeDiff x.time c < 0)))) ∧
       (∀ c q, w.closing = some c → 0 ≤ timeDiff (stampTime stamp) c → w.rate = some q →
         vibData s t i stamp rate xs = closeWindow u t i w c q))) ∧
  (∀ (s : State) (t : Tid) (i : SlotId) (r : VibRec) (w : VibWindow) (c : Time) (rate : RateCode),
     s.vib.recs.get i = some r →
     let made : VibRecord :=
       { turbine := t, slot := i, inst := (s.streams.slots.get i).inst, gen := s.active.bandGen, opening := w.opening,
         closing := c, meanSpeed := windowMeanSpeed w.target w.opening c, rate := rate, samples := w.samples,
         test := w.test }
     let u := queueVib (setVib s i (some { r with window := none, queued := min (r.queued + 1) 4294967295 })) made
     closeWindow s t i w c rate = (if w.test = true then u else openingCheck t c u i) ∧
     (0 < usDiff c w.opening →
       windowMeanSpeed w.target w.opening c = min (600000000 * w.target / (usDiff c w.opening).toNat) 65535)) ∧
  (∀ (s : State) (i : SlotId) (r : VibRec) (cause : AbandonCause), s.vib.recs.get i = some r →
     (r.window = none → abandonWindow cause s i = s) ∧
     (∀ w, r.window = some w →
       let k := causeIndex cause
       let u (last : Option (TestOutcome × Option AbandonCause)) := setVib s i (some { r with
         window := none, abandoned := put r.abandoned k (min (r.abandoned.get k + 1) 4294967295), lastTest := last })
       (w.test = false → abandonWindow cause s i = u r.lastTest ∧ abandonAutomatic cause s i = u r.lastTest) ∧
       (w.test = true → abandonAutomatic cause s i = s ∧
         abandonWindow cause s i =
           raise (u (some (.abandoned, some cause))) .vibTest (slotTurbine s i) (.slot i) []))) ∧
  (∀ (s : State) (t : Tid),
     vibStep s t = (vibSlots s t).foldl (abandonWindow .speedStep) s ∧
     vibSlip s t = (vibSlots s t).foldl (abandonWindow .slip) s ∧
     vibBlanking s t = (vibSlots s t).foldl (abandonWindow .blanking) s ∧
     vibNotGenerating s t = (vibSlots s t).foldl (abandonAutomatic .notGenerating) s ∧
     vibServiceBegun s t = (vibSlots s t).foldl (abandonAutomatic .service) s ∧
     (∀ i, vibGap s i = abandonWindow .gap (updVib s i (fun r => { r with recent := [] })) i) ∧
     (∀ i cause, cause ≠ EndCause.restart →
       vibEnded s i cause = cancelTest .streamEnded (abandonWindow .streamEnded (updVib s i (fun r => { r with recent := [] })) i) i)) ∧
  (∀ (s : State) (i : SlotId),
     testWaiting s i = true ↔ ∃ r, s.vib.recs.get i = some r ∧ (r.testPending = true ∨ ∃ w, r.window = some w ∧ w.test = true)) ∧
  (∀ (s : State) (r : VibRecord),
     let e := s.engine
     let one (n : Nat) := min (n + 1) 4294967295
     (e.vibQueue.length < 8 → queueVib s r = engineLook { s with engine := { e with
       vibQueue := e.vibQueue ++ [r], vibCounts := { e.vibCounts with queued := one e.vibCounts.queued } } }) ∧
     (8 ≤ e.vibQueue.length →
       let counted : State := { s with engine := { e with
         vibCounts := { e.vibCounts with overrun := one e.vibCounts.overrun } } }
       let told := raise counted .windowOverrun none (.cls .vib)
         [vNat (one e.vibCounts.overrun), vNat r.slot.val, vNat ((r.closing.stamp + r.closing.sub / 16000) % 4294967296)]
       let left := if (s.streams.slots.get r.slot).inst = r.inst
         then updVib told r.slot (fun x => { x with
           discarded := one x.discarded, lastTest := if r.test = true then some (.discarded, none) else x.lastTest })
         else told
       (r.test = false → queueVib s r = left) ∧
       (r.test = true → queueVib s r = raise left .vibTest (some (tnum r.turbine)) (.slot r.slot) [])))

/-! ## Grid (chapter 6) -/

/-- CLEAR GRID: in CONDITION with a CLEAN verdict the grid is NORMAL and every request withdrawn; in CONDITION otherwise
release-armed becomes YES and nothing else changes; in NORMAL and EXCEEDING nothing changes (R104, R105).
A rising crossing is a sample at or above 0 after one below 0 while armed, which disarms; a sample at or below −h arms; its
time is interpolated and rounded down to a whole µs (R90). A crossing opens a window in WAITING unless a commit holds the
slot, counts a cycle in OPEN, and at the W-th closes it; each sample joins the window, which ends under GRID_FREQ where the
span is too long (R91, R94). A window that closes is abandoned where its mean fundamental is more than 5 per cent off,
otherwise queued with the covering streams, and the next opens at the crossing (R92). GAP, ENDED and another rate of the
reference abandon the window and disarm the detector (R90, R93); the other streams have collecting stores of at most 16,384
samples (R89), a full one pushing out those that arrived first by the model's choice, as R89 does not say which are the oldest
(entry 57). That a preceding sample whose own time is the crossing's time joins the window it opens is the model's reading (DEDUCED,
entry 37), and that a window whose stamps keep its span short takes on samples past 16,384 its choice (entry 62). That samples
are taken as they arrive, also into the window where times overlap, is the model's choice (entry 52). That a crossing which
takes the span past its limit opens no window is the model's choice (entry 46), as is taking a span that is not positive as
out of range (DEDUCED, entry 22).
A harmonic record that its watch queues goes to the end of its class, which counts it, and an IDLE engine looks at once; at a class of
4 records it is discarded at entry, overrun and discarded counts rise, and WINDOW_OVERRUN is raised with the count, the slot and the
close stamp, to the ms below by the model's choice (entry 47) (R54, R55, R56, R94). -/
def Obligations.GridWindowsAndClearGrid : Prop :=
  (∀ (o : Origin) (s : State), accepts s o →
     (s.harm.grid.state = .condition → s.harm.grid.verdict = some .clean →
       ∃ u, answersDone (.clearGrid o) s o 44 u (u8 0) ∧ u.harm.grid.state = .normal ∧ u.harm.grid.onset = none ∧
         u.harm.grid.escalation = 0 ∧ u.harm.grid.armed = false ∧ u.harm.grid.requests = [] ∧
         u.harm.contributors = s.harm.contributors ∧ u.streams = s.streams ∧ u.items = s.items ∧ u.speeds = s.speeds) ∧
     (s.harm.grid.state = .condition → s.harm.grid.verdict ≠ some .clean →
       answersDone (.clearGrid o) s o 44 { s with harm := { s.harm with grid := { s.harm.grid with armed := true } } } (u8 1)) ∧
     (s.harm.grid.state ≠ .condition → answersDone (.clearGrid o) s o 44 s (u8 2))) ∧
  (∀ (d : Detector) (x : Sample),
     (∀ p, crossingAt d x = some p ↔ d.armed = true ∧ d.prev = some p ∧ p.value < 0 ∧ 0 ≤ x.value) ∧
     (detectorAfter d x).prev = some x ∧ (detectorAfter d x).h = d.h ∧ (detectorAfter d x).rate = d.rate ∧
     ((detectorAfter d x).armed = true ↔ crossingAt d x = none ∧ (d.armed = true ∨ x.value ≤ -(d.h : Int)))) ∧
  (∀ (rate : RateCode) (p x : Sample), p.value < 0 → 0 ≤ x.value →
     let q := crossingTime rate p x
     let rise := (x.value - p.value).toNat
     let exact := p.time.sub * rise + rateSpacing rate * (-p.value).toNat
     q.stamp = p.time.stamp ∧ q.sub % 16 = 0 ∧ q.sub * rise ≤ exact ∧ exact < (q.sub + 16) * rise) ∧
  (∀ (s : State) (i : SlotId) (rate : RateCode) (x : Sample),
     let d := s.harm.detector
     let u : State := { s with harm := { s.harm with detector := detectorAfter d x } }
     let v := refSample i rate s x
     (s.harm.former = .suspended → v = u) ∧
     (s.harm.former = .waiting → crossingAt d x = none → v = u) ∧
     (∀ p, s.harm.former = .waiting → crossingAt d x = some p → v = openHarm u i (crossingTime rate p x) rate [p, x]) ∧
     (∀ w, s.harm.former = .opened w → crossingAt d x = none → v = extendHarm u w x) ∧
     (∀ w p, s.harm.former = .opened w → crossingAt d x = some p → w.cycles + 1 < w.target →
       v = extendHarm u { w with cycles := w.cycles + 1 } x) ∧
     (∀ w p, s.harm.former = .opened w → crossingAt d x = some p → w.target ≤ w.cycles + 1 →
       v = closeHarm u i w (crossingTime rate p x) (w.samples ++ [x]))) ∧
  (∀ (s : State) (i : SlotId) (b : Time) (rate : RateCode) (xs : List Sample),
     let held := ∃ p, s.cmd = .commit p ∧ ∃ g ∈ p.groups, i ∈ g
     let late (ys : List Sample) := ys.filter (fun x => decide (0 ≤ timeDiff x.time b))
     let w : HarmWindow :=
       { opening := b, target := s.active.settings.cycles, nominal := s.active.settings.nominal, cycles := 0,
         rate := rate, samples := late xs }
     (held → openHarm s i b rate xs = { s with harm := { s.harm with former := .waiting } }) ∧
     (¬ held → openHarm s i b rate xs = { s with harm := { s.harm with
       former := .opened w,
       collect := mapTab (fun c => c.map (fun c => { c with samples := late c.samples })) s.harm.collect } })) ∧
  (∀ (s : State) (w : HarmWindow) (x : Sample),
     let passed := (w.target : Int) * 20000000 * 16 < timeDiff x.time w.opening * (19 * (w.nominal : Int))
     (¬ passed → extendHarm s w x =
       { s with harm := { s.harm with former := .opened { w with samples := w.samples ++ [x] } } }) ∧
     (passed → extendHarm s w x = { s with harm := abandonHarm s.harm .gridFreq .waiting })) ∧
  (∀ (h : HarmWatch) (cause : GridAbandon) (after : Former),
     (∀ w, h.former = .opened w → abandonHarm h cause after =
       let k := gridAbandonIndex cause
       { h with former := after, abandoned := put h.abandoned k (min (h.abandoned.get k + 1) 4294967295) }) ∧
     ((∀ w, h.former ≠ .opened w) → abandonHarm h cause after = h)) ∧
  (∀ (s : State) (i : SlotId) (w : HarmWindow) (c : Time) (held : List Sample),
     let us := usDiff c w.opening
     let mean := w.target * 1000000000 / us.toNat
     let nominal := w.nominal * 1000
     let kept := 0 < us ∧ 100 * ((mean : Int) - (nominal : Int)).natAbs ≤ 5 * nominal
     let secs := admitted s us.toNat w.opening c
     let record : HarmRecord :=
       { slot := i, inst := (s.streams.slots.get i).inst, secondaries := secs, gen := s.active.limitGen,
         opening := w.opening, closing := c, meanFund := mean, rate := w.rate,
         samples := held.filter (fun x => decide (timeDiff x.time c < 0)) }
     let u := queueHarm { s with harm := { s.harm with
       former := .waiting, queued := min (s.harm.queued + 1) 4294967295,
       omissions := min (s.harm.omissions + ((collectingSlots s).length - secs.length)) 4294967295 } } record
     (kept → closeHarm s i w c held = openHarm { u with harm := dropOlder u.harm c } i c w.rate held) ∧
     (¬ kept → closeHarm s i w c held =
       openHarm { s with harm := abandonHarm s.harm .gridFreq .waiting } i c w.rate held)) ∧
  (∀ (s : State) (us : Nat) (b e : Time) (x : SecStream),
     x ∈ admitted s us b e ↔ ∃ i col rate, s.harm.collect.get i = some col ∧ col.rate = some rate ∧
       (let inside := col.samples.filter (fun y => decide (0 ≤ timeDiff y.time b ∧ timeDiff y.time e < 0))
        9 * (us * rateHz rate / 1000000) ≤ 10 * inside.length ∧ x = secondaryOf s i col b e ∧ x.slot = i ∧
        x.inst = (s.streams.slots.get i).inst ∧ x.rate = rate ∧ x.samples = inside ∧
        (∀ en, entryAt s i = some en → x.role = en.role ∧ x.phase = en.phase ∧
          x.turbine = (if en.role = .convI then turbineOf en.source else none)))) ∧
  (∀ (s : State) (i : SlotId) (e : StreamEntry), e.role = .gridV → e.phase = .a →
     let h := s.harm
     (harmLive s i e).harm.former = (match h.former with | .opened w => .opened w | _ => .waiting) ∧
     harmGap s i e = { s with harm :=
       (let g := abandonHarm h .gap .waiting
        { g with detector := { g.detector with armed := false, prev := none } }) } ∧
     harmEnded s i e = { s with harm :=
       { abandonHarm h .streamEnded .suspended with
         former := .suspended, detector := { armed := false, prev := none, rate := none, h := 0 } } } ∧
     (∀ (stamp : Nat) (rate : RateCode) (xs : List Int),
       harmData s i e stamp rate xs = (timed stamp rate xs).foldl (refSample i rate) { s with harm := refRate h rate } ∧
       ((refRate h rate).former = match h.former with
         | .opened w => if w.rate = rate then .opened w else .waiting
         | other => other) ∧
       (refRate h rate).detector = (if h.detector.rate = some rate then h.detector
         else { h.detector with armed := false, prev := none, rate := some rate }) ∧
       (∀ w, h.former = .opened w → w.rate ≠ rate → (refRate h rate).abandoned =
         (abandonHarm h .rateChange .waiting).abandoned))) ∧
  (∀ (s : State) (i : SlotId) (e : StreamEntry) (stamp : Nat) (rate : RateCode) (xs : List Int),
     ¬ (e.role = .gridV ∧ e.phase = .a) →
     (harmLive s i e).harm.collect.get i = some { rate := none, samples := [] } ∧
     (harmEnded s i e).harm.collect.get i = none ∧
     (∀ c, s.harm.collect.get i = some c →
       let all := (if c.rate = some rate then c.samples else []) ++ timed stamp rate xs
       (harmGap s i e).harm.collect.get i = some { rate := none, samples := [] } ∧
       (harmData s i e stamp rate xs).harm.collect.get i =
         some { rate := some rate, samples := all.drop (all.length - 16384) })) ∧
  (∀ (s : State) (r : HarmRecord),
     let e := s.engine
     let one (n : Nat) := min (n + 1) 4294967295
     (e.harmQueue.length < 4 → queueHarm s r = engineLook { s with engine := { e with
       harmQueue := e.harmQueue ++ [r], harmCounts := { e.harmCounts with queued := one e.harmCounts.queued } } }) ∧
     (4 ≤ e.harmQueue.length →
       let counted : State := { s with engine := { e with
         harmCounts := { e.harmCounts with overrun := one e.harmCounts.overrun } } }
       let told := raise counted .windowOverrun none (.cls .harm)
         [vNat (one e.harmCounts.overrun), vNat r.slot.val, vNat ((r.closing.stamp + r.closing.sub / 16000) % 4294967296)]
       queueHarm s r = { told with harm := { told.harm with discarded := one s.harm.discarded } }))

/-! ## Ice (chapter 7) -/

/-- DECLARE ICE and DECLARE CLEAR on a present turbine: the state at once ICED with evidence K, or CLEAR with evidence 0; the
block emptied, thaw timer and trial count 0, and the ice gate open or closed; a turbine not present is refused
NOT_PRESENT (R125 to R127).
THAW_DWELL_REACHED: an ICED turbine becomes THAWING with thaw timer and trial count 0, its evidence kept, its hold request
ended and the ice gate as it was (R122, R127). That the reached dwell waits for a step of its own is the model's choice (entry
7). -/
def Obligations.IceStateIsDeclaredAndThaws : Prop :=
  (∀ (o : Origin) (s : State) (t : Tid), accepts s o →
     ((s.turbines.get t).present = true →
       ∃ u v, answersDone (.declareIce o (tnum t)) s o 42 u [] ∧ answersDone (.declareClear o (tnum t)) s o 43 v [] ∧
         (u.ice.get t).state = .iced ∧ (u.ice.get t).evidence = s.active.settings.confirm ∧ (u.ice.get t).thawTimer = 0 ∧
         (u.ice.get t).trial = 0 ∧ (u.ice.get t).blockCount = 0 ∧ (u.ice.get t).lastMean = (s.ice.get t).lastMean ∧
         (v.ice.get t).state = .clear ∧ (v.ice.get t).evidence = 0 ∧ (v.ice.get t).thawTimer = 0 ∧
         (v.ice.get t).trial = 0 ∧ (v.ice.get t).blockCount = 0 ∧
         ((s.ice.get t).state = .clear → (u.usage.get t).ice.gate = true) ∧
         ((s.ice.get t).state = .iced → (v.usage.get t).ice.gate = false) ∧
         u.items = s.items ∧ v.items = s.items ∧ u.streams = s.streams ∧ v.streams = s.streams) ∧
     ((s.turbines.get t).present = false →
       answersRefused (.declareIce o (tnum t)) s o 42 .notPresent 0 ∧
       answersRefused (.declareClear o (tnum t)) s o 43 .notPresent 0)) ∧
  (∀ (s : State) (t : Tid), s.standing = .active → (s.ice.get t).thawDue = true → (s.ice.get t).state = .iced →
     ∃ u, exec (.thawDwellReached t) s = .next (settle u) ∧ (u.ice.get t).state = .thawing ∧
       (u.ice.get t).evidence = (s.ice.get t).evidence ∧ (u.ice.get t).thawTimer = 0 ∧ (u.ice.get t).trial = 0 ∧
       holdRequested u t = false ∧ (u.usage.get t).ice = (s.usage.get t).ice ∧ u.streams = s.streams ∧ u.items = s.items ∧
       u.speeds = s.speeds ∧ (∀ x, x ≠ t → u.ice.get x = s.ice.get x))

/-! ## Clock and counters (chapter 8) -/

/-- TICK with no step waiting moves every count on by one tick and changes nothing else. Ticks since start-up rise by 1; a
RUNNING clock advances by a tenth, marking its rollover at the last tenth of the day (the wait is the model's choice, entry
8), and a HELD one counts (R128, R129, R131, R133). Each countdown that runs goes down by 1: silence of LIVE slots, service
limit, blanking, stop, interval, refresh and commit timeout (R12, R31, R35, R50, R150, R170, R189). Silent ticks rise by 1
(R12), the thaw timer of an ICED turbine that is warm with reports live rises by 1 and is compared with the dwell (R121,
R122), and each open gate raises its sub-counter, whose 3,600th tick sets it to 0 with a carry (R136); that the carry waits
for its own step, the main counter unchanged until then, is the model's choice (entry 9).
During the restore a TICK raises ticks since start-up alone (R128; R172 of section 11.1). -/
def Obligations.TickMovesEveryCount : Prop :=
  (∀ s : State, s.standing = .active → nothingDue s → commitWaits s →
     ∃ u, exec .tick s = .next (settle u) ∧
       u = { s with clock := u.clock, streams := { s.streams with slots := u.streams.slots }, turbines := u.turbines,
                    speeds := u.speeds, ice := u.ice, usage := u.usage, store := { s.store with timer := u.store.timer },
                    advice := { s.advice with recs := u.advice.recs }, cmd := u.cmd } ∧
       u.clock.sinceStart = min (s.clock.sinceStart + 1) 4294967295 ∧
       (s.clock.state = .unset → u.clock = { s.clock with sinceStart := u.clock.sinceStart }) ∧
       (s.clock.state = .held → u.clock = { s.clock with sinceStart := u.clock.sinceStart,
                                                         heldTicks := min (s.clock.heldTicks + 1) 4294967295 }) ∧
       (s.clock.state = .running → s.clock.hour ≤ 23 → s.clock.minute ≤ 59 → s.clock.second ≤ 59 → s.clock.tenth ≤ 9 →
         (tenthsOfDay s.clock < 863999 → u.clock.state = .running ∧ u.clock.day = s.clock.day ∧
           tenthsOfDay u.clock = tenthsOfDay s.clock + 1 ∧ u.clock.rolloverDue = false ∧
           (u.clock.checkpointDue = true ↔ tenthsOfDay u.clock = s.active.settings.ckptHour * 36000)) ∧
         (tenthsOfDay s.clock = 863999 → u.clock = { s.clock with
           sinceStart := u.clock.sinceStart, rolloverDue := true,
           midnightCheckpoint := decide (s.active.settings.ckptHour = 0) })) ∧
       (∀ i, let x := s.streams.slots.get i
         (x.state = .live → u.streams.slots.get i = { x with silence := x.silence.map (fun n => n - 1) }) ∧
         (x.state = .silent → u.streams.slots.get i = { x with silentTicks := min (x.silentTicks + 1) 65535 }) ∧
         (x.state ≠ .live → x.state ≠ .silent → u.streams.slots.get i = x)) ∧
       (∀ t, u.turbines.get t = { s.turbines.get t with
         limitTimer := (s.turbines.get t).limitTimer.map (fun n => n - 1),
         blanking := (s.turbines.get t).blanking.map (fun n => n - 1) }) ∧
       (∀ t, u.speeds.get t = { s.speeds.get t with stopTimer := (s.speeds.get t).stopTimer.map (fun n => n - 1) }) ∧
       (∀ t, let x := s.ice.get t
         let n := min (x.thawTimer + 1) 864000
         (x.state = .iced → x.reportsLive = true → x.warm = true →
           u.ice.get t = { x with thawTimer := n, thawDue := decide (s.active.settings.thawDwell * 600 ≤ n) }) ∧
         (x.state ≠ .iced ∨ x.reportsLive = false ∨ x.warm = false → u.ice.get t = x)) ∧
       (∀ t, (u.usage.get t).main = (s.usage.get t).main ∧ (u.usage.get t).revSub = (s.usage.get t).revSub ∧
         ∀ c, let x := timeSub (s.usage.get t) c
           (x.gate = false → timeSub (u.usage.get t) c = x) ∧
           (x.gate = true → x.ticks ≠ 3599 → timeSub (u.usage.get t) c = { x with ticks := x.ticks + 1 }) ∧
           (x.gate = true → x.ticks = 3599 → timeSub (u.usage.get t) c = { x with ticks := 0, due := 1 })) ∧
       u.store.timer = s.store.timer.map (fun n => n - 1) ∧
       (∀ t, u.advice.recs.get t = { s.advice.recs.get t with refresh := (s.advice.recs.get t).refresh.map (fun n => n - 1) }) ∧
       (∀ p, s.cmd = .commit p → u.cmd = .commit { p with ticks := p.ticks - 1 }) ∧
       ((∀ p, s.cmd ≠ .commit p) → u.cmd = s.cmd)) ∧
  (∀ s : State, s.standing = .restoring →
     exec .tick s = .next (settle { s with clock := { s.clock with sinceStart := min (s.clock.sinceStart + 1) 4294967295 } }))

/-- A tick of a RUNNING clock short of midnight raises the tenths of day by 1, keeps the day and keeps every field in its
range; at the last tenth of the day it marks the rollover, and the checkpoint moment where the hour active at that tick is 0
(R129, R133; that the rollover waits for its own step is the model's choice, entry 8); a HELD clock keeps its five fields
and counts; an UNSET clock keeps them (R128, R129, R131).
DAY_ROLLOVER, where the rollover waits (entry 8): midnight passes to 00:00:00.0 with the day number up by 1, the Calendar is
told of the day change with the new day, and a marked checkpoint moment becomes due after it; at day 65,535 the day stays
and no day change is told (R129, R133). -/
def Obligations.ClockAdvancesAndRollsOver : Prop :=
  (∀ (hour : Nat) (c : Clock), c.hour ≤ 23 → c.minute ≤ 59 → c.second ≤ 59 → c.tenth ≤ 9 →
     (c.state = .running → tenthsOfDay c < 863999 →
       tenthsOfDay (tickClock hour c) = tenthsOfDay c + 1 ∧ (tickClock hour c).day = c.day ∧
       (tickClock hour c).hour ≤ 23 ∧ (tickClock hour c).minute ≤ 59 ∧ (tickClock hour c).second ≤ 59 ∧
       (tickClock hour c).tenth ≤ 9) ∧
     (c.state = .running → tenthsOfDay c = 863999 → tickClock hour c =
       { c with sinceStart := min (c.sinceStart + 1) 4294967295, rolloverDue := true, midnightCheckpoint := decide (hour = 0) }) ∧
     (c.state = .held → tickClock hour c =
       { c with sinceStart := min (c.sinceStart + 1) 4294967295, heldTicks := min (c.heldTicks + 1) 4294967295 }) ∧
     (c.state = .unset → tickClock hour c = { c with sinceStart := min (c.sinceStart + 1) 4294967295 })) ∧
  (∀ s : State, s.standing = .active → s.clock.rolloverDue = true →
     ∃ u, exec .dayRollover s = .next (settle u) ∧ u.clock.day = min (s.clock.day + 1) 65535 ∧ tenthsOfDay u.clock = 0 ∧
       u.clock.rolloverDue = false ∧ u.clock.state = s.clock.state ∧ u.clock.sinceStart = s.clock.sinceStart ∧
       u.clock.checkpointDue = (s.clock.checkpointDue || s.clock.midnightCheckpoint) ∧
       u = { s with clock := u.clock, items := u.items, findings := u.findings, portD := u.portD } ∧
       (s.clock.day < 65535 → u = dayChange { s with clock := u.clock }) ∧
       (65535 ≤ s.clock.day → u = { s with clock := u.clock }))

/-- COUNTER_CARRY: a waiting carry raises the main counter by 1 and is gone, the sub-counter and gate and every other
counter keep their values (R136, R139). That a carry waits for a step of its own, and how many wait, is the model's choice
(entry 9). -/
def Obligations.CarryRaisesTheMainCounter : Prop :=
  ∀ (s : State) (t : Tid) (c : TimeCounter), s.standing = .active → 0 < (timeSub (s.usage.get t) c).due →
    mainAt s t (timeBasis c) < 4294967295 →
    ∃ u, exec (.counterCarry t c) s = .next (settle u) ∧ mainAt u t (timeBasis c) = mainAt s t (timeBasis c) + 1 ∧
      timeSub (u.usage.get t) c = { timeSub (s.usage.get t) c with due := (timeSub (s.usage.get t) c).due - 1 } ∧
      (∀ x, x ≠ t → u.usage.get x = s.usage.get x) ∧ (∀ b, b ≠ timeBasis c → mainAt u t b = mainAt s t b) ∧
      u = { s with usage := u.usage, items := u.items, findings := u.findings, portD := u.portD }

/-- SET CLOCK in range writes the five fields, sets held ticks to 0 and enters RUNNING or HELD, and requests no checkpoint; the
Calendar is told of a day change where the clock was UNSET or the day changes, and not otherwise (R130). A rollover
that waits is taken first: the command does what it does after the day change (the model's choice, entry 8).
HOLD CLOCK: a RUNNING clock is HELD with held ticks 0 and its fields as they stand; a HELD clock is left; an UNSET clock
refuses CLOCK_UNSET (R131). -/
def Obligations.SetAndHoldClock : Prop :=
  (∀ (o : Origin) (s : State) (day hour minute second tenth mode : Nat), accepts s o → s.clock.rolloverDue = false →
     day ≤ 65535 → hour ≤ 23 → minute ≤ 59 → second ≤ 59 → tenth ≤ 9 → mode ≤ 1 →
     ∃ u, answersDone (.setClock o day hour minute second tenth mode) s o 45 u [] ∧
       u.clock = { s.clock with state := (if mode = 0 then .running else .held), day := day, hour := hour, minute := minute,
                                second := second, tenth := tenth, heldTicks := 0 } ∧
       u = { s with clock := u.clock, items := u.items, findings := u.findings, portD := u.portD } ∧
       (s.clock.state = .unset ∨ s.clock.day ≠ day → u = dayChange { s with clock := u.clock }) ∧
       (s.clock.state ≠ .unset → s.clock.day = day → u = { s with clock := u.clock })) ∧
  (∀ (o : Origin) (s : State), accepts s o →
     (s.clock.state = .running → s.clock.rolloverDue = false →
       answersDone (.holdClock o) s o 46 { s with clock := { s.clock with state := .held, heldTicks := 0 } } []) ∧
     (s.clock.state = .held → answersDone (.holdClock o) s o 46 s []) ∧
     (s.clock.state = .unset → answersRefused (.holdClock o) s o 46 .clockUnset 0)) ∧
  (∀ (o : Origin) (s : State), accepts s o → s.clock.rolloverDue = true →
     let c0 : Clock := { s.clock with day := min (s.clock.day + 1) 65535, hour := 0, minute := 0, second := 0, tenth := 0,
                                      rolloverDue := false, midnightCheckpoint := false,
                                      checkpointDue := s.clock.checkpointDue || s.clock.midnightCheckpoint }
     let s0 : State := if s.clock.day < 65535 then dayChange { s with clock := c0 } else { s with clock := c0 }
     accepts s0 o ∧ s0.clock = c0 ∧
     (∀ day hour minute second tenth mode, day ≤ 65535 → hour ≤ 23 → minute ≤ 59 → second ≤ 59 → tenth ≤ 9 → mode ≤ 1 →
       exec (.setClock o day hour minute second tenth mode) s = exec (.setClock o day hour minute second tenth mode) s0) ∧
     (s.clock.state = .running → exec (.holdClock o) s = exec (.holdClock o) s0))

/-- RELEASE CLOCK: a HELD clock is advanced by its held ticks in one step, with the day held at 65,535, and runs; one day change
is told where the day changes, and no checkpoint is requested; a RUNNING clock is left; an UNSET clock refuses CLOCK_UNSET
(R132). -/
def Obligations.ReleaseClockMakesUpTheHold : Prop :=
  ∀ (o : Origin) (s : State), accepts s o →
    (s.clock.state = .held →
      ∃ u, answersDone (.releaseClock o) s o 47 u [] ∧ u.clock.state = .running ∧ u.clock.heldTicks = 0 ∧
        u.clock.day = min (s.clock.day + (tenthsOfDay s.clock + s.clock.heldTicks) / 864000) 65535 ∧
        tenthsOfDay u.clock = (tenthsOfDay s.clock + s.clock.heldTicks) % 864000 ∧
        u.clock.hour ≤ 23 ∧ u.clock.minute ≤ 59 ∧ u.clock.second ≤ 59 ∧ u.clock.tenth ≤ 9 ∧
        u.clock.checkpointDue = s.clock.checkpointDue ∧
        u = (if u.clock.day = s.clock.day then { s with clock := u.clock } else dayChange { s with clock := u.clock })) ∧
    (s.clock.state = .running → answersDone (.releaseClock o) s o 47 s []) ∧
    (s.clock.state = .unset → answersRefused (.releaseClock o) s o 47 .clockUnset 0)

/-- SET COUNTER on a present turbine in service writes the main counter and sets its sub-counter to 0 where it has one; the
gate and every other counter keep their values, and no checkpoint is requested; the refusals come in R138's order (R138). -/
def Obligations.SetCounterWrites : Prop :=
  ∀ (o : Origin) (s : State) (t : Tid) (k value : Nat) (b : Basis), accepts s o → counterOf k = some b → value ≤ 4294967295 →
    ((s.turbines.get t).present = true → (s.turbines.get t).service = true →
      ∃ u, answersDone (.setCounter o (tnum t) k value) s o 41 u [] ∧ mainAt u t b = value ∧
        (∀ c, c ≠ b → mainAt u t c = mainAt s t c) ∧ (∀ x, x ≠ t → u.usage.get x = s.usage.get x) ∧
        (∀ c, timeBasis c = b → timeSub (u.usage.get t) c = { timeSub (s.usage.get t) c with ticks := 0 }) ∧
        (b = .krev → (u.usage.get t).revSub = 0) ∧
        u = { s with usage := u.usage, items := u.items, findings := u.findings, portD := u.portD }) ∧
    ((s.turbines.get t).present = false → answersRefused (.setCounter o (tnum t) k value) s o 41 .notPresent 0) ∧
    ((s.turbines.get t).present = true → (s.turbines.get t).service = false →
      answersRefused (.setCounter o (tnum t) k value) s o 41 .notInService 0)

/-! ## Items and the store (chapter 9) -/

/-- LOAD ITEM in range for a present turbine: the slot holds the item with its due point the last-done point plus the
interval, no sign-off day, an ARMED link where one is given, and the state its evaluation gives, which for a DAYS item under an
UNSET clock is WAITING; other slots and the store are as they were (R140, R142, R143). A DAYS item with last-done CURRENT under an
UNSET clock is refused CLOCK_UNSET, a turbine that is not present NOT_PRESENT, and the first parameter out of range BAD_PARAMETER,
the lowest of several and the numbers of the fields by the model's choice (R143; entries 56 and 59); that the link grade is coded 2
for ALERT and 3 for ALARM, the only values in range, is the model's reading (DEDUCED, entry 25). The basis value is the
turbine's main counter, or the day number (R141).
The state a basis value gives an item, by the table of R141 from the top down.
An evaluation that changes the state raises the finding of the state entered, and a DAYS item under an UNSET clock is not evaluated
(R142). At a rise of its linked grade an ARMED item is pulled in, or OWED where it sleeps, and a change to GOOD arms the link again
(R145, R146).
An advance of a main counter evaluates the turbine's items of that basis. A day change evaluates every DAYS item; before that an OWED
link is settled: where the present linked grade is at or above the link grade the item is pulled in with the new day number as basis
value and the link is SPENT, else the link is ARMED (R142, R146). Each acts in ascending slot order by the model's choice (entry
17). -/
def Obligations.LoadItemLoads : Prop :=
  (∀ (o : Origin) (s : State) (i : ItemId) (t : Tid) (b : Basis) (r : RawItem), accepts s o → r.wf = true →
     firstBadItemParam i.val r = none → r.turbine = tnum t → basisOf r.basis = some b → (s.turbines.get t).present = true →
     ¬ (b = .days ∧ r.current = 1 ∧ s.clock.state = .unset) →
     let last := if r.current = 1 then basisValue s t b else r.point
     ∃ u it, answersDone (.loadItem o i.val r) s o 38 u [] ∧ u.items.get i = some it ∧ it.turbine = t ∧ it.label = r.label ∧
       it.basis = b ∧ it.interval = r.interval ∧ it.lead = r.lead ∧ it.margin = r.margin ∧ it.lastDone = last ∧
       it.duePoint = min (last + r.interval) 4294967295 ∧ it.signOff = none ∧ it.link = r.link.bind linkOf ∧
       it.state = (if b = .days ∧ s.clock.state = .unset then .waiting else itemStateAt it (basisValue s t b)) ∧
       (∀ j, j ≠ i → u.items.get j = s.items.get j) ∧
       u = { s with items := u.items, findings := u.findings, portD := u.portD }) ∧
  (∀ (o : Origin) (s : State) (slot : Nat) (t : Tid) (b : Basis) (r : RawItem), accepts s o → r.wf = true →
     (∀ k, firstBadItemParam slot r = some k → answersRefused (.loadItem o slot r) s o 38 .badParameter k) ∧
     (firstBadItemParam slot r = none → r.turbine = tnum t → basisOf r.basis = some b →
       ((s.turbines.get t).present = false → answersRefused (.loadItem o slot r) s o 38 .notPresent 0) ∧
       ((s.turbines.get t).present = true → b = .days → r.current = 1 → s.clock.state = .unset →
         answersRefused (.loadItem o slot r) s o 38 .clockUnset 0))) ∧
  (∀ (slot : Nat) (r : RawItem), firstBadItemParam slot r = none ↔
     slot < 96 ∧ 1 ≤ r.turbine ∧ r.turbine ≤ 24 ∧ r.label ≤ 65535 ∧ r.basis ≤ 5 ∧ 1 ≤ r.interval ∧ r.interval ≤ 1000000000 ∧
     r.lead ≤ r.interval ∧ r.margin ≤ 1000000000 ∧ r.current ≤ 1 ∧ r.linkPresent ≤ 1 ∧
     (∀ l, r.link = some l → l.bandSet ≤ 31 ∧ (l.grade = 2 ∨ l.grade = 3) ∧ l.pullIn ≤ 1000000000)) ∧
  (∀ (s : State) (t : Tid),
     let m := (s.usage.get t).main
     basisValue s t .run = m.run ∧ basisValue s t .krev = m.krev ∧ basisValue s t .starts = m.starts ∧
     basisValue s t .ice = m.ice ∧ basisValue s t .curtailed = m.curtailed ∧ basisValue s t .days = s.clock.day) ∧
  (∀ (s : State) (t : Tid) (b : Basis), ∃ slots : List ItemId, slots.Pairwise (· < ·) ∧
     (∀ i, i ∈ slots ↔ ∃ it, s.items.get i = some it ∧ it.turbine = t ∧ it.basis = b) ∧
     counterAdvance s t b = slots.foldl evaluateItem s) ∧
  (∀ (s : State) (i : ItemId),
     dayChange s = (List.finRange 96).foldl dayChangeItem s ∧
     (∀ t b old new, linkedChange s t b old new = (List.finRange 96).foldl (linkedChangeItem t b old new) s) ∧
     (s.items.get i = none → dayChangeItem s i = s) ∧
     (∀ it, s.items.get i = some it →
       (it.basis ≠ .days → dayChangeItem s i = s) ∧
       (it.basis = .days → (∀ l, it.link = some l → l.state ≠ .owed) → dayChangeItem s i = evaluateItem s i) ∧
       (∀ l, it.basis = .days → it.link = some l → l.state = .owed →
         let g := (s.vib.linked.get it.turbine).get l.bandSet
         let reaches := g = .alarm ∨ (g = .alert ∧ l.alarm = false)
         let due := min it.duePoint (min (s.clock.day + l.pullIn) 4294967295)
         let u (due : Nat) (st : LinkState) : State :=
           { s with items := put s.items i (some { it with duePoint := due, link := some { l with state := st } }) }
         (¬ reaches → dayChangeItem s i = evaluateItem (u it.duePoint .armed) i) ∧
         (reaches → due = it.duePoint → dayChangeItem s i = evaluateItem (u due .spent) i) ∧
         (reaches → due ≠ it.duePoint → dayChangeItem s i = evaluateItem (evaluateItem
           (raise (u due .spent) .itemPulledIn (some (tnum it.turbine)) (.item i)
             [vNat it.label, vNat it.duePoint, vNat due, vNat l.bandSet.val, vNat (gradeCode g)]) i) i)))) ∧
  (∀ (it : Item) (v : Nat),
     let coming := it.duePoint - it.lead
     let overdue := min (it.duePoint + it.margin) 4294967295
     (v < coming → itemStateAt it v = .waiting) ∧ (coming ≤ v → v < it.duePoint → itemStateAt it v = .coming) ∧
     (it.duePoint ≤ v → v < overdue → itemStateAt it v = .due) ∧
     (it.duePoint ≤ v → overdue ≤ v → itemStateAt it v = .overdue)) ∧
  (∀ (s : State) (i : ItemId) (it : Item), s.items.get i = some it →
     let v := basisValue s it.turbine it.basis
     let now := itemStateAt it v
     let asleep := it.basis = .days ∧ s.clock.state = .unset
     let u : State := { s with items := put s.items i (some { it with state := now }) }
     let found (k : FindingKind) := raise u k (some (tnum it.turbine)) (.item i)
       [vNat it.label, vNat (basisCode it.basis), vNat v, vNat it.duePoint,
        vNat (min (it.duePoint + it.margin) 4294967295)]
     (asleep ∨ now = it.state → evaluateItem s i = s) ∧
     (¬ asleep → now ≠ it.state → evaluateItem s i = match now with
       | .waiting => u
       | .coming => found .itemComing
       | .due => found .itemDue
       | .overdue => found .itemOverdue)) ∧
  (∀ (s : State) (t : Tid) (b : SetId) (old new : Grade) (i : ItemId) (it : Item) (l : Link),
     s.items.get i = some it → it.link = some l → it.turbine = t → l.bandSet = b →
     let reaches (g : Grade) := g = .alarm ∨ (g = .alert ∧ l.alarm = false)
     let rise := reaches new ∧ ¬ reaches old
     let asleep := it.basis = .days ∧ s.clock.state = .unset
     let due := min it.duePoint (min (basisValue s t it.basis + l.pullIn) 4294967295)
     let u (due : Nat) (st : LinkState) : State :=
       { s with items := put s.items i (some { it with duePoint := due, link := some { l with state := st } }) }
     let c := linkedChangeItem t b old new s i
     (rise → l.state ≠ .armed → c = s) ∧
     (rise → l.state = .armed → asleep → c = u it.duePoint .owed) ∧
     (rise → l.state = .armed → ¬ asleep → due = it.duePoint → c = u due .spent) ∧
     (rise → l.state = .armed → ¬ asleep → due ≠ it.duePoint →
       c = evaluateItem (raise (u due .spent) .itemPulledIn (some (tnum t)) (.item i)
         [vNat it.label, vNat it.duePoint, vNat due, vNat b.val, vNat (gradeCode new)]) i) ∧
     (¬ rise → new = .good → c = u it.duePoint .armed) ∧ (¬ rise → new ≠ .good → c = s))

/-- CLEAR ITEM empties its slot and replies DONE, READ ITEM replies DONE and changes nothing, both refuse a slot outside 0 to
95 with BAD_PARAMETER, and neither requests a checkpoint (R144; the order of the bytes in the reply is the model's reading of R194,
entry 24). -/
def Obligations.ClearAndReadItem : Prop :=
  ∀ (o : Origin) (s : State), accepts s o →
    (∀ i : ItemId,
      answersDone (.clearItem o i.val) s o 39 { s with items := put s.items i none } [] ∧
      answersDone (.readItem o i.val) s o 9 s (itemBytes s i) ∧ (s.items.get i = none → itemBytes s i = [1]) ∧
      (∀ it, s.items.get i = some it →
        itemBytes s i = [0] ++ u8 (tnum it.turbine) ++ u16 it.label ++ u8 (basisCode it.basis) ++ u32 it.interval ++
          u32 it.lead ++ u32 it.margin ++ u32 it.lastDone ++ u32 it.duePoint ++ noneOnes 4 it.signOff ++ linkBytes it.link ++
          u8 (itemStateCode it.state) ++ u32 (basisValue s it.turbine it.basis) ++ u32 (it.duePoint - it.lead) ++
          u32 (min (it.duePoint + it.margin) 4294967295) ++ u8 (gradeCode (itemLinkedGrade s it)))) ∧
    (∀ k, 96 ≤ k → answersRefused (.clearItem o k) s o 39 .badParameter 1 ∧
      answersRefused (.readItem o k) s o 9 .badParameter 1)

/-- SIGN OFF of an item of a turbine in service: last done is the present basis value, the due point that plus the interval,
the sign-off day today's, and its link ARMED exactly where the linked grade is GOOD, or ALERT under link grade ALARM; the
refusals come in R147's order (R147). -/
def Obligations.SignOffRestartsTheInterval : Prop :=
  ∀ (o : Origin) (s : State) (i : ItemId) (it : Item), accepts s o → s.items.get i = some it →
    ((s.turbines.get it.turbine).service = true → (it.basis ≠ .days ∨ s.clock.state ≠ .unset) →
      ∃ u it', answersDone (.signOff o i.val) s o 40 u [] ∧ u.items.get i = some it' ∧
        it'.lastDone = basisValue s it.turbine it.basis ∧
        it'.duePoint = min (basisValue s it.turbine it.basis + it.interval) 4294967295 ∧
        it'.signOff = some (if s.clock.state = .unset then 0 else s.clock.day) ∧
        (∀ l, it.link = some l → ∃ l', it'.link = some l' ∧
          (l'.state = .armed ↔ itemLinkedGrade s it = .good ∨ (itemLinkedGrade s it = .alert ∧ l.alarm = true)) ∧
          (l'.state ≠ .armed → l'.state = .spent)) ∧
        (∀ j, j ≠ i → u.items.get j = s.items.get j) ∧ u.usage = s.usage ∧ u.clock = s.clock ∧
        (s.store.state = .idle → ∃ r, u.store.state = .writing 0 r) ∧ (s.store.state = .absent → u.store = s.store)) ∧
    ((s.turbines.get it.turbine).service = false → answersRefused (.signOff o i.val) s o 40 .notInService 0) ∧
    ((s.turbines.get it.turbine).service = true → it.basis = .days → s.clock.state = .unset →
      answersRefused (.signOff o i.val) s o 40 .clockUnset 0)

/-- A checkpoint moment of the clock and the interval timer's expiry request a checkpoint: in IDLE and FAULTED a write begins at
record 0, in WRITING the pending flag is set, in ABSENT nothing is requested; the interval timer is loaded again (R133,
R150, R151, R152). -/
def Obligations.CheckpointsAreRequested : Prop :=
  ∀ s : State, s.standing = .active →
    (s.clock.checkpointDue = true →
      ∃ u, exec .checkpointHour s = .next (settle u) ∧ u.clock = { s.clock with checkpointDue := false } ∧
        u.store.timer = s.store.timer ∧ u = { s with clock := u.clock, store := u.store, cmd := u.cmd } ∧
        (s.store.state = .idle ∨ s.store.state = .faulted →
          u.store.state = .writing 0 .header ∧ u.store.started = min (s.store.started + 1) 4294967295) ∧
        (∀ k r, s.store.state = .writing k r → u.store = { s.store with pending := true } ∧ u.cmd = s.cmd) ∧
        (s.store.state = .absent → u.store = s.store ∧ u.cmd = s.cmd)) ∧
    (s.store.timer = some 0 →
      ∃ u, exec .checkpointIntervalExpiry s = .next (settle u) ∧
        u.store.timer = loadTimer (s.active.settings.ckptInterval * 36000) ∧
        u = { s with store := u.store, cmd := u.cmd } ∧
        (s.store.state = .idle ∨ s.store.state = .faulted → u.store.state = .writing 0 .header) ∧
        (∀ k r, s.store.state = .writing k r → u.store.pending = true ∧ u.store.state = .writing k r))

/-- STORE_RECORD_WRITTEN: a verified record before the last enters the image and the next record is read from its owners; the last
one completes the write, clears the fault-raised flag, raising STORE_OK where it was set, and leaves the state IDLE; a record
that does not verify ends the write with the failed position, raises STORE_FAULT where the flag was not set, sets it and leaves
the state FAULTED (R151, R152, R153). Where a write is pending, the next one begins at record 0 at once in place of either state
(R152). A SAVE COUNTERS that waits on the ended write is answered, DONE or STORE_FAULT with the position, and one that waits on
the pending write moves to the write that begins (R154). That the finding comes before that reply is the model's choice (entry
17). -/
def Obligations.StoreWritesRecordByRecord : Prop :=
  (∀ (s : State) (pos : Nat) (r : StoreRecord), s.standing = .active → s.store.state = .writing pos r →
    (pos < 120 →
      ∃ u, exec (.storeRecordWritten .verified) s = .next (settle u) ∧ u.image = imageWith s.image r ∧
        u.store = { s.store with state := .writing (pos + 1) (readRecord s (pos + 1)) } ∧
        u = { s with image := u.image, store := u.store }) ∧
    (pos = 120 → s.store.pending = false →
      ∃ u, exec (.storeRecordWritten .verified) s = .next (settle u) ∧ u.image = imageWith s.image r ∧
        u.store.state = .idle ∧ u.store.completed = min (s.store.completed + 1) 4294967295 ∧ u.store.faultRaised = false ∧
        u.items = s.items ∧ u.usage = s.usage ∧ (∀ o, s.cmd = .save o true → u.cmd = .ready)) ∧
    (s.store.pending = false → ∀ left,
      ∃ u, exec (.storeRecordWritten (.failed left)) s = .next (settle u) ∧ u.image = imageTorn s.image r left ∧
        u.store.state = .faulted ∧ u.store.failed = min (s.store.failed + 1) 4294967295 ∧ u.store.failedPos = some pos ∧
        u.store.faultRaised = true ∧ u.items = s.items ∧ u.usage = s.usage ∧
        (∀ o, s.cmd = .save o true → u.cmd = .ready))) ∧
  (∀ (s : State) (pos : Nat) (r : StoreRecord), s.standing = .active → s.store.state = .writing pos r →
    let ends (w : WriteResult) (u : State) (st : StoreState) (moved : UnitState) : Prop :=
      (s.store.pending = false →
        exec (.storeRecordWritten w) s = .next (settle { u with store := { u.store with state := st } })) ∧
      (s.store.pending = true →
        exec (.storeRecordWritten w) s = .next (settle { u with
          store := { u.store with
            pending := false, state := .writing 0 .header, started := min (s.store.started + 1) 4294967295 },
          cmd := moved }))
    let written : State := { s with
      image := imageWith s.image r,
      store := { s.store with completed := min (s.store.completed + 1) 4294967295, faultRaised := false } }
    let good : State := if s.store.faultRaised then raise written .storeOk none .none [vNat s.store.failed] else written
    let failures := min (s.store.failed + 1) 4294967295
    let torn (left : TornRecord) : State := { s with
      image := imageTorn s.image r left,
      store := { s.store with failed := failures, failedPos := some pos, faultRaised := true } }
    let bad (left : TornRecord) : State :=
      if s.store.faultRaised then torn left else raise (torn left) .storeFault none .none [vNat pos, vNat failures]
    (pos = 120 →
      (∀ o, s.cmd = .save o true → ends .verified (replyDone { good with cmd := .ready } o 48 []) .idle .ready) ∧
      (∀ o, s.cmd = .save o false → ends .verified good .idle (.save o true)) ∧
      ((∀ o b, s.cmd ≠ .save o b) → ends .verified good .idle s.cmd)) ∧
    (∀ left,
      (∀ o, s.cmd = .save o true →
        ends (.failed left) (replyRefused { bad left with cmd := .ready } o 48 .storeFault pos) .faulted .ready) ∧
      (∀ o, s.cmd = .save o false → ends (.failed left) (bad left) .faulted (.save o true)) ∧
      ((∀ o b, s.cmd ≠ .save o b) → ends (.failed left) (bad left) .faulted s.cmd)))

/-- SAVE COUNTERS: refused STORE_ABSENT in ABSENT; otherwise the unit is WORKING without a reply yet: from IDLE or FAULTED on
the write that starts at once, from WRITING on the pending write (R154). -/
def Obligations.SaveCountersWaitsOnAWrite : Prop :=
  ∀ (o : Origin) (s : State), accepts s o →
    (s.store.state = .absent → answersRefused (.saveCounters o) s o 48 .storeAbsent 0) ∧
    (s.store.state = .idle ∨ s.store.state = .faulted →
      exec (.saveCounters o) s = .next (settle { s with
        cmd := .save o true,
        store := { s.store with state := .writing 0 .header, started := min (s.store.started + 1) 4294967295 } })) ∧
    (∀ k r, s.store.state = .writing k r →
      exec (.saveCounters o) s = .next (settle { s with cmd := .save o false, store := { s.store with pending := true } }))

/-! ## Findings, advice and RESTART (chapters 10 and 12) -/

/-- A finding taken by the Finding Unit (R158, R160 to R162): a masked one leaves the unit as it is; a coalescing one takes the
place of the record of its kind and subject, with a new number; any other that meets room is placed at the end with the next
number. At a full queue an INFO or NOTICE finding, and any finding where no INFO or NOTICE record stands, is discarded
without a number and counted; an ALERT or ALARM evicts the oldest INFO or NOTICE record, which counts as lost, and is placed
at the end; that an evicted FINDINGS_LOST gives its count back and 1 more is the model's reading
(DEDUCED, entry 16).
FINDINGS_LOST: where a record has left and findings were lost, its mask is ON and there is room, it is placed at the end with
the lost count, which becomes 0; otherwise nothing changes. -/
def Obligations.FindingsAreTaken : Prop :=
  (∀ (st : Stamp) (fu : FindingUnit) (f : Finding),
     (maskOn fu f.kind = false → takeFinding st fu f = fu) ∧
     (maskOn fu f.kind = true → coalescing f.kind = true → ∀ pre g post, fu.queue = pre ++ g :: post →
       g.kind = f.kind ∧ g.turbine = f.turbine ∧ g.subject = f.subject →
       (∀ x ∈ pre, ¬ (x.kind = f.kind ∧ x.turbine = f.turbine ∧ x.subject = f.subject)) →
       takeFinding st fu f =
         { fu with queue := pre ++ { f with seq := fu.nextSeq } :: post, nextSeq := (fu.nextSeq + 1) % 65536 }) ∧
     (maskOn fu f.kind = true →
       coalescing f.kind = false ∨ (∀ x ∈ fu.queue, ¬ (x.kind = f.kind ∧ x.turbine = f.turbine ∧ x.subject = f.subject)) →
       (fu.queue.length < 64 →
         takeFinding st fu f =
           { fu with queue := fu.queue ++ [{ f with seq := fu.nextSeq }], nextSeq := (fu.nextSeq + 1) % 65536 }) ∧
       (64 ≤ fu.queue.length → severity f.kind = .info ∨ severity f.kind = .notice →
         takeFinding st fu f = { fu with lost := min (fu.lost + 1) 4294967295 }) ∧
       (64 ≤ fu.queue.length → (∀ x ∈ fu.queue, severity x.kind = .alert ∨ severity x.kind = .alarm) →
         takeFinding st fu f = { fu with lost := min (fu.lost + 1) 4294967295 }) ∧
       (64 ≤ fu.queue.length → severity f.kind = .alert ∨ severity f.kind = .alarm →
         ∀ pre g post, fu.queue = pre ++ g :: post → severity g.kind = .info ∨ severity g.kind = .notice →
           (∀ x ∈ pre, severity x.kind = .alert ∨ severity x.kind = .alarm) →
           takeFinding st fu f =
             { fu with queue := pre ++ post ++ [{ f with seq := fu.nextSeq }], nextSeq := (fu.nextSeq + 1) % 65536,
                       lost := min (fu.lost + (lostCarried g + 1)) 4294967295 } ∧
           (g.kind ≠ .findingsLost → lostCarried g = 0) ∧
           (∀ v, g.kind = .findingsLost → g.values = [v] → lostCarried g = v.toNat)))) ∧
  (∀ (st : Stamp) (fu : FindingUnit),
     (0 < fu.lost → maskOn fu .findingsLost = true → fu.queue.length < 64 →
       checkLost st fu = { fu with
         queue := fu.queue ++ [{ seq := fu.nextSeq, kind := .findingsLost, turbine := none, subject := .none, day := st.day,
                                 tenths := st.tenths, inService := false, unset := st.unset, values := [vNat fu.lost] }],
         nextSeq := (fu.nextSeq + 1) % 65536, lost := 0 }) ∧
     (fu.lost = 0 ∨ maskOn fu .findingsLost = false ∨ 64 ≤ fu.queue.length → checkLost st fu = fu))

/-- SET FINDING MASK to the value in force changes nothing; to OFF it removes every queued record of the kind and keeps the others in
their order, and where one left, the lost count is looked at; to ON the queue stays, and with FINDINGS_LOST unmasked the lost
count is looked at; every other mask stays (R162, R163). -/
def Obligations.SetFindingMaskMasks : Prop :=
  (∀ (o : Origin) (s : State) (k : FindingKind) (on : Bool), accepts s o →
     (maskOn s.findings k = on → answersDone (.setFindingMask o (kindCode k) (flagCode on)) s o 49 s []) ∧
     (maskOn s.findings k ≠ on →
       ∃ u, answersDone (.setFindingMask o (kindCode k) (flagCode on)) s o 49 u [] ∧
         (∀ j, u.findings.masks.get j = if j = kindIndex k then on else s.findings.masks.get j) ∧
         (on = false → ∀ f ∈ u.findings.queue, f.kind ≠ k) ∧
         u = { s with findings := u.findings, portD := u.portD })) ∧
  (∀ (o : Origin) (s : State) (k : FindingKind) (on : Bool), accepts s o →
     let fu := s.findings
     let masks := put fu.masks (kindIndex k) on
     let c : Instr := .setFindingMask o (kindCode k) (flagCode on)
     (maskOn fu k = on → answersDone c s o 49 s []) ∧
     (maskOn fu k ≠ on → on = false → (∀ f ∈ fu.queue, f.kind ≠ k) →
       answersDone c s o 49 (findingLook { s with findings := { fu with masks := masks } }) []) ∧
     (maskOn fu k ≠ on → on = false → (∃ f ∈ fu.queue, f.kind = k) →
       answersDone c s o 49 (findingLook { s with
         findings := checkLost (stampOf s.clock) { fu with masks := masks, queue := fu.queue.filter (fun f => f.kind ≠ k) } })
         []) ∧
     (maskOn fu k ≠ on → on = true → k ≠ .findingsLost →
       answersDone c s o 49 (findingLook { s with findings := { fu with masks := masks } }) []) ∧
     (maskOn fu k ≠ on → on = true → k = .findingsLost →
       answersDone c s o 49 (findingLook { s with findings := checkLost (stampOf s.clock) { fu with masks := masks } }) []))

/-- ADVICE MODE to the mode in force changes nothing; to SILENT every turbine's advice is NONE with limit 100; to ACTIVE it is
HOLD under a hold request, else CURTAIL under a curtail request, else NONE, and NONE in service; the requests are not
touched (R167, R171).
REFRESH_EXPIRY offers an ADVICE frame with the unchanged advice and loads the timer again: no blanking, no block
discarded, no finding (R170). The frame replaces one of the turbine that waits, is placed at the end where there is room and
none is owed, or leaves the turbine owed one (R169).
A change of a turbine's advice or limit opens or closes the curtailed gate, discards the block under ADVICE, requests blanking,
offers an ADVICE frame, loads or stops the refresh timer and raises ADVICE_CHANGED; where both are as they were nothing happens
(R168). -/
def Obligations.AdviceFollowsModeAndRefresh : Prop :=
  (∀ (o : Origin) (s : State) (active : Bool), accepts s o →
     (s.advice.active = active → answersDone (.adviceMode o (modeCode active)) s o 50 s []) ∧
     (s.advice.active ≠ active →
       ∃ u, answersDone (.adviceMode o (modeCode active)) s o 50 u [] ∧ u.advice.active = active ∧
         (∀ t, (u.advice.recs.get t).advice =
           if (s.turbines.get t).service = true ∨ active = false then .none
           else if holdRequested s t = true then .hold else if t ∈ s.harm.grid.requests then .curtail else .none) ∧
         (∀ t, (u.advice.recs.get t).limit =
           if (u.advice.recs.get t).advice = .none then 100
           else if (u.advice.recs.get t).advice = .hold then 0 else 100 - s.active.settings.reduction) ∧
         u.harm = s.harm ∧ u.streams = s.streams ∧ u.items = s.items)) ∧
  (∀ (s : State) (t : Tid), s.standing = .active → (s.advice.recs.get t).refresh = some 0 →
     ∃ u, exec (.refreshExpiry t) s = .next (settle u) ∧
       (u.advice.recs.get t).refresh = loadTimer (s.active.settings.refresh * 10) ∧
       (u.advice.recs.get t).advice = (s.advice.recs.get t).advice ∧ (u.advice.recs.get t).limit = (s.advice.recs.get t).limit ∧
       (∀ x, x ≠ t → u.advice.recs.get x = s.advice.recs.get x) ∧ u = { s with portU := u.portU, advice := u.advice } ∧
       u.portU = { s.portU with localQ := offeredQueue s t } ∧
       (∀ pre g post, s.portU.localQ = pre ++ g :: post → g.what = .advice t → (∀ x ∈ pre, x.what ≠ .advice t) →
         u.portU.localQ = pre ++ adviceFrame s t :: post) ∧
       ((∀ x ∈ s.portU.localQ, x.what ≠ .advice t) → (s.advice.recs.get t).owed = false → s.portU.localQ.length < 16 →
         u.portU.localQ = s.portU.localQ ++ [adviceFrame s t]) ∧
       ((∀ x ∈ s.portU.localQ, x.what ≠ .advice t) → (s.advice.recs.get t).owed = true ∨ 16 ≤ s.portU.localQ.length →
         u.portU = s.portU ∧ (u.advice.recs.get t).owed = true)) ∧
  (∀ (s : State) (t : Tid),
     let a : Advice :=
       if (s.turbines.get t).service = true ∨ s.advice.active = false then .none
       else if (s.ice.get t).state = .iced ∧ s.active.settings.holdOnIce = true then .hold
       else if t ∈ s.harm.grid.requests then .curtail else .none
     let l := if a = .none then 100 else if a = .hold then 0 else 100 - s.active.settings.reduction
     let old := s.advice.recs.get t
     let x := s.ice.get t
     let cause := blockCauseIndex .advice
     (a = old.advice → l = old.limit → computeAdvice s t = s) ∧
     (a ≠ old.advice ∨ l ≠ old.limit →
       let gated : Usage := { s.usage.get t with curtailed := { (s.usage.get t).curtailed with gate := decide (a ≠ .none) } }
       let told : State := { s with
         advice := { s.advice with recs := put s.advice.recs t { old with advice := a, limit := l } },
         usage := if (old.advice = .none ↔ a = .none) then s.usage else put s.usage t gated,
         ice := put s.ice t { x with
           blockCount := 0, blockSum := 0,
           discarded := if 0 < x.blockCount then put x.discarded cause (min (x.discarded.get cause + 1) 4294967295)
             else x.discarded },
         turbines := put s.turbines t { s.turbines.get t with blanking := loadTimer s.active.settings.blankingTime } }
       let u := offerAdvice (vibBlanking told t) t
       computeAdvice s t = raise
         { u with advice := { u.advice with recs := put u.advice.recs t { u.advice.recs.get t with
             refresh := if a = .none then none else loadTimer (s.active.settings.refresh * 10) } } }
         .adviceChanged (some (tnum t)) .none [vNat (adviceCode old.advice), vNat (adviceCode a), vNat l]))

/-- RESTART is accepted with the reply DONE and the unit WORKING until that reply has gone, which it has at once where the
local queue was full; nothing else changes (R191).
RESTART_EXECUTE once the reply has gone: active and staged tables are empty with each generation up by 1, every slot is
EMPTY with its instance kept, speed records and engine are at their power-on values, the grid is NORMAL with no request, the
ice states, the clock, the main counters, the store, the Part Settings, the masks and the queues of the ports' transit side
are kept, the ports' counts are 0 and the unit is READY (R191 and the rules its table names). That the Stream Table's
generation wraps after 65,535 like the others is the model's choice (entry 43). -/
def Obligations.RestartClearsTheAnalysis : Prop :=
  (∀ (o : Origin) (s : State), accepts s o →
     exec (.restart o) s = .next (settle { replyAs s .restartReply o 51 none [] with
       cmd := .restart (decide (16 ≤ (portOf s o.port).localQ.length)) })) ∧
  (∀ s : State, s.standing = .active → s.cmd = .restart true →
     ∃ t, exec .restartExecute s = .next t ∧ t.cmd = .ready ∧ t.standing = .active ∧
       (∀ i, t.streams.slots.get i = { Slot.reset with inst := (s.streams.slots.get i).inst }) ∧
       t.streams.unknown = 0 ∧ t.streams.mismatched = 0 ∧ t.streams.gen = (s.streams.gen + 1) % 65536 ∧
       (∀ x, t.speeds.get x = SpeedRec.reset) ∧ t.engine = Engine.reset ∧
       t.active.bands = Active.reset.bands ∧ t.active.limits = Limits.reset ∧ t.active.curves = Curves.reset ∧
       t.active.bandGen = (s.active.bandGen + 1) % 65536 ∧ t.active.limitGen = (s.active.limitGen + 1) % 65536 ∧
       t.active.curveGen = (s.active.curveGen + 1) % 65536 ∧ t.active.settings = s.active.settings ∧
       t.staged = { Staged.reset with settings := s.active.settings } ∧ (∀ i, t.vib.recs.get i = none) ∧
       t.harm = HarmWatch.reset ∧ (∀ x, (t.ice.get x).state = (s.ice.get x).state ∧ (t.ice.get x).blockCount = 0) ∧
       t.clock = s.clock ∧ (∀ x, (t.usage.get x).main = (s.usage.get x).main) ∧ t.store = s.store ∧ t.image = s.image ∧
       t.findings.masks = s.findings.masks ∧ t.advice.active = s.advice.active ∧ t.portU.transit = s.portU.transit ∧
       t.portD.transit = s.portD.transit ∧ t.portU.overflow = 0 ∧ t.portD.overflow = 0 ∧
       t.portU.badCheck = 0 ∧ t.portD.badCheck = 0 ∧ t.portU.repliesDropped = 0 ∧ t.portD.repliesDropped = 0 ∧ t.node = s.node ∧ t.umgt = s.umgt)

end Statements
end

