-- ==== Sys2Proof/Laws/State.lean ====
section
/-! SUPPORT. Laws/State.lean: each basic update of the state, field by field: which fields it leaves alone, and what it
writes. -/

namespace Sys2Proof.Machine

/-! ## setPort -/

@[simp] theorem setPort_standing (s : State) (p : Port) (r : PortRec) : (setPort s p r).standing = s.standing := rfl
@[simp] theorem setPort_node (s : State) (p : Port) (r : PortRec) : (setPort s p r).node = s.node := rfl
@[simp] theorem setPort_umgt (s : State) (p : Port) (r : PortRec) : (setPort s p r).umgt = s.umgt := rfl
@[simp] theorem setPort_replySeq (s : State) (p : Port) (r : PortRec) : (setPort s p r).replySeq = s.replySeq := rfl
@[simp] theorem setPort_streams (s : State) (p : Port) (r : PortRec) : (setPort s p r).streams = s.streams := rfl
@[simp] theorem setPort_turbines (s : State) (p : Port) (r : PortRec) : (setPort s p r).turbines = s.turbines := rfl
@[simp] theorem setPort_speeds (s : State) (p : Port) (r : PortRec) : (setPort s p r).speeds = s.speeds := rfl
@[simp] theorem setPort_engine (s : State) (p : Port) (r : PortRec) : (setPort s p r).engine = s.engine := rfl
@[simp] theorem setPort_active (s : State) (p : Port) (r : PortRec) : (setPort s p r).active = s.active := rfl
@[simp] theorem setPort_staged (s : State) (p : Port) (r : PortRec) : (setPort s p r).staged = s.staged := rfl
@[simp] theorem setPort_vib (s : State) (p : Port) (r : PortRec) : (setPort s p r).vib = s.vib := rfl
@[simp] theorem setPort_harm (s : State) (p : Port) (r : PortRec) : (setPort s p r).harm = s.harm := rfl
@[simp] theorem setPort_ice (s : State) (p : Port) (r : PortRec) : (setPort s p r).ice = s.ice := rfl
@[simp] theorem setPort_clock (s : State) (p : Port) (r : PortRec) : (setPort s p r).clock = s.clock := rfl
@[simp] theorem setPort_usage (s : State) (p : Port) (r : PortRec) : (setPort s p r).usage = s.usage := rfl
@[simp] theorem setPort_items (s : State) (p : Port) (r : PortRec) : (setPort s p r).items = s.items := rfl
@[simp] theorem setPort_store (s : State) (p : Port) (r : PortRec) : (setPort s p r).store = s.store := rfl
@[simp] theorem setPort_image (s : State) (p : Port) (r : PortRec) : (setPort s p r).image = s.image := rfl
@[simp] theorem setPort_findings (s : State) (p : Port) (r : PortRec) : (setPort s p r).findings = s.findings := rfl
@[simp] theorem setPort_advice (s : State) (p : Port) (r : PortRec) : (setPort s p r).advice = s.advice := rfl
@[simp] theorem setPort_cmd (s : State) (p : Port) (r : PortRec) : (setPort s p r).cmd = s.cmd := rfl
@[simp] theorem setPort_pending (s : State) (p : Port) (r : PortRec) : (setPort s p r).pending = s.pending := rfl

/-! ## setSlot -/

@[simp] theorem setSlot_standing (s : State) (i : SlotId) (x : Slot) : (setSlot s i x).standing = s.standing := rfl
@[simp] theorem setSlot_node (s : State) (i : SlotId) (x : Slot) : (setSlot s i x).node = s.node := rfl
@[simp] theorem setSlot_umgt (s : State) (i : SlotId) (x : Slot) : (setSlot s i x).umgt = s.umgt := rfl
@[simp] theorem setSlot_portU (s : State) (i : SlotId) (x : Slot) : (setSlot s i x).portU = s.portU := rfl
@[simp] theorem setSlot_portD (s : State) (i : SlotId) (x : Slot) : (setSlot s i x).portD = s.portD := rfl
@[simp] theorem setSlot_replySeq (s : State) (i : SlotId) (x : Slot) : (setSlot s i x).replySeq = s.replySeq := rfl
@[simp] theorem setSlot_turbines (s : State) (i : SlotId) (x : Slot) : (setSlot s i x).turbines = s.turbines := rfl
@[simp] theorem setSlot_speeds (s : State) (i : SlotId) (x : Slot) : (setSlot s i x).speeds = s.speeds := rfl
@[simp] theorem setSlot_engine (s : State) (i : SlotId) (x : Slot) : (setSlot s i x).engine = s.engine := rfl
@[simp] theorem setSlot_active (s : State) (i : SlotId) (x : Slot) : (setSlot s i x).active = s.active := rfl
@[simp] theorem setSlot_staged (s : State) (i : SlotId) (x : Slot) : (setSlot s i x).staged = s.staged := rfl
@[simp] theorem setSlot_vib (s : State) (i : SlotId) (x : Slot) : (setSlot s i x).vib = s.vib := rfl
@[simp] theorem setSlot_harm (s : State) (i : SlotId) (x : Slot) : (setSlot s i x).harm = s.harm := rfl
@[simp] theorem setSlot_ice (s : State) (i : SlotId) (x : Slot) : (setSlot s i x).ice = s.ice := rfl
@[simp] theorem setSlot_clock (s : State) (i : SlotId) (x : Slot) : (setSlot s i x).clock = s.clock := rfl
@[simp] theorem setSlot_usage (s : State) (i : SlotId) (x : Slot) : (setSlot s i x).usage = s.usage := rfl
@[simp] theorem setSlot_items (s : State) (i : SlotId) (x : Slot) : (setSlot s i x).items = s.items := rfl
@[simp] theorem setSlot_store (s : State) (i : SlotId) (x : Slot) : (setSlot s i x).store = s.store := rfl
@[simp] theorem setSlot_image (s : State) (i : SlotId) (x : Slot) : (setSlot s i x).image = s.image := rfl
@[simp] theorem setSlot_findings (s : State) (i : SlotId) (x : Slot) : (setSlot s i x).findings = s.findings := rfl
@[simp] theorem setSlot_advice (s : State) (i : SlotId) (x : Slot) : (setSlot s i x).advice = s.advice := rfl
@[simp] theorem setSlot_cmd (s : State) (i : SlotId) (x : Slot) : (setSlot s i x).cmd = s.cmd := rfl
@[simp] theorem setSlot_pending (s : State) (i : SlotId) (x : Slot) : (setSlot s i x).pending = s.pending := rfl

/-! ## setVib -/

@[simp] theorem setVib_standing (s : State) (i : SlotId) (r : Option VibRec) : (setVib s i r).standing = s.standing := rfl
@[simp] theorem setVib_node (s : State) (i : SlotId) (r : Option VibRec) : (setVib s i r).node = s.node := rfl
@[simp] theorem setVib_umgt (s : State) (i : SlotId) (r : Option VibRec) : (setVib s i r).umgt = s.umgt := rfl
@[simp] theorem setVib_portU (s : State) (i : SlotId) (r : Option VibRec) : (setVib s i r).portU = s.portU := rfl
@[simp] theorem setVib_portD (s : State) (i : SlotId) (r : Option VibRec) : (setVib s i r).portD = s.portD := rfl
@[simp] theorem setVib_replySeq (s : State) (i : SlotId) (r : Option VibRec) : (setVib s i r).replySeq = s.replySeq := rfl
@[simp] theorem setVib_streams (s : State) (i : SlotId) (r : Option VibRec) : (setVib s i r).streams = s.streams := rfl
@[simp] theorem setVib_turbines (s : State) (i : SlotId) (r : Option VibRec) : (setVib s i r).turbines = s.turbines := rfl
@[simp] theorem setVib_speeds (s : State) (i : SlotId) (r : Option VibRec) : (setVib s i r).speeds = s.speeds := rfl
@[simp] theorem setVib_engine (s : State) (i : SlotId) (r : Option VibRec) : (setVib s i r).engine = s.engine := rfl
@[simp] theorem setVib_active (s : State) (i : SlotId) (r : Option VibRec) : (setVib s i r).active = s.active := rfl
@[simp] theorem setVib_staged (s : State) (i : SlotId) (r : Option VibRec) : (setVib s i r).staged = s.staged := rfl
@[simp] theorem setVib_harm (s : State) (i : SlotId) (r : Option VibRec) : (setVib s i r).harm = s.harm := rfl
@[simp] theorem setVib_ice (s : State) (i : SlotId) (r : Option VibRec) : (setVib s i r).ice = s.ice := rfl
@[simp] theorem setVib_clock (s : State) (i : SlotId) (r : Option VibRec) : (setVib s i r).clock = s.clock := rfl
@[simp] theorem setVib_usage (s : State) (i : SlotId) (r : Option VibRec) : (setVib s i r).usage = s.usage := rfl
@[simp] theorem setVib_items (s : State) (i : SlotId) (r : Option VibRec) : (setVib s i r).items = s.items := rfl
@[simp] theorem setVib_store (s : State) (i : SlotId) (r : Option VibRec) : (setVib s i r).store = s.store := rfl
@[simp] theorem setVib_image (s : State) (i : SlotId) (r : Option VibRec) : (setVib s i r).image = s.image := rfl
@[simp] theorem setVib_findings (s : State) (i : SlotId) (r : Option VibRec) : (setVib s i r).findings = s.findings := rfl
@[simp] theorem setVib_advice (s : State) (i : SlotId) (r : Option VibRec) : (setVib s i r).advice = s.advice := rfl
@[simp] theorem setVib_cmd (s : State) (i : SlotId) (r : Option VibRec) : (setVib s i r).cmd = s.cmd := rfl
@[simp] theorem setVib_pending (s : State) (i : SlotId) (r : Option VibRec) : (setVib s i r).pending = s.pending := rfl

/-! ## updVib -/

@[simp] theorem updVib_standing (s : State) (i : SlotId) (f : VibRec → VibRec) : (updVib s i f).standing = s.standing := rfl
@[simp] theorem updVib_node (s : State) (i : SlotId) (f : VibRec → VibRec) : (updVib s i f).node = s.node := rfl
@[simp] theorem updVib_umgt (s : State) (i : SlotId) (f : VibRec → VibRec) : (updVib s i f).umgt = s.umgt := rfl
@[simp] theorem updVib_portU (s : State) (i : SlotId) (f : VibRec → VibRec) : (updVib s i f).portU = s.portU := rfl
@[simp] theorem updVib_portD (s : State) (i : SlotId) (f : VibRec → VibRec) : (updVib s i f).portD = s.portD := rfl
@[simp] theorem updVib_replySeq (s : State) (i : SlotId) (f : VibRec → VibRec) : (updVib s i f).replySeq = s.replySeq := rfl
@[simp] theorem updVib_streams (s : State) (i : SlotId) (f : VibRec → VibRec) : (updVib s i f).streams = s.streams := rfl
@[simp] theorem updVib_turbines (s : State) (i : SlotId) (f : VibRec → VibRec) : (updVib s i f).turbines = s.turbines := rfl
@[simp] theorem updVib_speeds (s : State) (i : SlotId) (f : VibRec → VibRec) : (updVib s i f).speeds = s.speeds := rfl
@[simp] theorem updVib_engine (s : State) (i : SlotId) (f : VibRec → VibRec) : (updVib s i f).engine = s.engine := rfl
@[simp] theorem updVib_active (s : State) (i : SlotId) (f : VibRec → VibRec) : (updVib s i f).active = s.active := rfl
@[simp] theorem updVib_staged (s : State) (i : SlotId) (f : VibRec → VibRec) : (updVib s i f).staged = s.staged := rfl
@[simp] theorem updVib_harm (s : State) (i : SlotId) (f : VibRec → VibRec) : (updVib s i f).harm = s.harm := rfl
@[simp] theorem updVib_ice (s : State) (i : SlotId) (f : VibRec → VibRec) : (updVib s i f).ice = s.ice := rfl
@[simp] theorem updVib_clock (s : State) (i : SlotId) (f : VibRec → VibRec) : (updVib s i f).clock = s.clock := rfl
@[simp] theorem updVib_usage (s : State) (i : SlotId) (f : VibRec → VibRec) : (updVib s i f).usage = s.usage := rfl
@[simp] theorem updVib_items (s : State) (i : SlotId) (f : VibRec → VibRec) : (updVib s i f).items = s.items := rfl
@[simp] theorem updVib_store (s : State) (i : SlotId) (f : VibRec → VibRec) : (updVib s i f).store = s.store := rfl
@[simp] theorem updVib_image (s : State) (i : SlotId) (f : VibRec → VibRec) : (updVib s i f).image = s.image := rfl
@[simp] theorem updVib_findings (s : State) (i : SlotId) (f : VibRec → VibRec) : (updVib s i f).findings = s.findings := rfl
@[simp] theorem updVib_advice (s : State) (i : SlotId) (f : VibRec → VibRec) : (updVib s i f).advice = s.advice := rfl
@[simp] theorem updVib_cmd (s : State) (i : SlotId) (f : VibRec → VibRec) : (updVib s i f).cmd = s.cmd := rfl
@[simp] theorem updVib_pending (s : State) (i : SlotId) (f : VibRec → VibRec) : (updVib s i f).pending = s.pending := rfl

/-! ## setHarm -/

@[simp] theorem setHarm_standing (s : State) (h : HarmWatch) : (setHarm s h).standing = s.standing := rfl
@[simp] theorem setHarm_node (s : State) (h : HarmWatch) : (setHarm s h).node = s.node := rfl
@[simp] theorem setHarm_umgt (s : State) (h : HarmWatch) : (setHarm s h).umgt = s.umgt := rfl
@[simp] theorem setHarm_portU (s : State) (h : HarmWatch) : (setHarm s h).portU = s.portU := rfl
@[simp] theorem setHarm_portD (s : State) (h : HarmWatch) : (setHarm s h).portD = s.portD := rfl
@[simp] theorem setHarm_replySeq (s : State) (h : HarmWatch) : (setHarm s h).replySeq = s.replySeq := rfl
@[simp] theorem setHarm_streams (s : State) (h : HarmWatch) : (setHarm s h).streams = s.streams := rfl
@[simp] theorem setHarm_turbines (s : State) (h : HarmWatch) : (setHarm s h).turbines = s.turbines := rfl
@[simp] theorem setHarm_speeds (s : State) (h : HarmWatch) : (setHarm s h).speeds = s.speeds := rfl
@[simp] theorem setHarm_engine (s : State) (h : HarmWatch) : (setHarm s h).engine = s.engine := rfl
@[simp] theorem setHarm_active (s : State) (h : HarmWatch) : (setHarm s h).active = s.active := rfl
@[simp] theorem setHarm_staged (s : State) (h : HarmWatch) : (setHarm s h).staged = s.staged := rfl
@[simp] theorem setHarm_vib (s : State) (h : HarmWatch) : (setHarm s h).vib = s.vib := rfl
@[simp] theorem setHarm_ice (s : State) (h : HarmWatch) : (setHarm s h).ice = s.ice := rfl
@[simp] theorem setHarm_clock (s : State) (h : HarmWatch) : (setHarm s h).clock = s.clock := rfl
@[simp] theorem setHarm_usage (s : State) (h : HarmWatch) : (setHarm s h).usage = s.usage := rfl
@[simp] theorem setHarm_items (s : State) (h : HarmWatch) : (setHarm s h).items = s.items := rfl
@[simp] theorem setHarm_store (s : State) (h : HarmWatch) : (setHarm s h).store = s.store := rfl
@[simp] theorem setHarm_image (s : State) (h : HarmWatch) : (setHarm s h).image = s.image := rfl
@[simp] theorem setHarm_findings (s : State) (h : HarmWatch) : (setHarm s h).findings = s.findings := rfl
@[simp] theorem setHarm_advice (s : State) (h : HarmWatch) : (setHarm s h).advice = s.advice := rfl
@[simp] theorem setHarm_cmd (s : State) (h : HarmWatch) : (setHarm s h).cmd = s.cmd := rfl
@[simp] theorem setHarm_pending (s : State) (h : HarmWatch) : (setHarm s h).pending = s.pending := rfl

/-! ## setGrid -/

@[simp] theorem setGrid_standing (s : State) (g : GridRec) : (setGrid s g).standing = s.standing := rfl
@[simp] theorem setGrid_node (s : State) (g : GridRec) : (setGrid s g).node = s.node := rfl
@[simp] theorem setGrid_umgt (s : State) (g : GridRec) : (setGrid s g).umgt = s.umgt := rfl
@[simp] theorem setGrid_portU (s : State) (g : GridRec) : (setGrid s g).portU = s.portU := rfl
@[simp] theorem setGrid_portD (s : State) (g : GridRec) : (setGrid s g).portD = s.portD := rfl
@[simp] theorem setGrid_replySeq (s : State) (g : GridRec) : (setGrid s g).replySeq = s.replySeq := rfl
@[simp] theorem setGrid_streams (s : State) (g : GridRec) : (setGrid s g).streams = s.streams := rfl
@[simp] theorem setGrid_turbines (s : State) (g : GridRec) : (setGrid s g).turbines = s.turbines := rfl
@[simp] theorem setGrid_speeds (s : State) (g : GridRec) : (setGrid s g).speeds = s.speeds := rfl
@[simp] theorem setGrid_engine (s : State) (g : GridRec) : (setGrid s g).engine = s.engine := rfl
@[simp] theorem setGrid_active (s : State) (g : GridRec) : (setGrid s g).active = s.active := rfl
@[simp] theorem setGrid_staged (s : State) (g : GridRec) : (setGrid s g).staged = s.staged := rfl
@[simp] theorem setGrid_vib (s : State) (g : GridRec) : (setGrid s g).vib = s.vib := rfl
@[simp] theorem setGrid_ice (s : State) (g : GridRec) : (setGrid s g).ice = s.ice := rfl
@[simp] theorem setGrid_clock (s : State) (g : GridRec) : (setGrid s g).clock = s.clock := rfl
@[simp] theorem setGrid_usage (s : State) (g : GridRec) : (setGrid s g).usage = s.usage := rfl
@[simp] theorem setGrid_items (s : State) (g : GridRec) : (setGrid s g).items = s.items := rfl
@[simp] theorem setGrid_store (s : State) (g : GridRec) : (setGrid s g).store = s.store := rfl
@[simp] theorem setGrid_image (s : State) (g : GridRec) : (setGrid s g).image = s.image := rfl
@[simp] theorem setGrid_findings (s : State) (g : GridRec) : (setGrid s g).findings = s.findings := rfl
@[simp] theorem setGrid_advice (s : State) (g : GridRec) : (setGrid s g).advice = s.advice := rfl
@[simp] theorem setGrid_cmd (s : State) (g : GridRec) : (setGrid s g).cmd = s.cmd := rfl
@[simp] theorem setGrid_pending (s : State) (g : GridRec) : (setGrid s g).pending = s.pending := rfl

/-! ## setStaged -/

@[simp] theorem setStaged_standing (s : State) (x : Staged) : (setStaged s x).standing = s.standing := rfl
@[simp] theorem setStaged_node (s : State) (x : Staged) : (setStaged s x).node = s.node := rfl
@[simp] theorem setStaged_umgt (s : State) (x : Staged) : (setStaged s x).umgt = s.umgt := rfl
@[simp] theorem setStaged_portU (s : State) (x : Staged) : (setStaged s x).portU = s.portU := rfl
@[simp] theorem setStaged_portD (s : State) (x : Staged) : (setStaged s x).portD = s.portD := rfl
@[simp] theorem setStaged_replySeq (s : State) (x : Staged) : (setStaged s x).replySeq = s.replySeq := rfl
@[simp] theorem setStaged_streams (s : State) (x : Staged) : (setStaged s x).streams = s.streams := rfl
@[simp] theorem setStaged_turbines (s : State) (x : Staged) : (setStaged s x).turbines = s.turbines := rfl
@[simp] theorem setStaged_speeds (s : State) (x : Staged) : (setStaged s x).speeds = s.speeds := rfl
@[simp] theorem setStaged_engine (s : State) (x : Staged) : (setStaged s x).engine = s.engine := rfl
@[simp] theorem setStaged_active (s : State) (x : Staged) : (setStaged s x).active = s.active := rfl
@[simp] theorem setStaged_vib (s : State) (x : Staged) : (setStaged s x).vib = s.vib := rfl
@[simp] theorem setStaged_harm (s : State) (x : Staged) : (setStaged s x).harm = s.harm := rfl
@[simp] theorem setStaged_ice (s : State) (x : Staged) : (setStaged s x).ice = s.ice := rfl
@[simp] theorem setStaged_clock (s : State) (x : Staged) : (setStaged s x).clock = s.clock := rfl
@[simp] theorem setStaged_usage (s : State) (x : Staged) : (setStaged s x).usage = s.usage := rfl
@[simp] theorem setStaged_items (s : State) (x : Staged) : (setStaged s x).items = s.items := rfl
@[simp] theorem setStaged_store (s : State) (x : Staged) : (setStaged s x).store = s.store := rfl
@[simp] theorem setStaged_image (s : State) (x : Staged) : (setStaged s x).image = s.image := rfl
@[simp] theorem setStaged_findings (s : State) (x : Staged) : (setStaged s x).findings = s.findings := rfl
@[simp] theorem setStaged_advice (s : State) (x : Staged) : (setStaged s x).advice = s.advice := rfl
@[simp] theorem setStaged_cmd (s : State) (x : Staged) : (setStaged s x).cmd = s.cmd := rfl
@[simp] theorem setStaged_pending (s : State) (x : Staged) : (setStaged s x).pending = s.pending := rfl

/-! ## updTurbine -/

@[simp] theorem updTurbine_standing (s : State) (t : Tid) (f : TurbineRec → TurbineRec) : (updTurbine s t f).standing = s.standing := rfl
@[simp] theorem updTurbine_node (s : State) (t : Tid) (f : TurbineRec → TurbineRec) : (updTurbine s t f).node = s.node := rfl
@[simp] theorem updTurbine_umgt (s : State) (t : Tid) (f : TurbineRec → TurbineRec) : (updTurbine s t f).umgt = s.umgt := rfl
@[simp] theorem updTurbine_portU (s : State) (t : Tid) (f : TurbineRec → TurbineRec) : (updTurbine s t f).portU = s.portU := rfl
@[simp] theorem updTurbine_portD (s : State) (t : Tid) (f : TurbineRec → TurbineRec) : (updTurbine s t f).portD = s.portD := rfl
@[simp] theorem updTurbine_replySeq (s : State) (t : Tid) (f : TurbineRec → TurbineRec) : (updTurbine s t f).replySeq = s.replySeq := rfl
@[simp] theorem updTurbine_streams (s : State) (t : Tid) (f : TurbineRec → TurbineRec) : (updTurbine s t f).streams = s.streams := rfl
@[simp] theorem updTurbine_speeds (s : State) (t : Tid) (f : TurbineRec → TurbineRec) : (updTurbine s t f).speeds = s.speeds := rfl
@[simp] theorem updTurbine_engine (s : State) (t : Tid) (f : TurbineRec → TurbineRec) : (updTurbine s t f).engine = s.engine := rfl
@[simp] theorem updTurbine_active (s : State) (t : Tid) (f : TurbineRec → TurbineRec) : (updTurbine s t f).active = s.active := rfl
@[simp] theorem updTurbine_staged (s : State) (t : Tid) (f : TurbineRec → TurbineRec) : (updTurbine s t f).staged = s.staged := rfl
@[simp] theorem updTurbine_vib (s : State) (t : Tid) (f : TurbineRec → TurbineRec) : (updTurbine s t f).vib = s.vib := rfl
@[simp] theorem updTurbine_harm (s : State) (t : Tid) (f : TurbineRec → TurbineRec) : (updTurbine s t f).harm = s.harm := rfl
@[simp] theorem updTurbine_ice (s : State) (t : Tid) (f : TurbineRec → TurbineRec) : (updTurbine s t f).ice = s.ice := rfl
@[simp] theorem updTurbine_clock (s : State) (t : Tid) (f : TurbineRec → TurbineRec) : (updTurbine s t f).clock = s.clock := rfl
@[simp] theorem updTurbine_usage (s : State) (t : Tid) (f : TurbineRec → TurbineRec) : (updTurbine s t f).usage = s.usage := rfl
@[simp] theorem updTurbine_items (s : State) (t : Tid) (f : TurbineRec → TurbineRec) : (updTurbine s t f).items = s.items := rfl
@[simp] theorem updTurbine_store (s : State) (t : Tid) (f : TurbineRec → TurbineRec) : (updTurbine s t f).store = s.store := rfl
@[simp] theorem updTurbine_image (s : State) (t : Tid) (f : TurbineRec → TurbineRec) : (updTurbine s t f).image = s.image := rfl
@[simp] theorem updTurbine_findings (s : State) (t : Tid) (f : TurbineRec → TurbineRec) : (updTurbine s t f).findings = s.findings := rfl
@[simp] theorem updTurbine_advice (s : State) (t : Tid) (f : TurbineRec → TurbineRec) : (updTurbine s t f).advice = s.advice := rfl
@[simp] theorem updTurbine_cmd (s : State) (t : Tid) (f : TurbineRec → TurbineRec) : (updTurbine s t f).cmd = s.cmd := rfl
@[simp] theorem updTurbine_pending (s : State) (t : Tid) (f : TurbineRec → TurbineRec) : (updTurbine s t f).pending = s.pending := rfl

/-! ## updSpeed -/

@[simp] theorem updSpeed_standing (s : State) (t : Tid) (f : SpeedRec → SpeedRec) : (updSpeed s t f).standing = s.standing := rfl
@[simp] theorem updSpeed_node (s : State) (t : Tid) (f : SpeedRec → SpeedRec) : (updSpeed s t f).node = s.node := rfl
@[simp] theorem updSpeed_umgt (s : State) (t : Tid) (f : SpeedRec → SpeedRec) : (updSpeed s t f).umgt = s.umgt := rfl
@[simp] theorem updSpeed_portU (s : State) (t : Tid) (f : SpeedRec → SpeedRec) : (updSpeed s t f).portU = s.portU := rfl
@[simp] theorem updSpeed_portD (s : State) (t : Tid) (f : SpeedRec → SpeedRec) : (updSpeed s t f).portD = s.portD := rfl
@[simp] theorem updSpeed_replySeq (s : State) (t : Tid) (f : SpeedRec → SpeedRec) : (updSpeed s t f).replySeq = s.replySeq := rfl
@[simp] theorem updSpeed_streams (s : State) (t : Tid) (f : SpeedRec → SpeedRec) : (updSpeed s t f).streams = s.streams := rfl
@[simp] theorem updSpeed_turbines (s : State) (t : Tid) (f : SpeedRec → SpeedRec) : (updSpeed s t f).turbines = s.turbines := rfl
@[simp] theorem updSpeed_engine (s : State) (t : Tid) (f : SpeedRec → SpeedRec) : (updSpeed s t f).engine = s.engine := rfl
@[simp] theorem updSpeed_active (s : State) (t : Tid) (f : SpeedRec → SpeedRec) : (updSpeed s t f).active = s.active := rfl
@[simp] theorem updSpeed_staged (s : State) (t : Tid) (f : SpeedRec → SpeedRec) : (updSpeed s t f).staged = s.staged := rfl
@[simp] theorem updSpeed_vib (s : State) (t : Tid) (f : SpeedRec → SpeedRec) : (updSpeed s t f).vib = s.vib := rfl
@[simp] theorem updSpeed_harm (s : State) (t : Tid) (f : SpeedRec → SpeedRec) : (updSpeed s t f).harm = s.harm := rfl
@[simp] theorem updSpeed_ice (s : State) (t : Tid) (f : SpeedRec → SpeedRec) : (updSpeed s t f).ice = s.ice := rfl
@[simp] theorem updSpeed_clock (s : State) (t : Tid) (f : SpeedRec → SpeedRec) : (updSpeed s t f).clock = s.clock := rfl
@[simp] theorem updSpeed_usage (s : State) (t : Tid) (f : SpeedRec → SpeedRec) : (updSpeed s t f).usage = s.usage := rfl
@[simp] theorem updSpeed_items (s : State) (t : Tid) (f : SpeedRec → SpeedRec) : (updSpeed s t f).items = s.items := rfl
@[simp] theorem updSpeed_store (s : State) (t : Tid) (f : SpeedRec → SpeedRec) : (updSpeed s t f).store = s.store := rfl
@[simp] theorem updSpeed_image (s : State) (t : Tid) (f : SpeedRec → SpeedRec) : (updSpeed s t f).image = s.image := rfl
@[simp] theorem updSpeed_findings (s : State) (t : Tid) (f : SpeedRec → SpeedRec) : (updSpeed s t f).findings = s.findings := rfl
@[simp] theorem updSpeed_advice (s : State) (t : Tid) (f : SpeedRec → SpeedRec) : (updSpeed s t f).advice = s.advice := rfl
@[simp] theorem updSpeed_cmd (s : State) (t : Tid) (f : SpeedRec → SpeedRec) : (updSpeed s t f).cmd = s.cmd := rfl
@[simp] theorem updSpeed_pending (s : State) (t : Tid) (f : SpeedRec → SpeedRec) : (updSpeed s t f).pending = s.pending := rfl

/-! ## updIce -/

@[simp] theorem updIce_standing (s : State) (t : Tid) (f : IceRec → IceRec) : (updIce s t f).standing = s.standing := rfl
@[simp] theorem updIce_node (s : State) (t : Tid) (f : IceRec → IceRec) : (updIce s t f).node = s.node := rfl
@[simp] theorem updIce_umgt (s : State) (t : Tid) (f : IceRec → IceRec) : (updIce s t f).umgt = s.umgt := rfl
@[simp] theorem updIce_portU (s : State) (t : Tid) (f : IceRec → IceRec) : (updIce s t f).portU = s.portU := rfl
@[simp] theorem updIce_portD (s : State) (t : Tid) (f : IceRec → IceRec) : (updIce s t f).portD = s.portD := rfl
@[simp] theorem updIce_replySeq (s : State) (t : Tid) (f : IceRec → IceRec) : (updIce s t f).replySeq = s.replySeq := rfl
@[simp] theorem updIce_streams (s : State) (t : Tid) (f : IceRec → IceRec) : (updIce s t f).streams = s.streams := rfl
@[simp] theorem updIce_turbines (s : State) (t : Tid) (f : IceRec → IceRec) : (updIce s t f).turbines = s.turbines := rfl
@[simp] theorem updIce_speeds (s : State) (t : Tid) (f : IceRec → IceRec) : (updIce s t f).speeds = s.speeds := rfl
@[simp] theorem updIce_engine (s : State) (t : Tid) (f : IceRec → IceRec) : (updIce s t f).engine = s.engine := rfl
@[simp] theorem updIce_active (s : State) (t : Tid) (f : IceRec → IceRec) : (updIce s t f).active = s.active := rfl
@[simp] theorem updIce_staged (s : State) (t : Tid) (f : IceRec → IceRec) : (updIce s t f).staged = s.staged := rfl
@[simp] theorem updIce_vib (s : State) (t : Tid) (f : IceRec → IceRec) : (updIce s t f).vib = s.vib := rfl
@[simp] theorem updIce_harm (s : State) (t : Tid) (f : IceRec → IceRec) : (updIce s t f).harm = s.harm := rfl
@[simp] theorem updIce_clock (s : State) (t : Tid) (f : IceRec → IceRec) : (updIce s t f).clock = s.clock := rfl
@[simp] theorem updIce_usage (s : State) (t : Tid) (f : IceRec → IceRec) : (updIce s t f).usage = s.usage := rfl
@[simp] theorem updIce_items (s : State) (t : Tid) (f : IceRec → IceRec) : (updIce s t f).items = s.items := rfl
@[simp] theorem updIce_store (s : State) (t : Tid) (f : IceRec → IceRec) : (updIce s t f).store = s.store := rfl
@[simp] theorem updIce_image (s : State) (t : Tid) (f : IceRec → IceRec) : (updIce s t f).image = s.image := rfl
@[simp] theorem updIce_findings (s : State) (t : Tid) (f : IceRec → IceRec) : (updIce s t f).findings = s.findings := rfl
@[simp] theorem updIce_advice (s : State) (t : Tid) (f : IceRec → IceRec) : (updIce s t f).advice = s.advice := rfl
@[simp] theorem updIce_cmd (s : State) (t : Tid) (f : IceRec → IceRec) : (updIce s t f).cmd = s.cmd := rfl
@[simp] theorem updIce_pending (s : State) (t : Tid) (f : IceRec → IceRec) : (updIce s t f).pending = s.pending := rfl

/-! ## updAdvice -/

@[simp] theorem updAdvice_standing (s : State) (t : Tid) (f : AdviceRec → AdviceRec) : (updAdvice s t f).standing = s.standing := rfl
@[simp] theorem updAdvice_node (s : State) (t : Tid) (f : AdviceRec → AdviceRec) : (updAdvice s t f).node = s.node := rfl
@[simp] theorem updAdvice_umgt (s : State) (t : Tid) (f : AdviceRec → AdviceRec) : (updAdvice s t f).umgt = s.umgt := rfl
@[simp] theorem updAdvice_portU (s : State) (t : Tid) (f : AdviceRec → AdviceRec) : (updAdvice s t f).portU = s.portU := rfl
@[simp] theorem updAdvice_portD (s : State) (t : Tid) (f : AdviceRec → AdviceRec) : (updAdvice s t f).portD = s.portD := rfl
@[simp] theorem updAdvice_replySeq (s : State) (t : Tid) (f : AdviceRec → AdviceRec) : (updAdvice s t f).replySeq = s.replySeq := rfl
@[simp] theorem updAdvice_streams (s : State) (t : Tid) (f : AdviceRec → AdviceRec) : (updAdvice s t f).streams = s.streams := rfl
@[simp] theorem updAdvice_turbines (s : State) (t : Tid) (f : AdviceRec → AdviceRec) : (updAdvice s t f).turbines = s.turbines := rfl
@[simp] theorem updAdvice_speeds (s : State) (t : Tid) (f : AdviceRec → AdviceRec) : (updAdvice s t f).speeds = s.speeds := rfl
@[simp] theorem updAdvice_engine (s : State) (t : Tid) (f : AdviceRec → AdviceRec) : (updAdvice s t f).engine = s.engine := rfl
@[simp] theorem updAdvice_active (s : State) (t : Tid) (f : AdviceRec → AdviceRec) : (updAdvice s t f).active = s.active := rfl
@[simp] theorem updAdvice_staged (s : State) (t : Tid) (f : AdviceRec → AdviceRec) : (updAdvice s t f).staged = s.staged := rfl
@[simp] theorem updAdvice_vib (s : State) (t : Tid) (f : AdviceRec → AdviceRec) : (updAdvice s t f).vib = s.vib := rfl
@[simp] theorem updAdvice_harm (s : State) (t : Tid) (f : AdviceRec → AdviceRec) : (updAdvice s t f).harm = s.harm := rfl
@[simp] theorem updAdvice_ice (s : State) (t : Tid) (f : AdviceRec → AdviceRec) : (updAdvice s t f).ice = s.ice := rfl
@[simp] theorem updAdvice_clock (s : State) (t : Tid) (f : AdviceRec → AdviceRec) : (updAdvice s t f).clock = s.clock := rfl
@[simp] theorem updAdvice_usage (s : State) (t : Tid) (f : AdviceRec → AdviceRec) : (updAdvice s t f).usage = s.usage := rfl
@[simp] theorem updAdvice_items (s : State) (t : Tid) (f : AdviceRec → AdviceRec) : (updAdvice s t f).items = s.items := rfl
@[simp] theorem updAdvice_store (s : State) (t : Tid) (f : AdviceRec → AdviceRec) : (updAdvice s t f).store = s.store := rfl
@[simp] theorem updAdvice_image (s : State) (t : Tid) (f : AdviceRec → AdviceRec) : (updAdvice s t f).image = s.image := rfl
@[simp] theorem updAdvice_findings (s : State) (t : Tid) (f : AdviceRec → AdviceRec) : (updAdvice s t f).findings = s.findings := rfl
@[simp] theorem updAdvice_cmd (s : State) (t : Tid) (f : AdviceRec → AdviceRec) : (updAdvice s t f).cmd = s.cmd := rfl
@[simp] theorem updAdvice_pending (s : State) (t : Tid) (f : AdviceRec → AdviceRec) : (updAdvice s t f).pending = s.pending := rfl

/-! ## setGate -/

@[simp] theorem setGate_standing (s : State) (t : Tid) (c : TimeCounter) (b : Bool) : (setGate s t c b).standing = s.standing := rfl
@[simp] theorem setGate_node (s : State) (t : Tid) (c : TimeCounter) (b : Bool) : (setGate s t c b).node = s.node := rfl
@[simp] theorem setGate_umgt (s : State) (t : Tid) (c : TimeCounter) (b : Bool) : (setGate s t c b).umgt = s.umgt := rfl
@[simp] theorem setGate_portU (s : State) (t : Tid) (c : TimeCounter) (b : Bool) : (setGate s t c b).portU = s.portU := rfl
@[simp] theorem setGate_portD (s : State) (t : Tid) (c : TimeCounter) (b : Bool) : (setGate s t c b).portD = s.portD := rfl
@[simp] theorem setGate_replySeq (s : State) (t : Tid) (c : TimeCounter) (b : Bool) : (setGate s t c b).replySeq = s.replySeq := rfl
@[simp] theorem setGate_streams (s : State) (t : Tid) (c : TimeCounter) (b : Bool) : (setGate s t c b).streams = s.streams := rfl
@[simp] theorem setGate_turbines (s : State) (t : Tid) (c : TimeCounter) (b : Bool) : (setGate s t c b).turbines = s.turbines := rfl
@[simp] theorem setGate_speeds (s : State) (t : Tid) (c : TimeCounter) (b : Bool) : (setGate s t c b).speeds = s.speeds := rfl
@[simp] theorem setGate_engine (s : State) (t : Tid) (c : TimeCounter) (b : Bool) : (setGate s t c b).engine = s.engine := rfl
@[simp] theorem setGate_active (s : State) (t : Tid) (c : TimeCounter) (b : Bool) : (setGate s t c b).active = s.active := rfl
@[simp] theorem setGate_staged (s : State) (t : Tid) (c : TimeCounter) (b : Bool) : (setGate s t c b).staged = s.staged := rfl
@[simp] theorem setGate_vib (s : State) (t : Tid) (c : TimeCounter) (b : Bool) : (setGate s t c b).vib = s.vib := rfl
@[simp] theorem setGate_harm (s : State) (t : Tid) (c : TimeCounter) (b : Bool) : (setGate s t c b).harm = s.harm := rfl
@[simp] theorem setGate_ice (s : State) (t : Tid) (c : TimeCounter) (b : Bool) : (setGate s t c b).ice = s.ice := rfl
@[simp] theorem setGate_clock (s : State) (t : Tid) (c : TimeCounter) (b : Bool) : (setGate s t c b).clock = s.clock := rfl
@[simp] theorem setGate_items (s : State) (t : Tid) (c : TimeCounter) (b : Bool) : (setGate s t c b).items = s.items := rfl
@[simp] theorem setGate_store (s : State) (t : Tid) (c : TimeCounter) (b : Bool) : (setGate s t c b).store = s.store := rfl
@[simp] theorem setGate_image (s : State) (t : Tid) (c : TimeCounter) (b : Bool) : (setGate s t c b).image = s.image := rfl
@[simp] theorem setGate_findings (s : State) (t : Tid) (c : TimeCounter) (b : Bool) : (setGate s t c b).findings = s.findings := rfl
@[simp] theorem setGate_advice (s : State) (t : Tid) (c : TimeCounter) (b : Bool) : (setGate s t c b).advice = s.advice := rfl
@[simp] theorem setGate_cmd (s : State) (t : Tid) (c : TimeCounter) (b : Bool) : (setGate s t c b).cmd = s.cmd := rfl
@[simp] theorem setGate_pending (s : State) (t : Tid) (c : TimeCounter) (b : Bool) : (setGate s t c b).pending = s.pending := rfl

/-! ## writeMain -/

@[simp] theorem writeMain_standing (s : State) (t : Tid) (b : Basis) (n : Nat) : (writeMain s t b n).standing = s.standing := rfl
@[simp] theorem writeMain_node (s : State) (t : Tid) (b : Basis) (n : Nat) : (writeMain s t b n).node = s.node := rfl
@[simp] theorem writeMain_umgt (s : State) (t : Tid) (b : Basis) (n : Nat) : (writeMain s t b n).umgt = s.umgt := rfl
@[simp] theorem writeMain_portU (s : State) (t : Tid) (b : Basis) (n : Nat) : (writeMain s t b n).portU = s.portU := rfl
@[simp] theorem writeMain_portD (s : State) (t : Tid) (b : Basis) (n : Nat) : (writeMain s t b n).portD = s.portD := rfl
@[simp] theorem writeMain_replySeq (s : State) (t : Tid) (b : Basis) (n : Nat) : (writeMain s t b n).replySeq = s.replySeq := rfl
@[simp] theorem writeMain_streams (s : State) (t : Tid) (b : Basis) (n : Nat) : (writeMain s t b n).streams = s.streams := rfl
@[simp] theorem writeMain_turbines (s : State) (t : Tid) (b : Basis) (n : Nat) : (writeMain s t b n).turbines = s.turbines := rfl
@[simp] theorem writeMain_speeds (s : State) (t : Tid) (b : Basis) (n : Nat) : (writeMain s t b n).speeds = s.speeds := rfl
@[simp] theorem writeMain_engine (s : State) (t : Tid) (b : Basis) (n : Nat) : (writeMain s t b n).engine = s.engine := rfl
@[simp] theorem writeMain_active (s : State) (t : Tid) (b : Basis) (n : Nat) : (writeMain s t b n).active = s.active := rfl
@[simp] theorem writeMain_staged (s : State) (t : Tid) (b : Basis) (n : Nat) : (writeMain s t b n).staged = s.staged := rfl
@[simp] theorem writeMain_vib (s : State) (t : Tid) (b : Basis) (n : Nat) : (writeMain s t b n).vib = s.vib := rfl
@[simp] theorem writeMain_harm (s : State) (t : Tid) (b : Basis) (n : Nat) : (writeMain s t b n).harm = s.harm := rfl
@[simp] theorem writeMain_ice (s : State) (t : Tid) (b : Basis) (n : Nat) : (writeMain s t b n).ice = s.ice := rfl
@[simp] theorem writeMain_clock (s : State) (t : Tid) (b : Basis) (n : Nat) : (writeMain s t b n).clock = s.clock := rfl
@[simp] theorem writeMain_items (s : State) (t : Tid) (b : Basis) (n : Nat) : (writeMain s t b n).items = s.items := rfl
@[simp] theorem writeMain_store (s : State) (t : Tid) (b : Basis) (n : Nat) : (writeMain s t b n).store = s.store := rfl
@[simp] theorem writeMain_image (s : State) (t : Tid) (b : Basis) (n : Nat) : (writeMain s t b n).image = s.image := rfl
@[simp] theorem writeMain_findings (s : State) (t : Tid) (b : Basis) (n : Nat) : (writeMain s t b n).findings = s.findings := rfl
@[simp] theorem writeMain_advice (s : State) (t : Tid) (b : Basis) (n : Nat) : (writeMain s t b n).advice = s.advice := rfl
@[simp] theorem writeMain_cmd (s : State) (t : Tid) (b : Basis) (n : Nat) : (writeMain s t b n).cmd = s.cmd := rfl
@[simp] theorem writeMain_pending (s : State) (t : Tid) (b : Basis) (n : Nat) : (writeMain s t b n).pending = s.pending := rfl

/-! ## discardBlock -/

@[simp] theorem discardBlock_standing (c : BlockCause) (s : State) (t : Tid) : (discardBlock c s t).standing = s.standing := rfl
@[simp] theorem discardBlock_node (c : BlockCause) (s : State) (t : Tid) : (discardBlock c s t).node = s.node := rfl
@[simp] theorem discardBlock_umgt (c : BlockCause) (s : State) (t : Tid) : (discardBlock c s t).umgt = s.umgt := rfl
@[simp] theorem discardBlock_portU (c : BlockCause) (s : State) (t : Tid) : (discardBlock c s t).portU = s.portU := rfl
@[simp] theorem discardBlock_portD (c : BlockCause) (s : State) (t : Tid) : (discardBlock c s t).portD = s.portD := rfl
@[simp] theorem discardBlock_replySeq (c : BlockCause) (s : State) (t : Tid) : (discardBlock c s t).replySeq = s.replySeq := rfl
@[simp] theorem discardBlock_streams (c : BlockCause) (s : State) (t : Tid) : (discardBlock c s t).streams = s.streams := rfl
@[simp] theorem discardBlock_turbines (c : BlockCause) (s : State) (t : Tid) : (discardBlock c s t).turbines = s.turbines := rfl
@[simp] theorem discardBlock_speeds (c : BlockCause) (s : State) (t : Tid) : (discardBlock c s t).speeds = s.speeds := rfl
@[simp] theorem discardBlock_engine (c : BlockCause) (s : State) (t : Tid) : (discardBlock c s t).engine = s.engine := rfl
@[simp] theorem discardBlock_active (c : BlockCause) (s : State) (t : Tid) : (discardBlock c s t).active = s.active := rfl
@[simp] theorem discardBlock_staged (c : BlockCause) (s : State) (t : Tid) : (discardBlock c s t).staged = s.staged := rfl
@[simp] theorem discardBlock_vib (c : BlockCause) (s : State) (t : Tid) : (discardBlock c s t).vib = s.vib := rfl
@[simp] theorem discardBlock_harm (c : BlockCause) (s : State) (t : Tid) : (discardBlock c s t).harm = s.harm := rfl
@[simp] theorem discardBlock_clock (c : BlockCause) (s : State) (t : Tid) : (discardBlock c s t).clock = s.clock := rfl
@[simp] theorem discardBlock_usage (c : BlockCause) (s : State) (t : Tid) : (discardBlock c s t).usage = s.usage := rfl
@[simp] theorem discardBlock_items (c : BlockCause) (s : State) (t : Tid) : (discardBlock c s t).items = s.items := rfl
@[simp] theorem discardBlock_store (c : BlockCause) (s : State) (t : Tid) : (discardBlock c s t).store = s.store := rfl
@[simp] theorem discardBlock_image (c : BlockCause) (s : State) (t : Tid) : (discardBlock c s t).image = s.image := rfl
@[simp] theorem discardBlock_findings (c : BlockCause) (s : State) (t : Tid) : (discardBlock c s t).findings = s.findings := rfl
@[simp] theorem discardBlock_advice (c : BlockCause) (s : State) (t : Tid) : (discardBlock c s t).advice = s.advice := rfl
@[simp] theorem discardBlock_cmd (c : BlockCause) (s : State) (t : Tid) : (discardBlock c s t).cmd = s.cmd := rfl
@[simp] theorem discardBlock_pending (c : BlockCause) (s : State) (t : Tid) : (discardBlock c s t).pending = s.pending := rfl

/-! ## raise -/

@[simp] theorem raise_standing (s : State) (k : FindingKind) (t : Option Nat) (j : Subject) (vs : List Word32) : (raise s k t j vs).standing = s.standing := rfl
@[simp] theorem raise_node (s : State) (k : FindingKind) (t : Option Nat) (j : Subject) (vs : List Word32) : (raise s k t j vs).node = s.node := rfl
@[simp] theorem raise_umgt (s : State) (k : FindingKind) (t : Option Nat) (j : Subject) (vs : List Word32) : (raise s k t j vs).umgt = s.umgt := rfl
@[simp] theorem raise_portU (s : State) (k : FindingKind) (t : Option Nat) (j : Subject) (vs : List Word32) : (raise s k t j vs).portU = s.portU := rfl
@[simp] theorem raise_replySeq (s : State) (k : FindingKind) (t : Option Nat) (j : Subject) (vs : List Word32) : (raise s k t j vs).replySeq = s.replySeq := rfl
@[simp] theorem raise_streams (s : State) (k : FindingKind) (t : Option Nat) (j : Subject) (vs : List Word32) : (raise s k t j vs).streams = s.streams := rfl
@[simp] theorem raise_turbines (s : State) (k : FindingKind) (t : Option Nat) (j : Subject) (vs : List Word32) : (raise s k t j vs).turbines = s.turbines := rfl
@[simp] theorem raise_speeds (s : State) (k : FindingKind) (t : Option Nat) (j : Subject) (vs : List Word32) : (raise s k t j vs).speeds = s.speeds := rfl
@[simp] theorem raise_engine (s : State) (k : FindingKind) (t : Option Nat) (j : Subject) (vs : List Word32) : (raise s k t j vs).engine = s.engine := rfl
@[simp] theorem raise_active (s : State) (k : FindingKind) (t : Option Nat) (j : Subject) (vs : List Word32) : (raise s k t j vs).active = s.active := rfl
@[simp] theorem raise_staged (s : State) (k : FindingKind) (t : Option Nat) (j : Subject) (vs : List Word32) : (raise s k t j vs).staged = s.staged := rfl
@[simp] theorem raise_vib (s : State) (k : FindingKind) (t : Option Nat) (j : Subject) (vs : List Word32) : (raise s k t j vs).vib = s.vib := rfl
@[simp] theorem raise_harm (s : State) (k : FindingKind) (t : Option Nat) (j : Subject) (vs : List Word32) : (raise s k t j vs).harm = s.harm := rfl
@[simp] theorem raise_ice (s : State) (k : FindingKind) (t : Option Nat) (j : Subject) (vs : List Word32) : (raise s k t j vs).ice = s.ice := rfl
@[simp] theorem raise_clock (s : State) (k : FindingKind) (t : Option Nat) (j : Subject) (vs : List Word32) : (raise s k t j vs).clock = s.clock := rfl
@[simp] theorem raise_usage (s : State) (k : FindingKind) (t : Option Nat) (j : Subject) (vs : List Word32) : (raise s k t j vs).usage = s.usage := rfl
@[simp] theorem raise_items (s : State) (k : FindingKind) (t : Option Nat) (j : Subject) (vs : List Word32) : (raise s k t j vs).items = s.items := rfl
@[simp] theorem raise_store (s : State) (k : FindingKind) (t : Option Nat) (j : Subject) (vs : List Word32) : (raise s k t j vs).store = s.store := rfl
@[simp] theorem raise_image (s : State) (k : FindingKind) (t : Option Nat) (j : Subject) (vs : List Word32) : (raise s k t j vs).image = s.image := rfl
@[simp] theorem raise_advice (s : State) (k : FindingKind) (t : Option Nat) (j : Subject) (vs : List Word32) : (raise s k t j vs).advice = s.advice := rfl
@[simp] theorem raise_cmd (s : State) (k : FindingKind) (t : Option Nat) (j : Subject) (vs : List Word32) : (raise s k t j vs).cmd = s.cmd := rfl
@[simp] theorem raise_pending (s : State) (k : FindingKind) (t : Option Nat) (j : Subject) (vs : List Word32) : (raise s k t j vs).pending = s.pending := rfl

/-! ## findingLook -/

@[simp] theorem findingLook_standing (s : State) : (findingLook s).standing = s.standing := rfl
@[simp] theorem findingLook_node (s : State) : (findingLook s).node = s.node := rfl
@[simp] theorem findingLook_umgt (s : State) : (findingLook s).umgt = s.umgt := rfl
@[simp] theorem findingLook_portU (s : State) : (findingLook s).portU = s.portU := rfl
@[simp] theorem findingLook_replySeq (s : State) : (findingLook s).replySeq = s.replySeq := rfl
@[simp] theorem findingLook_streams (s : State) : (findingLook s).streams = s.streams := rfl
@[simp] theorem findingLook_turbines (s : State) : (findingLook s).turbines = s.turbines := rfl
@[simp] theorem findingLook_speeds (s : State) : (findingLook s).speeds = s.speeds := rfl
@[simp] theorem findingLook_engine (s : State) : (findingLook s).engine = s.engine := rfl
@[simp] theorem findingLook_active (s : State) : (findingLook s).active = s.active := rfl
@[simp] theorem findingLook_staged (s : State) : (findingLook s).staged = s.staged := rfl
@[simp] theorem findingLook_vib (s : State) : (findingLook s).vib = s.vib := rfl
@[simp] theorem findingLook_harm (s : State) : (findingLook s).harm = s.harm := rfl
@[simp] theorem findingLook_ice (s : State) : (findingLook s).ice = s.ice := rfl
@[simp] theorem findingLook_clock (s : State) : (findingLook s).clock = s.clock := rfl
@[simp] theorem findingLook_usage (s : State) : (findingLook s).usage = s.usage := rfl
@[simp] theorem findingLook_items (s : State) : (findingLook s).items = s.items := rfl
@[simp] theorem findingLook_store (s : State) : (findingLook s).store = s.store := rfl
@[simp] theorem findingLook_image (s : State) : (findingLook s).image = s.image := rfl
@[simp] theorem findingLook_advice (s : State) : (findingLook s).advice = s.advice := rfl
@[simp] theorem findingLook_cmd (s : State) : (findingLook s).cmd = s.cmd := rfl
@[simp] theorem findingLook_pending (s : State) : (findingLook s).pending = s.pending := rfl

/-! ## replyAs -/

@[simp] theorem replyAs_standing (s : State) (w : LocalKind) (o : Origin) (c : Nat) (r : Option (Reason × Nat)) (rs : List Byte) : (replyAs s w o c r rs).standing = s.standing := rfl
@[simp] theorem replyAs_node (s : State) (w : LocalKind) (o : Origin) (c : Nat) (r : Option (Reason × Nat)) (rs : List Byte) : (replyAs s w o c r rs).node = s.node := rfl
@[simp] theorem replyAs_umgt (s : State) (w : LocalKind) (o : Origin) (c : Nat) (r : Option (Reason × Nat)) (rs : List Byte) : (replyAs s w o c r rs).umgt = s.umgt := rfl
@[simp] theorem replyAs_streams (s : State) (w : LocalKind) (o : Origin) (c : Nat) (r : Option (Reason × Nat)) (rs : List Byte) : (replyAs s w o c r rs).streams = s.streams := rfl
@[simp] theorem replyAs_turbines (s : State) (w : LocalKind) (o : Origin) (c : Nat) (r : Option (Reason × Nat)) (rs : List Byte) : (replyAs s w o c r rs).turbines = s.turbines := rfl
@[simp] theorem replyAs_speeds (s : State) (w : LocalKind) (o : Origin) (c : Nat) (r : Option (Reason × Nat)) (rs : List Byte) : (replyAs s w o c r rs).speeds = s.speeds := rfl
@[simp] theorem replyAs_engine (s : State) (w : LocalKind) (o : Origin) (c : Nat) (r : Option (Reason × Nat)) (rs : List Byte) : (replyAs s w o c r rs).engine = s.engine := rfl
@[simp] theorem replyAs_active (s : State) (w : LocalKind) (o : Origin) (c : Nat) (r : Option (Reason × Nat)) (rs : List Byte) : (replyAs s w o c r rs).active = s.active := rfl
@[simp] theorem replyAs_staged (s : State) (w : LocalKind) (o : Origin) (c : Nat) (r : Option (Reason × Nat)) (rs : List Byte) : (replyAs s w o c r rs).staged = s.staged := rfl
@[simp] theorem replyAs_vib (s : State) (w : LocalKind) (o : Origin) (c : Nat) (r : Option (Reason × Nat)) (rs : List Byte) : (replyAs s w o c r rs).vib = s.vib := rfl
@[simp] theorem replyAs_harm (s : State) (w : LocalKind) (o : Origin) (c : Nat) (r : Option (Reason × Nat)) (rs : List Byte) : (replyAs s w o c r rs).harm = s.harm := rfl
@[simp] theorem replyAs_ice (s : State) (w : LocalKind) (o : Origin) (c : Nat) (r : Option (Reason × Nat)) (rs : List Byte) : (replyAs s w o c r rs).ice = s.ice := rfl
@[simp] theorem replyAs_clock (s : State) (w : LocalKind) (o : Origin) (c : Nat) (r : Option (Reason × Nat)) (rs : List Byte) : (replyAs s w o c r rs).clock = s.clock := rfl
@[simp] theorem replyAs_usage (s : State) (w : LocalKind) (o : Origin) (c : Nat) (r : Option (Reason × Nat)) (rs : List Byte) : (replyAs s w o c r rs).usage = s.usage := rfl
@[simp] theorem replyAs_items (s : State) (w : LocalKind) (o : Origin) (c : Nat) (r : Option (Reason × Nat)) (rs : List Byte) : (replyAs s w o c r rs).items = s.items := rfl
@[simp] theorem replyAs_store (s : State) (w : LocalKind) (o : Origin) (c : Nat) (r : Option (Reason × Nat)) (rs : List Byte) : (replyAs s w o c r rs).store = s.store := rfl
@[simp] theorem replyAs_image (s : State) (w : LocalKind) (o : Origin) (c : Nat) (r : Option (Reason × Nat)) (rs : List Byte) : (replyAs s w o c r rs).image = s.image := rfl
@[simp] theorem replyAs_findings (s : State) (w : LocalKind) (o : Origin) (c : Nat) (r : Option (Reason × Nat)) (rs : List Byte) : (replyAs s w o c r rs).findings = s.findings := rfl
@[simp] theorem replyAs_advice (s : State) (w : LocalKind) (o : Origin) (c : Nat) (r : Option (Reason × Nat)) (rs : List Byte) : (replyAs s w o c r rs).advice = s.advice := rfl
@[simp] theorem replyAs_cmd (s : State) (w : LocalKind) (o : Origin) (c : Nat) (r : Option (Reason × Nat)) (rs : List Byte) : (replyAs s w o c r rs).cmd = s.cmd := rfl
@[simp] theorem replyAs_pending (s : State) (w : LocalKind) (o : Origin) (c : Nat) (r : Option (Reason × Nat)) (rs : List Byte) : (replyAs s w o c r rs).pending = s.pending := rfl

/-! ## offerAdvice -/

@[simp] theorem offerAdvice_standing (s : State) (t : Tid) : (offerAdvice s t).standing = s.standing := rfl
@[simp] theorem offerAdvice_node (s : State) (t : Tid) : (offerAdvice s t).node = s.node := rfl
@[simp] theorem offerAdvice_umgt (s : State) (t : Tid) : (offerAdvice s t).umgt = s.umgt := rfl
@[simp] theorem offerAdvice_portD (s : State) (t : Tid) : (offerAdvice s t).portD = s.portD := rfl
@[simp] theorem offerAdvice_replySeq (s : State) (t : Tid) : (offerAdvice s t).replySeq = s.replySeq := rfl
@[simp] theorem offerAdvice_streams (s : State) (t : Tid) : (offerAdvice s t).streams = s.streams := rfl
@[simp] theorem offerAdvice_turbines (s : State) (t : Tid) : (offerAdvice s t).turbines = s.turbines := rfl
@[simp] theorem offerAdvice_speeds (s : State) (t : Tid) : (offerAdvice s t).speeds = s.speeds := rfl
@[simp] theorem offerAdvice_engine (s : State) (t : Tid) : (offerAdvice s t).engine = s.engine := rfl
@[simp] theorem offerAdvice_active (s : State) (t : Tid) : (offerAdvice s t).active = s.active := rfl
@[simp] theorem offerAdvice_staged (s : State) (t : Tid) : (offerAdvice s t).staged = s.staged := rfl
@[simp] theorem offerAdvice_vib (s : State) (t : Tid) : (offerAdvice s t).vib = s.vib := rfl
@[simp] theorem offerAdvice_harm (s : State) (t : Tid) : (offerAdvice s t).harm = s.harm := rfl
@[simp] theorem offerAdvice_ice (s : State) (t : Tid) : (offerAdvice s t).ice = s.ice := rfl
@[simp] theorem offerAdvice_clock (s : State) (t : Tid) : (offerAdvice s t).clock = s.clock := rfl
@[simp] theorem offerAdvice_usage (s : State) (t : Tid) : (offerAdvice s t).usage = s.usage := rfl
@[simp] theorem offerAdvice_items (s : State) (t : Tid) : (offerAdvice s t).items = s.items := rfl
@[simp] theorem offerAdvice_store (s : State) (t : Tid) : (offerAdvice s t).store = s.store := rfl
@[simp] theorem offerAdvice_image (s : State) (t : Tid) : (offerAdvice s t).image = s.image := rfl
@[simp] theorem offerAdvice_findings (s : State) (t : Tid) : (offerAdvice s t).findings = s.findings := rfl
@[simp] theorem offerAdvice_cmd (s : State) (t : Tid) : (offerAdvice s t).cmd = s.cmd := rfl
@[simp] theorem offerAdvice_pending (s : State) (t : Tid) : (offerAdvice s t).pending = s.pending := rfl

/-! ## formAttn -/

@[simp] theorem formAttn_standing (s : State) : (formAttn s).standing = s.standing := rfl
@[simp] theorem formAttn_node (s : State) : (formAttn s).node = s.node := rfl
@[simp] theorem formAttn_umgt (s : State) : (formAttn s).umgt = s.umgt := rfl
@[simp] theorem formAttn_portU (s : State) : (formAttn s).portU = s.portU := rfl
@[simp] theorem formAttn_portD (s : State) : (formAttn s).portD = s.portD := rfl
@[simp] theorem formAttn_replySeq (s : State) : (formAttn s).replySeq = s.replySeq := rfl
@[simp] theorem formAttn_streams (s : State) : (formAttn s).streams = s.streams := rfl
@[simp] theorem formAttn_turbines (s : State) : (formAttn s).turbines = s.turbines := rfl
@[simp] theorem formAttn_speeds (s : State) : (formAttn s).speeds = s.speeds := rfl
@[simp] theorem formAttn_engine (s : State) : (formAttn s).engine = s.engine := rfl
@[simp] theorem formAttn_active (s : State) : (formAttn s).active = s.active := rfl
@[simp] theorem formAttn_staged (s : State) : (formAttn s).staged = s.staged := rfl
@[simp] theorem formAttn_vib (s : State) : (formAttn s).vib = s.vib := rfl
@[simp] theorem formAttn_harm (s : State) : (formAttn s).harm = s.harm := rfl
@[simp] theorem formAttn_ice (s : State) : (formAttn s).ice = s.ice := rfl
@[simp] theorem formAttn_clock (s : State) : (formAttn s).clock = s.clock := rfl
@[simp] theorem formAttn_usage (s : State) : (formAttn s).usage = s.usage := rfl
@[simp] theorem formAttn_items (s : State) : (formAttn s).items = s.items := rfl
@[simp] theorem formAttn_store (s : State) : (formAttn s).store = s.store := rfl
@[simp] theorem formAttn_image (s : State) : (formAttn s).image = s.image := rfl
@[simp] theorem formAttn_advice (s : State) : (formAttn s).advice = s.advice := rfl
@[simp] theorem formAttn_cmd (s : State) : (formAttn s).cmd = s.cmd := rfl
@[simp] theorem formAttn_pending (s : State) : (formAttn s).pending = s.pending := rfl

/-! ## What the updates write -/

@[simp] theorem setSlot_slots (s : State) (i : SlotId) (x : Slot) :
    (setSlot s i x).streams.slots = put s.streams.slots i x := rfl
@[simp] theorem setSlot_gen (s : State) (i : SlotId) (x : Slot) : (setSlot s i x).streams.gen = s.streams.gen := rfl
@[simp] theorem setSlot_unknown (s : State) (i : SlotId) (x : Slot) : (setSlot s i x).streams.unknown = s.streams.unknown := rfl
@[simp] theorem setSlot_mismatched (s : State) (i : SlotId) (x : Slot) :
    (setSlot s i x).streams.mismatched = s.streams.mismatched := rfl
@[simp] theorem setVib_recs (s : State) (i : SlotId) (r : Option VibRec) : (setVib s i r).vib.recs = put s.vib.recs i r := rfl
@[simp] theorem setVib_grades (s : State) (i : SlotId) (r : Option VibRec) : (setVib s i r).vib.grades = s.vib.grades := rfl
@[simp] theorem setVib_linked (s : State) (i : SlotId) (r : Option VibRec) : (setVib s i r).vib.linked = s.vib.linked := rfl
@[simp] theorem updVib_recs (s : State) (i : SlotId) (f : VibRec → VibRec) :
    (updVib s i f).vib.recs = put s.vib.recs i ((s.vib.recs.get i).map f) := rfl
@[simp] theorem updVib_grades (s : State) (i : SlotId) (f : VibRec → VibRec) : (updVib s i f).vib.grades = s.vib.grades := rfl
@[simp] theorem updVib_linked (s : State) (i : SlotId) (f : VibRec → VibRec) : (updVib s i f).vib.linked = s.vib.linked := rfl
@[simp] theorem setHarm_harm (s : State) (h : HarmWatch) : (setHarm s h).harm = h := rfl
@[simp] theorem setGrid_grid (s : State) (g : GridRec) : (setGrid s g).harm.grid = g := rfl
@[simp] theorem setGrid_contributors (s : State) (g : GridRec) : (setGrid s g).harm.contributors = s.harm.contributors := rfl
@[simp] theorem setGrid_former (s : State) (g : GridRec) : (setGrid s g).harm.former = s.harm.former := rfl
@[simp] theorem setStaged_staged (s : State) (x : Staged) : (setStaged s x).staged = x := rfl
@[simp] theorem updTurbine_turbines (s : State) (t : Tid) (f : TurbineRec → TurbineRec) :
    (updTurbine s t f).turbines = upd s.turbines t f := rfl
@[simp] theorem updSpeed_speeds (s : State) (t : Tid) (f : SpeedRec → SpeedRec) :
    (updSpeed s t f).speeds = upd s.speeds t f := rfl
@[simp] theorem updIce_ice (s : State) (t : Tid) (f : IceRec → IceRec) : (updIce s t f).ice = upd s.ice t f := rfl
@[simp] theorem updAdvice_recs (s : State) (t : Tid) (f : AdviceRec → AdviceRec) :
    (updAdvice s t f).advice.recs = upd s.advice.recs t f := rfl
@[simp] theorem updAdvice_mode (s : State) (t : Tid) (f : AdviceRec → AdviceRec) :
    (updAdvice s t f).advice.active = s.advice.active := rfl
@[simp] theorem offerAdvice_mode (s : State) (t : Tid) : (offerAdvice s t).advice.active = s.advice.active := rfl
@[simp] theorem offerAdvice_transit (s : State) (t : Tid) : (offerAdvice s t).portU.transit = s.portU.transit := rfl
@[simp] theorem offerAdvice_up (s : State) (t : Tid) : (offerAdvice s t).portU.up = s.portU.up := rfl
@[simp] theorem raise_transit (s : State) (k : FindingKind) (t : Option Nat) (j : Subject) (vs : List Word32) :
    (raise s k t j vs).portD.transit = s.portD.transit := rfl
@[simp] theorem raise_up (s : State) (k : FindingKind) (t : Option Nat) (j : Subject) (vs : List Word32) :
    (raise s k t j vs).portD.up = s.portD.up := rfl
@[simp] theorem replyAs_replySeq (s : State) (w : LocalKind) (o : Origin) (c : Nat) (r : Option (Reason × Nat))
    (rs : List Byte) : (replyAs s w o c r rs).replySeq = (s.replySeq + 1) % 256 := rfl
@[simp] theorem portOf_u (s : State) : portOf s .u = s.portU := rfl
@[simp] theorem portOf_d (s : State) : portOf s .d = s.portD := rfl

/-- A port reads as what was set, and the other one as before. -/
@[simp] theorem portOf_setPort (s : State) (p q : Port) (r : PortRec) :
    portOf (setPort s p r) q = if q = p then r else portOf s q := by
  cases p <;> cases q <;> rfl

/-- Forming ATTN writes the line from its causes and nothing else. -/
theorem formAttn_attn (s : State) : (formAttn s).findings.attn = attnValue s := rfl

/-- The causes of ATTN do not read the Finding Unit. -/
@[simp] theorem attnValue_formAttn (s : State) : attnValue (formAttn s) = attnValue s := rfl

/-- A reply DONE is an offer of a REPLY frame. -/
theorem replyDone_eq (s : State) (o : Origin) (c : Nat) (rs : List Byte) : replyDone s o c rs = replyAs s .reply o c none rs := rfl

/-- A refusal is an offer of a REPLY frame. -/
theorem replyRefused_eq (s : State) (o : Origin) (c : Nat) (r : Reason) (d : Nat) :
    replyRefused s o c r d = replyAs s .reply o c (some (r, d)) [] := rfl

end Sys2Proof.Machine
end

