-- ==== Sys2Proof/Laws/Tables.lean ====
section
/-! SUPPORT. Laws/Tables.lean: what reading a table gives after each operation on it. -/

namespace Sys2Proof.Machine

/-- A place reads as what was put there, and every other place as before. -/
@[simp] theorem get_put {α : Type} {n : Nat} (t : Tab α n) (i j : Fin n) (a : α) :
    (put t i a).get j = if j = i then a else t.get j := by
  unfold put
  rw [Vector.get_eq_getElem, Vector.get_eq_getElem, Vector.getElem_set]
  by_cases h : i.val = j.val
  · rw [if_pos h, if_pos (Fin.ext h.symm)]
  · rw [if_neg h, if_neg (fun e => h (by rw [e]))]

/-- The place an operation is applied to reads as its result, and every other place as before. -/
@[simp] theorem get_upd {α : Type} {n : Nat} (t : Tab α n) (i j : Fin n) (f : α → α) :
    (upd t i f).get j = if j = i then f (t.get i) else t.get j := by
  unfold upd
  exact get_put t i j _

/-- Every place of a mapped table reads as the function of the place. -/
@[simp] theorem get_mapTab {α β : Type} {n : Nat} (f : α → β) (t : Tab α n) (i : Fin n) :
    (mapTab f t).get i = f (t.get i) := by
  simp [mapTab, Vector.get]
  rfl

/-- A table built from a function reads as the function. -/
@[simp] theorem get_tabOf {α : Type} {n : Nat} (f : Fin n → α) (i : Fin n) : (tabOf f).get i = f i := by
  simp [tabOf, Vector.get]
  rfl

/-- Every place of a constant table reads as the constant. -/
@[simp] theorem get_replicate {α : Type} {n : Nat} (a : α) (i : Fin n) : (Vector.replicate n a).get i = a := by
  simp [Vector.get_eq_getElem]

/-- Two tables are equal where every place reads the same. -/
theorem tab_ext {α : Type} {n : Nat} {t u : Tab α n} (h : ∀ i, t.get i = u.get i) : t = u := by
  apply Vector.ext
  intro i hi
  have := h ⟨i, hi⟩
  rwa [Vector.get_eq_getElem, Vector.get_eq_getElem] at this

/-- Of two writes to one place the later stands. -/
@[simp] theorem put_put {α : Type} {n : Nat} (t : Tab α n) (i : Fin n) (a b : α) : put (put t i a) i b = put t i b := by
  apply tab_ext
  intro j
  simp only [get_put]
  split <;> rfl

/-- Putting back what a place holds changes nothing. -/
@[simp] theorem put_get {α : Type} {n : Nat} (t : Tab α n) (i : Fin n) : put t i (t.get i) = t := by
  apply tab_ext
  intro j
  rw [get_put]
  split
  · next h => rw [h]
  · rfl

/-- A turbine is named by its number. -/
@[simp] theorem turbineOf_tnum (t : Tid) : turbineOf (tnum t) = some t := by
  unfold turbineOf tnum placeOf
  simp

/-- A number above 24, or 0, names no turbine. -/
theorem turbineOf_none {k : Nat} (h : k = 0 ∨ 25 ≤ k) : turbineOf k = none := by
  unfold turbineOf placeOf
  by_cases hk : k = 0
  · simp [hk]
  · rw [if_neg hk, dif_neg (by omega)]

/-- The turbine a number names has that number. -/
theorem tnum_of_turbineOf {k : Nat} {t : Tid} (h : turbineOf k = some t) : k = tnum t := by
  unfold turbineOf placeOf at h
  split at h
  · exact absurd h (by simp)
  · split at h
    · simp only [Option.some.injEq] at h
      rw [← h]
      unfold tnum
      simp only
      omega
    · exact absurd h (by simp)

/-- A place is named by its number. -/
@[simp] theorem placeOf_val {n : Nat} (i : Fin n) : placeOf n i.val = some i := by
  unfold placeOf
  rw [dif_pos i.isLt]

/-- A number past the end of a table names no place. -/
theorem placeOf_none {n k : Nat} (h : n ≤ k) : placeOf n k = none := by
  unfold placeOf
  rw [dif_neg (by omega)]

/-- Every turbine is among all turbines. -/
@[simp] theorem mem_allTurbines (t : Tid) : t ∈ allTurbines := List.mem_finRange t

/-- Every slot is among all slots. -/
@[simp] theorem mem_allSlots (i : SlotId) : i ∈ allSlots := List.mem_finRange i

/-- Every item slot is among all item slots. -/
@[simp] theorem mem_allItems (i : ItemId) : i ∈ allItems := List.mem_finRange i

/-- Every band set is among all sets. -/
@[simp] theorem mem_allSets (b : SetId) : b ∈ allSets := List.mem_finRange b

end Sys2Proof.Machine
end

