-- ==== Sys2Proof/Laws/Frames.lean ====
section
/-! SUPPORT. Laws/Frames.lean: what each shared operation can write, said once. A relation names the parts that may differ
between the state before and the state after; it is reflexive and transitive, so that it goes through folds. -/

namespace Sys2Proof.Machine

/-! ## Relations -/

/-- The second state differs from the first in the item table, the Finding Unit and the Port D local queue at most. -/
def OnlyItems (s t : State) : Prop :=
  ∃ items findings q, t = { s with items := items, findings := findings, portD := { s.portD with localQ := q } }

/-- The second state differs from the first in the Vibration Watch, the Finding Unit and the Port D local queue at most. -/
def OnlyVib (s t : State) : Prop :=
  ∃ vib findings q, t = { s with vib := vib, findings := findings, portD := { s.portD with localQ := q } }

/-- The second state differs from the first in the parts that forming grades writes at most. -/
def OnlyGrades (s t : State) : Prop :=
  ∃ vib items findings q,
    t = { s with vib := vib, items := items, findings := findings, portD := { s.portD with localQ := q } }

/-- The second state differs from the first in the parts that a change of advice writes at most. -/
def OnlyAdvice (s t : State) : Prop :=
  ∃ usage ice turbines vib advice findings p q,
    t = { s with usage := usage, ice := ice, turbines := turbines, vib := vib, advice := advice, findings := findings,
                 portU := { s.portU with localQ := p }, portD := { s.portD with localQ := q } }

/-- Nothing written at all. -/
theorem OnlyItems.refl (s : State) : OnlyItems s s := ⟨_, _, _, rfl⟩

/-- One write after another. -/
theorem OnlyItems.trans {s t u : State} (h : OnlyItems s t) (k : OnlyItems t u) : OnlyItems s u := by
  obtain ⟨a0, a1, a2, rfl⟩ := h
  obtain ⟨b0, b1, b2, rfl⟩ := k
  exact ⟨_, _, _, rfl⟩

/-- A fold of operations that each keep to the relation keeps to it. -/
theorem OnlyItems.foldl {α : Type} {f : State → α → State} (h : ∀ s a, OnlyItems s (f s a))
    (l : List α) (s : State) : OnlyItems s (l.foldl f s) := by
  induction l generalizing s with
  | nil => exact OnlyItems.refl s
  | cons a l ih => exact (h s a).trans (ih (f s a))

/-- Nothing written at all. -/
theorem OnlyVib.refl (s : State) : OnlyVib s s := ⟨_, _, _, rfl⟩

/-- One write after another. -/
theorem OnlyVib.trans {s t u : State} (h : OnlyVib s t) (k : OnlyVib t u) : OnlyVib s u := by
  obtain ⟨a0, a1, a2, rfl⟩ := h
  obtain ⟨b0, b1, b2, rfl⟩ := k
  exact ⟨_, _, _, rfl⟩

/-- A fold of operations that each keep to the relation keeps to it. -/
theorem OnlyVib.foldl {α : Type} {f : State → α → State} (h : ∀ s a, OnlyVib s (f s a))
    (l : List α) (s : State) : OnlyVib s (l.foldl f s) := by
  induction l generalizing s with
  | nil => exact OnlyVib.refl s
  | cons a l ih => exact (h s a).trans (ih (f s a))

/-- Nothing written at all. -/
theorem OnlyGrades.refl (s : State) : OnlyGrades s s := ⟨_, _, _, _, rfl⟩

/-- One write after another. -/
theorem OnlyGrades.trans {s t u : State} (h : OnlyGrades s t) (k : OnlyGrades t u) : OnlyGrades s u := by
  obtain ⟨a0, a1, a2, a3, rfl⟩ := h
  obtain ⟨b0, b1, b2, b3, rfl⟩ := k
  exact ⟨_, _, _, _, rfl⟩

/-- A fold of operations that each keep to the relation keeps to it. -/
theorem OnlyGrades.foldl {α : Type} {f : State → α → State} (h : ∀ s a, OnlyGrades s (f s a))
    (l : List α) (s : State) : OnlyGrades s (l.foldl f s) := by
  induction l generalizing s with
  | nil => exact OnlyGrades.refl s
  | cons a l ih => exact (h s a).trans (ih (f s a))

/-- Nothing written at all. -/
theorem OnlyAdvice.refl (s : State) : OnlyAdvice s s := ⟨_, _, _, _, _, _, _, _, rfl⟩

/-- One write after another. -/
theorem OnlyAdvice.trans {s t u : State} (h : OnlyAdvice s t) (k : OnlyAdvice t u) : OnlyAdvice s u := by
  obtain ⟨a0, a1, a2, a3, a4, a5, a6, a7, rfl⟩ := h
  obtain ⟨b0, b1, b2, b3, b4, b5, b6, b7, rfl⟩ := k
  exact ⟨_, _, _, _, _, _, _, _, rfl⟩

/-- A fold of operations that each keep to the relation keeps to it. -/
theorem OnlyAdvice.foldl {α : Type} {f : State → α → State} (h : ∀ s a, OnlyAdvice s (f s a))
    (l : List α) (s : State) : OnlyAdvice s (l.foldl f s) := by
  induction l generalizing s with
  | nil => exact OnlyAdvice.refl s
  | cons a l ih => exact (h s a).trans (ih (f s a))

/-- What writes items only writes no more than forming grades. -/
theorem OnlyItems.grades {s t : State} (h : OnlyItems s t) : OnlyGrades s t := by
  obtain ⟨a, b, c, rfl⟩ := h
  exact ⟨_, _, _, _, rfl⟩

/-- What writes the Vibration Watch only writes no more than forming grades. -/
theorem OnlyVib.grades {s t : State} (h : OnlyVib s t) : OnlyGrades s t := by
  obtain ⟨a, b, c, rfl⟩ := h
  exact ⟨_, _, _, _, rfl⟩

/-- What writes the Vibration Watch only writes no more than a change of advice. -/
theorem OnlyVib.advice {s t : State} (h : OnlyVib s t) : OnlyAdvice s t := by
  obtain ⟨a, b, c, rfl⟩ := h
  exact ⟨_, _, _, _, _, _, _, _, rfl⟩

/-! ## Findings and items -/

/-- A raised finding writes the Finding Unit and Port D. -/
theorem raise_onlyItems (s : State) (k : FindingKind) (t : Option Nat) (j : Subject) (vs : List Word32) :
    OnlyItems s (raise s k t j vs) := ⟨_, _, _, rfl⟩

/-- A raised finding writes the Finding Unit and Port D. -/
theorem raise_onlyVib (s : State) (k : FindingKind) (t : Option Nat) (j : Subject) (vs : List Word32) :
    OnlyVib s (raise s k t j vs) := ⟨_, _, _, rfl⟩

/-- A raised finding writes the Finding Unit and Port D. -/
theorem raise_onlyAdvice (s : State) (k : FindingKind) (t : Option Nat) (j : Subject) (vs : List Word32) :
    OnlyAdvice s (raise s k t j vs) := (raise_onlyVib s k t j vs).advice

/-- An item entering a state writes the item table and raises (R142). -/
theorem enterItemState_only (s : State) (i : ItemId) (it : Item) (v : Nat) (st : ItemState) :
    OnlyItems s (enterItemState s i it v st) := by
  cases st <;> exact ⟨_, _, _, rfl⟩

/-- An evaluation writes the item table and raises (R142). -/
theorem evaluateItem_only (s : State) (i : ItemId) : OnlyItems s (evaluateItem s i) := by
  unfold evaluateItem
  split
  · exact .refl s
  · split
    · dsimp only
      split
      · exact .refl s
      · exact enterItemState_only _ _ _ _ _
    · exact .refl s

/-- A counter's advance told to the Calendar writes the item table and raises (R139). -/
theorem counterAdvance_only (s : State) (t : Tid) (b : Basis) : OnlyItems s (counterAdvance s t b) :=
  .foldl evaluateItem_only _ _

/-- A pull-in writes the item table and raises (R145). -/
theorem pullIn_only (s : State) (i : ItemId) (it : Item) (l : Link) (v : Nat) (g : Grade) :
    OnlyItems s (pullIn s i it l v g) := by
  unfold pullIn
  dsimp only
  split
  · exact ⟨_, _, _, rfl⟩
  · refine .trans ?_ (evaluateItem_only _ _)
    exact ⟨_, _, _, rfl⟩

/-- What one item does at a change of its linked grade writes the item table and raises (R145, R146). -/
theorem linkedChangeItem_only (t : Tid) (b : SetId) (old new : Grade) (s : State) (i : ItemId) :
    OnlyItems s (linkedChangeItem t b old new s i) := by
  unfold linkedChangeItem
  split
  · exact .refl s
  · split
    · exact .refl s
    · split
      · split
        · split
          · split
            · exact ⟨_, _, _, rfl⟩
            · exact pullIn_only _ _ _ _ _ _
          · exact .refl s
          · exact .refl s
        · split
          · exact ⟨_, _, _, rfl⟩
          · exact .refl s
      · exact .refl s

/-- A change of a linked grade told to the Calendar writes the item table and raises (R145). -/
theorem linkedChange_only (s : State) (t : Tid) (b : SetId) (old new : Grade) : OnlyItems s (linkedChange s t b old new) :=
  .foldl (linkedChangeItem_only t b old new) _ _

/-- An OWED link settled writes the item table and raises (R146). -/
theorem settleOwed_only (s : State) (i : ItemId) (it : Item) (l : Link) : OnlyItems s (settleOwed s i it l) := by
  unfold settleOwed
  dsimp only
  split
  · exact pullIn_only _ _ _ _ _ _
  · exact ⟨_, _, _, rfl⟩

/-- What one slot does at a day change writes the item table and raises (R142, R146). -/
theorem dayChangeItem_only (s : State) (i : ItemId) : OnlyItems s (dayChangeItem s i) := by
  unfold dayChangeItem
  split
  · exact .refl s
  · split
    · split
      · split
        · exact (settleOwed_only _ _ _ _).trans (evaluateItem_only _ _)
        · exact evaluateItem_only _ _
      · exact evaluateItem_only _ _
    · exact .refl s

/-- A day change told to the Calendar writes the item table and raises (R142). -/
theorem dayChange_only (s : State) : OnlyItems s (dayChange s) := .foldl dayChangeItem_only _ _

/-! ## The Vibration Watch -/

/-- A write of one stream's record writes the Vibration Watch. -/
theorem updVib_only (s : State) (i : SlotId) (f : VibRec → VibRec) : OnlyVib s (updVib s i f) := ⟨_, _, _, rfl⟩

/-- An abandoned window writes the Vibration Watch and raises (R74). -/
theorem abandonWindow_only (c : AbandonCause) (s : State) (i : SlotId) : OnlyVib s (abandonWindow c s i) := by
  unfold abandonWindow
  split
  · exact .refl s
  · dsimp only
    split <;> exact ⟨_, _, _, rfl⟩

/-- An abandoned automatic window writes the Vibration Watch and raises (R85). -/
theorem abandonAutomatic_only (c : AbandonCause) (s : State) (i : SlotId) : OnlyVib s (abandonAutomatic c s i) := by
  unfold abandonAutomatic
  split
  · exact .refl s
  · split
    · exact .refl s
    · exact abandonWindow_only _ _ _

/-- An abandoned test window writes the Vibration Watch and raises (R85). -/
theorem abandonTest_only (c : AbandonCause) (s : State) (i : SlotId) : OnlyVib s (abandonTest c s i) := by
  unfold abandonTest
  split
  · exact .refl s
  · split
    · exact abandonWindow_only _ _ _
    · exact .refl s

/-- A cancelled test writes the Vibration Watch and raises (R85). -/
theorem cancelTest_only (c : AbandonCause) (s : State) (i : SlotId) : OnlyVib s (cancelTest c s i) := by
  unfold cancelTest
  split
  · exact .refl s
  · split
    · exact ⟨_, _, _, rfl⟩
    · exact .refl s

/-- TRACKING LOST at one slot writes the Vibration Watch and raises (R51). -/
theorem trackingLostAt_only (s : State) (i : SlotId) : OnlyVib s (trackingLostAt s i) :=
  (abandonWindow_only _ _ _).trans (cancelTest_only _ _ _)

/-- END SERVICE at one slot writes the Vibration Watch and raises (R85). -/
theorem serviceEndedAt_only (s : State) (i : SlotId) : OnlyVib s (serviceEndedAt s i) :=
  (abandonTest_only _ _ _).trans (cancelTest_only _ _ _)

/-- A blanking request passed to the Watch writes the Vibration Watch and raises (R26). -/
theorem vibBlanking_only (s : State) (t : Tid) : OnlyVib s (vibBlanking s t) :=
  .foldl (abandonWindow_only _) _ _

/-- TRACKING LOST writes the Vibration Watch and raises (R51). -/
theorem vibTrackingLost_only (s : State) (t : Tid) : OnlyVib s (vibTrackingLost s t) :=
  .foldl trackingLostAt_only _ _

/-- SLIP writes the Vibration Watch and raises (R74). -/
theorem vibSlip_only (s : State) (t : Tid) : OnlyVib s (vibSlip s t) :=
  .foldl (abandonWindow_only _) _ _

/-- STEP writes the Vibration Watch and raises (R74). -/
theorem vibStep_only (s : State) (t : Tid) : OnlyVib s (vibStep s t) :=
  .foldl (abandonWindow_only _) _ _

/-- A change away from GENERATING writes the Vibration Watch and raises (R74). -/
theorem vibNotGenerating_only (s : State) (t : Tid) : OnlyVib s (vibNotGenerating s t) :=
  .foldl (abandonAutomatic_only _) _ _

/-- BEGIN SERVICE writes the Vibration Watch and raises (R74). -/
theorem vibServiceBegun_only (s : State) (t : Tid) : OnlyVib s (vibServiceBegun s t) :=
  .foldl (abandonAutomatic_only _) _ _

/-- END SERVICE writes the Vibration Watch and raises (R85). -/
theorem vibServiceEnded_only (s : State) (t : Tid) : OnlyVib s (vibServiceEnded s t) :=
  .foldl serviceEndedAt_only _ _

/-- A discarded vibration record writes the Vibration Watch and raises (R64, R85). -/
theorem vibDiscarded_only (s : State) (r : VibRecord) : OnlyVib s (vibDiscarded s r) := by
  unfold vibDiscarded
  dsimp only
  split <;> split <;> exact ⟨_, _, _, rfl⟩

/-! ## Advice and curtail requests -/

/-- A blanking request writes the turbine table, the Vibration Watch, and raises (R26). -/
theorem requestBlanking_only (s : State) (t : Tid) : OnlyAdvice s (requestBlanking s t) := by
  unfold requestBlanking
  refine .trans ?_ (vibBlanking_only _ _).advice
  exact ⟨_, _, _, _, _, _, _, _, rfl⟩

/-- The curtailed gate writes the usage counters (R168). -/
theorem curtailedGate_only (s : State) (t : Tid) (old new : Advice) : OnlyAdvice s (curtailedGate s t old new) := by
  unfold curtailedGate
  split
  · exact ⟨_, _, _, _, _, _, _, _, rfl⟩
  · split
    · exact ⟨_, _, _, _, _, _, _, _, rfl⟩
    · exact .refl s

/-- A block discarded writes the Icing Watch's turbine records (R118). -/
theorem discardBlock_only (c : BlockCause) (s : State) (t : Tid) : OnlyAdvice s (discardBlock c s t) :=
  ⟨_, _, _, _, _, _, _, _, rfl⟩

/-- An offer of an ADVICE frame writes Port U and the Advice Unit (R169). -/
theorem offerAdvice_only (s : State) (t : Tid) : OnlyAdvice s (offerAdvice s t) := ⟨_, _, _, _, _, _, _, _, rfl⟩

/-- A write of a turbine's advice record writes the Advice Unit. -/
theorem updAdvice_only (s : State) (t : Tid) (f : AdviceRec → AdviceRec) : OnlyAdvice s (updAdvice s t f) :=
  ⟨_, _, _, _, _, _, _, _, rfl⟩

/-- A change of advice writes the usage counters, the Icing Watch's turbine records, the turbine table, the Vibration
Watch, the Advice Unit, the two ports and the Finding Unit at most (R168). -/
theorem changeAdvice_only (s : State) (t : Tid) (a : Advice) (l : Nat) : OnlyAdvice s (changeAdvice s t a l) := by
  unfold changeAdvice
  dsimp only
  refine .trans ?_ (raise_onlyAdvice _ _ _ _ _)
  refine .trans ?_ (updAdvice_only _ _ _)
  refine .trans ?_ (offerAdvice_only _ _)
  refine .trans ?_ (requestBlanking_only _ _)
  refine .trans ?_ (discardBlock_only _ _ _)
  exact (updAdvice_only _ _ _).trans (curtailedGate_only _ _ _ _)

/-- An advice computed afresh writes no more than a change of advice does (R167). -/
theorem computeAdvice_only (s : State) (t : Tid) : OnlyAdvice s (computeAdvice s t) := by
  unfold computeAdvice
  dsimp only
  split
  · exact .refl s
  · exact changeAdvice_only _ _ _ _

/-- Every turbine's advice computed afresh writes no more than a change of advice does (R167). -/
theorem computeAllAdvice_only (s : State) : OnlyAdvice s (computeAllAdvice s) := .foldl computeAdvice_only _ _

/-! ## Grades and counters -/

/-- A linked grade formed again writes the Vibration Watch, the item table, and raises (R81). -/
theorem formLinked_only (t : Tid) (sl : List SlotId) (s : State) (b : SetId) : OnlyGrades s (formLinked t sl s b) := by
  unfold formLinked
  dsimp only
  split
  · exact .refl s
  · refine .trans ?_ (linkedChange_only _ _ _ _ _).grades
    exact ⟨_, _, _, _, rfl⟩

/-- A turbine's grades formed again write the Vibration Watch, the item table, and raise (R81). -/
theorem formGrades_only (s : State) (t : Tid) : OnlyGrades s (formGrades s t) := by
  unfold formGrades
  refine .trans ?_ (OnlyGrades.foldl (formLinked_only t _) _ _)
  exact ⟨_, _, _, _, rfl⟩

/-- An advance of a main counter writes the turbine's usage record and what the Calendar writes (R135, R139). -/
theorem advanceMain_only (s : State) (t : Tid) (b : Basis) :
    OnlyItems (if mainAt s t b < countTop then writeMain s t b (mainAt s t b + 1) else s) (advanceMain s t b) := by
  unfold advanceMain
  split
  · exact counterAdvance_only _ _ _
  · exact .refl s

/-- A withdrawal writes the request list and what a change of advice writes (R107). -/
theorem withdraw_only (s : State) (t : Tid) :
    ∃ harm, OnlyAdvice { s with harm := harm } (withdraw s t) := by
  unfold withdraw
  split
  · exact ⟨_, computeAdvice_only _ _⟩
  · exact ⟨s.harm, .refl s⟩

end Sys2Proof.Machine
end

