-- ==== Sys2Proof/Laws/Commit.lean ====
section
/-! SUPPORT. Laws/Commit.lean: the groups of a commit's changed slots, and the Command Unit's look at a waiting commit (R188). -/

namespace Sys2Proof.Machine

/-! ## Groups (R188) -/

/-- A bond is mutual. -/
theorem bonded_comm (s : State) (i j : SlotId) : bonded s i j = bonded s j i := by
  simp only [bonded]; exact Bool.or_comm _ _

/-- What holds of the groups once the slots of `l` have been joined: they hold exactly those slots, no two share one, a slot
bonded to a member is a member, what a bond carries goes through a group, and they stand in the order of their highest slots. -/
structure Grouped (s : State) (l : List SlotId) (gs : List (List SlotId)) : Prop where
  covers   : ∀ i, i ∈ l ↔ ∃ g ∈ gs, i ∈ g
  apart    : gs.Pairwise (fun g h => ∀ x ∈ g, x ∉ h)
  closed   : ∀ g ∈ gs, ∀ a ∈ g, ∀ b ∈ l, bonded s a b = true → b ∈ g
  linked   : ∀ p : SlotId → Prop, (∀ a ∈ l, ∀ b ∈ l, bonded s a b = true → p a → p b) → ∀ g ∈ gs, ∀ a ∈ g, ∀ b ∈ g, p a → p b
  rising   : gs.Pairwise (fun g h => ∃ j ∈ h, ∀ i ∈ g, i < j)

/-- No slot joined, no group. -/
theorem Grouped.nil (s : State) : Grouped s [] [] := by
  constructor <;> simp

/-- A further slot, above those joined before, joined to the groups (R188). -/
theorem Grouped.join {s : State} {l : List SlotId} {gs : List (List SlotId)} {i : SlotId} (h : Grouped s l gs)
    (hi : ∀ x ∈ l, x < i) : Grouped s (l ++ [i]) (joinGroups s gs i) := by
  set near : List SlotId → Bool := fun g => g.any (bonded s i) with hnear
  set whole := (gs.filter near).flatten ++ [i] with hw
  have hj : joinGroups s gs i = gs.filter (fun g => !near g) ++ [whole] := rfl
  have near_iff : ∀ g, near g = true ↔ ∃ x ∈ g, bonded s i x = true := fun g => by simp [hnear]
  have in_whole : ∀ x, x ∈ whole ↔ (∃ g ∈ gs, near g = true ∧ x ∈ g) ∨ x = i := by
    intro x; simp [hw, List.mem_flatten, and_assoc]
  have in_join : ∀ g, g ∈ joinGroups s gs i ↔ (g ∈ gs ∧ near g = false) ∨ g = whole := by
    intro g; simp [hj]
  have in_l : ∀ g ∈ gs, ∀ x ∈ g, x ∈ l := fun g hg x hx => (h.covers x).2 ⟨g, hg, hx⟩
  have one_group : ∀ g ∈ gs, ∀ k ∈ gs, ∀ x, x ∈ g → x ∈ k → g = k := by
    intro g hg k hk x hxg hxk
    by_contra hne
    have : Std.Symm (fun (g h : List SlotId) => ∀ x ∈ g, x ∉ h) := ⟨fun a b hab x hx hx' => hab x hx' hx⟩
    exact h.apart.forall hg hk hne x hxg hxk
  refine ⟨?_, ?_, ?_, ?_, ?_⟩
  · intro x
    simp only [List.mem_append, List.mem_singleton, h.covers x]
    constructor
    · rintro (⟨g, hg, hx⟩ | rfl)
      · cases hn : near g
        · exact ⟨g, (in_join g).2 (.inl ⟨hg, hn⟩), hx⟩
        · exact ⟨whole, (in_join _).2 (.inr rfl), (in_whole x).2 (.inl ⟨g, hg, hn, hx⟩)⟩
      · exact ⟨whole, (in_join _).2 (.inr rfl), (in_whole _).2 (.inr rfl)⟩
    · rintro ⟨g, hg, hx⟩
      rcases (in_join g).1 hg with ⟨hg, -⟩ | rfl
      · exact .inl ⟨g, hg, hx⟩
      · exact ((in_whole x).1 hx).imp (fun ⟨g, hg, _, hx⟩ => ⟨g, hg, hx⟩) id
  · rw [hj, List.pairwise_append]
    refine ⟨h.apart.filter _, List.pairwise_singleton _ _, ?_⟩
    intro g hg k hk x hxg hxk
    rw [List.mem_singleton] at hk; subst hk
    obtain ⟨hg', hn⟩ := List.mem_filter.1 hg
    rcases (in_whole x).1 hxk with ⟨k, hk, hkn, hx⟩ | hx
    · have := one_group g hg' k hk x hxg hx; subst this; simp [hkn] at hn
    · exact lt_irrefl _ (hx ▸ hi _ (in_l g hg' _ hxg))
  · intro g hg a ha b hb hab
    rcases (in_join g).1 hg with ⟨hg, hn⟩ | rfl
    · rcases List.mem_append.1 hb with hb | hb
      · exact h.closed g hg a ha b hb hab
      · rw [List.mem_singleton] at hb; subst hb
        rw [bonded_comm] at hab
        rw [(near_iff g).2 ⟨a, ha, hab⟩] at hn; cases hn
    · rcases List.mem_append.1 hb with hb' | hb
      · rcases (in_whole a).1 ha with ⟨g, hg, hgn, hag⟩ | hai
        · exact (in_whole b).2 (.inl ⟨g, hg, hgn, h.closed g hg a hag b hb' hab⟩)
        · obtain ⟨g, hg, hbg⟩ := (h.covers b).1 hb'
          exact (in_whole b).2 (.inl ⟨g, hg, (near_iff g).2 ⟨b, hbg, hai ▸ hab⟩, hbg⟩)
      · rw [List.mem_singleton] at hb; subst hb; exact (in_whole _).2 (.inr rfl)
  · intro p hp g hg a ha b hb hpa
    have hp' := h.linked p (fun a ha b hb => hp a (List.mem_append_left _ ha) b (List.mem_append_left _ hb))
    have ii : i ∈ l ++ [i] := List.mem_append_right _ (List.mem_singleton.2 rfl)
    rcases (in_join g).1 hg with ⟨hg, -⟩ | rfl
    · exact hp' g hg a ha b hb hpa
    · have to_i : p i := by
        rcases (in_whole a).1 ha with ⟨k, hk, hkn, hak⟩ | rfl
        · obtain ⟨x, hx, hb⟩ := (near_iff k).1 hkn
          rw [bonded_comm] at hb
          exact hp x (List.mem_append_left _ (in_l k hk x hx)) i ii hb (hp' k hk a hak x hx hpa)
        · exact hpa
      rcases (in_whole b).1 hb with ⟨k, hk, hkn, hbk⟩ | rfl
      · obtain ⟨x, hx, hb⟩ := (near_iff k).1 hkn
        exact hp' k hk x hx b hbk (hp i ii x (List.mem_append_left _ (in_l k hk x hx)) hb to_i)
      · exact to_i
  · rw [hj, List.pairwise_append]
    refine ⟨h.rising.filter _, List.pairwise_singleton _ _, ?_⟩
    intro g hg k hk
    rw [List.mem_singleton] at hk; subst hk
    exact ⟨i, (in_whole i).2 (.inr rfl), fun x hx => hi x (in_l g (List.mem_filter.1 hg).1 x hx)⟩

/-- Every slot of a rising list joined. -/
theorem grouped_foldl (s : State) (l done : List SlotId) (gs : List (List SlotId)) (h : Grouped s done gs)
    (hl : (done ++ l).Pairwise (· < ·)) : Grouped s (done ++ l) (l.foldl (joinGroups s) gs) := by
  induction l generalizing done gs with
  | nil => simpa using h
  | cons i l ih =>
    have hi : ∀ x ∈ done, x < i := fun x hx => (List.pairwise_append.1 hl).2.2 x hx i (by simp)
    have := ih (done ++ [i]) _ (h.join hi) (by simpa using hl)
    simpa using this

/-- The groups of the changed slots (R188): each changed slot is in one, no two share one, two are in one exactly where what
every bond carries goes from the one to the other, each is in ascending order, and they stand in the order of their highest
slots. -/
theorem groupsOf_spec (s : State) (l : List SlotId) (hl : l.Pairwise (· < ·)) :
    let gs := groupsOf s l
    (∀ i, i ∈ l ↔ ∃ g ∈ gs, i ∈ g) ∧ gs.flatten.Nodup ∧
    (∀ i j, i ∈ l → j ∈ l → ((∃ g ∈ gs, i ∈ g ∧ j ∈ g) ↔
      ∀ p : SlotId → Prop, (∀ a ∈ l, ∀ b ∈ l, bonded s a b = true → p a → p b) → p i → p j)) ∧
    (∀ g ∈ gs, g.Pairwise (· < ·)) ∧ gs.Pairwise (fun g h => ∃ j ∈ h, ∀ i ∈ g, i < j) := by
  have h : Grouped s l (l.foldl (joinGroups s) []) := by simpa using grouped_foldl s l [] [] (.nil s) (by simpa using hl)
  set raw := l.foldl (joinGroups s) [] with hraw
  intro gs
  have hgs : gs = raw.map (fun g => l.filter (fun i => g.contains i)) := rfl
  have same : ∀ g ∈ raw, ∀ x, x ∈ l.filter (fun i => g.contains i) ↔ x ∈ g := by
    intro g hg x
    simp only [List.mem_filter, List.contains_eq_mem, decide_eq_true_eq]
    exact ⟨fun h => h.2, fun hx => ⟨(h.covers x).2 ⟨g, hg, hx⟩, hx⟩⟩
  have ex : ∀ P : List SlotId → Prop, (∃ g ∈ gs, P g) ↔ ∃ g ∈ raw, P (l.filter (fun i => g.contains i)) := by
    intro P; simp [hgs]
  refine ⟨?_, ?_, ?_, ?_, ?_⟩
  · intro i; rw [h.covers, ex]
    exact ⟨fun ⟨g, hg, hi⟩ => ⟨g, hg, (same g hg i).2 hi⟩, fun ⟨g, hg, hi⟩ => ⟨g, hg, (same g hg i).1 hi⟩⟩
  · rw [List.nodup_flatten]
    refine ⟨?_, ?_⟩
    · intro g hg
      obtain ⟨k, -, rfl⟩ := List.mem_map.1 hg
      exact (hl.imp (fun h => ne_of_lt h)).filter _
    · rw [hgs, List.pairwise_map]
      refine List.Pairwise.imp_of_mem (fun {a b} ha hb hab => ?_) h.apart
      exact fun x hx hx' => hab x ((same a ha x).1 hx) ((same b hb x).1 hx')
  · intro i j hi hj
    rw [ex]
    constructor
    · rintro ⟨g, hg, h1, h2⟩ p hp
      exact h.linked p hp g hg i ((same g hg i).1 h1) j ((same g hg j).1 h2)
    · intro hp
      obtain ⟨g, hg, hig⟩ := (h.covers i).1 hi
      refine ⟨g, hg, (same g hg i).2 hig, (same g hg j).2 ?_⟩
      exact hp (fun x => x ∈ g) (fun a _ b hb hab hag => h.closed g hg a hag b hb hab) hig
  · intro g hg
    obtain ⟨k, -, rfl⟩ := List.mem_map.1 hg
    exact hl.filter _
  · rw [hgs, List.pairwise_map]
    refine List.Pairwise.imp_of_mem (fun {a b} ha hb hab => ?_) h.rising
    obtain ⟨j, hj, hlt⟩ := hab
    exact ⟨j, (same b hb j).2 hj, fun i hi => hlt i ((same a ha i).1 hi)⟩

/-! ## The look at a waiting commit (R188) -/

/-- The first group without a window. -/
theorem firstFree_first {s : State} {pre : List (List SlotId)} {g : List SlotId} {post : List (List SlotId)}
    (hp : ∀ h ∈ pre, h.any (slotHasWindow s) = true) (hg : g.any (slotHasWindow s) = false) :
    firstFree s (pre ++ g :: post) = some (g, pre ++ post) := by
  induction pre with
  | nil => simp [firstFree, hg]
  | cons a pre ih =>
    simp only [List.cons_append, firstFree, hp a (by simp), if_true, ih (fun h hh => hp h (by simp [hh]))]

end Sys2Proof.Machine
end

