-- ==== Sys2Proof/Laws/Ops.lean ====
section
/-! SUPPORT. Laws/Ops.lean: what each shared operation does, said once: the Finding Unit's bounds, the local queues, the
Command Unit's checks, the end of a step. -/

namespace Sys2Proof.Machine

/-! ## Counts -/

/-- A count raised by 1 is its successor, stopping at its top. -/
theorem bump_eq (n : Nat) : bump n = min (n + 1) 4294967295 := rfl

/-- A count at most its top stays at most its top. -/
theorem bumpBy_le (n k : Nat) : bumpBy n k ≤ countTop := Nat.min_le_right _ _

/-! ## The Finding Unit (R158 to R164) -/

/-- A record placed makes the Finding Queue one longer. -/
@[simp] theorem placeFinding_length (fu : FindingUnit) (f : Finding) :
    (placeFinding fu f).queue.length = fu.queue.length + 1 := by
  simp [placeFinding]

/-- A coalescing update keeps the queue's length. -/
@[simp] theorem coalesceInto_length (f : Finding) (n : Nat) (q : List Finding) :
    (coalesceInto f n q).length = q.length := by
  induction q with
  | nil => rfl
  | cons g gs ih =>
    unfold coalesceInto
    split
    · rfl
    · simp [ih]

/-- The look at the lost count keeps the queue within its capacity. -/
theorem checkLost_bound (st : Stamp) (fu : FindingUnit) (h : fu.queue.length ≤ findingCap) :
    (checkLost st fu).queue.length ≤ findingCap := by
  unfold checkLost
  split
  · next hc =>
    rw [placeFinding_length]
    exact hc.2.2
  · exact h

/-- An eviction takes one record away. -/
theorem evictOldest_length (q : List Finding) (e : Finding) (rest : List Finding) (h : evictOldest q = some (e, rest)) :
    rest.length + 1 = q.length := by
  induction q generalizing e rest with
  | nil => simp [evictOldest] at h
  | cons g gs ih =>
    unfold evictOldest at h
    split at h
    · simp only [Option.some.injEq, Prod.mk.injEq] at h
      rw [← h.2]
      rfl
    · split at h
      · next e' rest' he =>
        simp only [Option.some.injEq, Prod.mk.injEq] at h
        rw [← h.2]
        have := ih _ _ he
        simp only [List.length_cons]
        omega
      · simp at h

/-- A finding at a full queue keeps it within its capacity. -/
theorem takeAtFull_bound (st : Stamp) (fu : FindingUnit) (f : Finding) (h : fu.queue.length ≤ findingCap) :
    (takeAtFull st fu f).queue.length ≤ findingCap := by
  unfold takeAtFull
  split
  · exact h
  · split
    · next e rest he =>
      apply checkLost_bound
      rw [placeFinding_length]
      have := evictOldest_length _ _ _ he
      simp only
      omega
    · exact h

/-- A finding taken keeps the Finding Queue within its capacity. -/
theorem takeFinding_bound (st : Stamp) (fu : FindingUnit) (f : Finding) (h : fu.queue.length ≤ findingCap) :
    (takeFinding st fu f).queue.length ≤ findingCap := by
  unfold takeFinding
  split
  · exact h
  · split
    · simpa using h
    · split
      · next hl =>
        rw [placeFinding_length]
        exact hl
      · exact takeAtFull_bound _ _ _ h

/-- The look keeps the Finding Queue and the local queue within their capacities. -/
theorem lookLoop_bound (node hs : Nat) (st : Stamp) (k : Nat) (fu : FindingUnit) (q : List LocalFrame)
    (h : fu.queue.length ≤ findingCap) (hq : q.length ≤ localCap) :
    (lookLoop node hs st k fu q).1.queue.length ≤ findingCap ∧ (lookLoop node hs st k fu q).2.length ≤ localCap := by
  induction k generalizing fu q with
  | zero => exact ⟨h, hq⟩
  | succ k ih =>
    unfold lookLoop
    split
    · exact ⟨h, hq⟩
    · next f rest e =>
      split
      · next hl =>
        apply ih
        · apply checkLost_bound
          rw [e] at h
          simp only [List.length_cons] at h ⊢
          omega
        · simp only [List.length_append, List.length_cons, List.length_nil]
          omega
      · exact ⟨h, hq⟩

/-- The look of R164 keeps both queues within their capacities. -/
theorem lookResult_bound (s : State) (fu : FindingUnit) (h : fu.queue.length ≤ findingCap)
    (hq : s.portD.localQ.length ≤ localCap) :
    (lookResult s fu).1.queue.length ≤ findingCap ∧ (lookResult s fu).2.length ≤ localCap := by
  unfold lookResult
  split
  · exact lookLoop_bound _ _ _ _ _ _ h hq
  · exact ⟨h, hq⟩

/-- A raised finding keeps every queue within its capacity. -/
theorem raise_queuesBounded (s : State) (k : FindingKind) (t : Option Nat) (j : Subject) (vs : List Word32)
    (h : queuesBounded s) : queuesBounded (raise s k t j vs) := by
  have b := lookResult_bound s (takeFinding (stampOf s.clock) s.findings (findingOf s k t j vs))
    (takeFinding_bound _ _ _ h.1) h.2.2.1
  exact ⟨b.1, h.2.1, b.2, h.2.2.2.1, h.2.2.2.2⟩

/-- The Finding Unit's look keeps every queue within its capacity. -/
theorem findingLook_queuesBounded (s : State) (h : queuesBounded s) : queuesBounded (findingLook s) := by
  have b := lookResult_bound s s.findings h.1 h.2.2.1
  exact ⟨b.1, h.2.1, b.2, h.2.2.2.1, h.2.2.2.2⟩

/-- A raised finding leaves the masks alone. -/
theorem takeFinding_masks (st : Stamp) (fu : FindingUnit) (f : Finding) : (takeFinding st fu f).masks = fu.masks := by
  have hc : ∀ x : FindingUnit, (checkLost st x).masks = x.masks := by
    intro x
    unfold checkLost
    split <;> rfl
  unfold takeFinding
  split
  · rfl
  · split
    · rfl
    · split
      · rfl
      · unfold takeAtFull
        split
        · rfl
        · split
          · rw [hc]
            rfl
          · rfl

/-- The look leaves the masks alone. -/
theorem lookLoop_masks (node hs : Nat) (st : Stamp) (k : Nat) (fu : FindingUnit) (q : List LocalFrame) :
    (lookLoop node hs st k fu q).1.masks = fu.masks := by
  have hc : ∀ x : FindingUnit, (checkLost st x).masks = x.masks := by
    intro x
    unfold checkLost
    split <;> rfl
  induction k generalizing fu q with
  | zero => rfl
  | succ k ih =>
    unfold lookLoop
    split
    · rfl
    · split
      · rw [ih, hc]
      · rfl

/-- A raised finding leaves the masks alone (R163). -/
@[simp] theorem raise_masks (s : State) (k : FindingKind) (t : Option Nat) (j : Subject) (vs : List Word32) :
    (raise s k t j vs).findings.masks = s.findings.masks := by
  show (lookResult s _).1.masks = _
  unfold lookResult
  split
  · rw [lookLoop_masks, takeFinding_masks]
  · exact takeFinding_masks _ _ _

/-! ## The local queues (R169, R178, R182) -/

/-- An offered reply keeps the port's local queue within its capacity. -/
theorem portWithReply_bound (r : PortRec) (f : LocalFrame) (h : r.localQ.length ≤ localCap) :
    (portWithReply r f).localQ.length ≤ localCap := by
  unfold portWithReply
  split
  · next hl =>
    simp only [List.length_append, List.length_cons, List.length_nil]
    omega
  · exact h

/-- An offered reply leaves the port's transit queue alone. -/
@[simp] theorem portWithReply_transit (r : PortRec) (f : LocalFrame) : (portWithReply r f).transit = r.transit := by
  unfold portWithReply
  split <;> rfl

/-- A reply keeps every queue within its capacity. -/
theorem replyAs_queuesBounded (s : State) (w : LocalKind) (o : Origin) (code : Nat) (x : Option (Reason × Nat))
    (rs : List Byte) (h : queuesBounded s) : queuesBounded (replyAs s w o code x rs) := by
  obtain ⟨p, tag⟩ := o
  cases p
  · refine ⟨h.1, portWithReply_bound _ _ h.2.1, h.2.2.1, ?_, h.2.2.2.2⟩
    show (portWithReply _ _).transit.length ≤ _
    rw [portWithReply_transit]
    exact h.2.2.2.1
  · refine ⟨h.1, h.2.1, portWithReply_bound _ _ h.2.2.1, h.2.2.2.1, ?_⟩
    show (portWithReply _ _).transit.length ≤ _
    rw [portWithReply_transit]
    exact h.2.2.2.2

/-- A reply changes the port's record and the REPLY number only (R182). -/
theorem replyAs_only (s : State) (w : LocalKind) (o : Origin) (code : Nat) (x : Option (Reason × Nat)) (rs : List Byte) :
    ∃ u d n, replyAs s w o code x rs = { s with portU := u, portD := d, replySeq := n } := ⟨_, _, _, rfl⟩

/-- A frame replaced in its place keeps the queue's length. -/
@[simp] theorem replaceAdvice_length (t : Tid) (f : LocalFrame) (q : List LocalFrame) :
    (replaceAdvice t f q).length = q.length := by
  induction q with
  | nil => rfl
  | cons g gs ih =>
    unfold replaceAdvice
    split
    · rfl
    · simp [ih]

/-- An offer of an ADVICE frame keeps the Port U local queue within its capacity. -/
theorem offeredQueue_bound (s : State) (t : Tid) (h : s.portU.localQ.length ≤ localCap) :
    (offeredQueue s t).length ≤ localCap := by
  unfold offeredQueue
  cases e : adviceOffer s t with
  | replaced => simpa using h
  | placed =>
    unfold adviceOffer at e
    split at e
    · cases e
    · split at e
      · next hc =>
        simp only [List.length_append, List.length_cons, List.length_nil]
        have := hc.2.2
        omega
      · cases e
  | owed => exact h

/-- An offer of an ADVICE frame keeps every queue within its capacity. -/
theorem offerAdvice_queuesBounded (s : State) (t : Tid) (h : queuesBounded s) : queuesBounded (offerAdvice s t) :=
  ⟨h.1, offeredQueue_bound s t h.2.1, h.2.2.1, h.2.2.2.1, h.2.2.2.2⟩

/-- Placing the owed frame of a turbine keeps every queue within its capacity. -/
theorem placeOwedOne_queuesBounded (s : State) (t : Tid) (h : queuesBounded s) : queuesBounded (placeOwedOne s t) := by
  unfold placeOwedOne
  split
  · next hc =>
    refine ⟨h.1, ?_, h.2.2.1, h.2.2.2.1, h.2.2.2.2⟩
    simp only [List.length_append, List.length_cons, List.length_nil]
    have := hc.2.2
    omega
  · exact h

/-- A property that one step of a fold keeps, the fold keeps. -/
theorem foldl_keeps {α : Type} {f : State → α → State} {P : State → Prop} (h : ∀ s a, P s → P (f s a))
    (l : List α) (s : State) (hs : P s) : P (l.foldl f s) := by
  induction l generalizing s with
  | nil => exact hs
  | cons a l ih => exact ih _ (h s a hs)

/-! ## The Command Unit's checks (R177, R181) -/

/-- A port that accepts a command receives it. -/
theorem accepts_receives {s : State} {o : Origin} (h : accepts s o) : receives s o.port = true := by
  unfold receives
  simp [h.1, h.2.1]

/-- A port that accepts a command does not refuse it WRONG_PORT. -/
theorem accepts_rightPort {s : State} {o : Origin} (h : accepts s o) : wrongPort s o = false := by
  unfold wrongPort
  rcases h.2.2.1 with hp | hu
  · simp [hp]
  · simp [hu]

/-- An accepted command ends in what it does past the checks (R181). -/
theorem command_accepted {s : State} {o : Origin} (h : accepts s o) (code : Nat) (body : State → State) :
    command o code body s = .next (settle (body s)) := by
  unfold command takeCommand
  rw [if_pos (accepts_receives h), accepts_rightPort h, if_neg (by simp), if_pos h.2.2.2]
  rfl

/-- A command on a port that may not manage the part is refused (R177). -/
theorem command_wrongPort {s : State} {o : Origin} (hr : receives s o.port = true) (hw : wrongPort s o = true) (code : Nat)
    (body : State → State) : command o code body s = .next (settle (replyRefused s o code .wrongPort 0)) := by
  unfold command takeCommand
  rw [if_pos hr, if_pos hw]
  rfl

/-- A command taken while the unit is WORKING is refused (R181). -/
theorem command_busy {s : State} {o : Origin} (hr : receives s o.port = true) (hw : wrongPort s o = false)
    (hb : s.cmd ≠ .ready) (code : Nat) (body : State → State) :
    command o code body s = .next (settle (replyRefused s o code .busy 0)) := by
  unfold command takeCommand
  rw [if_pos hr, hw, if_neg (by simp), if_neg hb]
  rfl

/-- A command on a port that takes no frame changes nothing (entry 3). -/
theorem command_deaf {s : State} {o : Origin} (hr : receives s o.port = false) (code : Nat) (body : State → State) :
    command o code body s = .next s := by
  unfold command
  rw [hr, if_neg (by simp)]

/-! ## The end of a step -/

/-- The first slot out of range in a list, by its position (R184). -/
theorem firstBadSlot_first {pre : List Nat} (h : ∀ x ∈ pre, x < 192) {k : Nat} (hk : 192 ≤ k) (post : List Nat) (n : Nat) :
    firstBadSlot n (pre ++ k :: post) = some (n + pre.length) := by
  induction pre generalizing n with
  | nil => simp [firstBadSlot, Nat.not_lt.2 hk]
  | cons a pre ih =>
    have ha := h a (by simp)
    simp only [List.cons_append, firstBadSlot, ha, if_true]
    rw [ih (fun x hx => h x (by simp [hx])) (n + 1)]
    simp
    omega

/-- The finding kinds have the codes 1 to 37 and no others (R193). -/
theorem kindOfCode_isSome (c : Nat) : (kindOfCode c).isSome = true ↔ 1 ≤ c ∧ c ≤ 37 := by
  constructor
  · intro h
    obtain ⟨k, hk⟩ := Option.isSome_iff_exists.1 h
    have hc := List.find?_some hk
    have hall : ∀ x ∈ findingKinds, 1 ≤ kindCode x ∧ kindCode x ≤ 37 := by decide
    have := hall k (List.mem_of_find?_eq_some hk)
    simp at hc
    omega
  · intro h
    have hall : ∀ k : Fin 37, (kindOfCode (k.val + 1)).isSome = true := by decide
    simpa [Nat.sub_add_cancel h.1] using hall ⟨c - 1, by omega⟩

/-- The end of a step with no commit waiting forms ATTN and nothing else (R166). -/
theorem settle_eq_formAttn {s : State} (h : ∀ p, s.cmd ≠ .commit p) : settle s = formAttn s := by
  unfold settle settleCommit waitingGroups
  cases hc : s.cmd with
  | commit p => exact absurd hc (h p)
  | ready => simp [settleLoop, endCommit, hc]
  | save o b => simp [settleLoop, endCommit, hc]
  | restart b => simp [settleLoop, endCommit, hc]

/-- ATTN formed again stands at the value of its causes. -/
theorem formAttn_attnFormed (s : State) : attnFormed (formAttn s) := rfl

/-- The end of a step leaves ATTN at the value of its causes (R166). -/
theorem settle_attnFormed (s : State) : attnFormed (settle s) := rfl

/-- Forming ATTN writes that line only. -/
theorem formAttn_eq (s : State) : formAttn s = { s with findings := { s.findings with attn := attnValue s } } := rfl

end Sys2Proof.Machine
end

