-- ==== Sys2Proof/Laws/Engine.lean ====
section
/-! SUPPORT. Laws/Engine.lean: the engine's look for work leaves the Analysis Queue within its capacity and no record
waiting at an IDLE engine (R54, R56), and is one choice and a further look (R58). -/

namespace Sys2Proof.Machine

/-- A discarded vibration record leaves the engine alone. -/
@[simp] theorem vibDiscarded_engine (s : State) (r : VibRecord) : (vibDiscarded s r).engine = s.engine := by
  obtain ⟨_, _, _, h⟩ := vibDiscarded_only s r
  rw [h]

/-- A discarded harmonic record leaves the engine alone. -/
@[simp] theorem harmDiscarded_engine (s : State) : (harmDiscarded s).engine = s.engine := rfl

/-- A raised finding leaves the engine alone. -/
theorem raise_keeps_engine (s : State) (k : FindingKind) (t : Option Nat) (j : Subject) (vs : List Word32) :
    (raise s k t j vs).engine = s.engine := rfl

/-- The start check of a vibration record takes it from its class and leaves the other class alone. -/
theorem startVib_queues (s : State) (r : VibRecord) (rest : List VibRecord) :
    (startVib s r rest).engine.vibQueue = rest ∧ (startVib s r rest).engine.harmQueue = s.engine.harmQueue := by
  unfold startVib
  dsimp only
  split
  · exact ⟨rfl, rfl⟩
  · rw [vibDiscarded_engine]
    exact ⟨rfl, rfl⟩

/-- The start check of a harmonic record takes it from its class and leaves the other class alone. -/
theorem startHarm_queues (s : State) (r : HarmRecord) (rest : List HarmRecord) :
    (startHarm s r rest).engine.harmQueue = rest ∧ (startHarm s r rest).engine.vibQueue = s.engine.vibQueue := by
  unfold startHarm
  dsimp only
  split
  · exact ⟨rfl, rfl⟩
  · exact ⟨rfl, rfl⟩

/-- One choice of the arbiter takes one record from one class, or finds none. -/
theorem engineOnce_queues (s : State) :
    (s.engine.vibQueue = [] ∧ s.engine.harmQueue = [] ∧ engineOnce s = s) ∨
    ((engineOnce s).engine.vibQueue.length + (engineOnce s).engine.harmQueue.length + 1 =
        s.engine.vibQueue.length + s.engine.harmQueue.length ∧
      (engineOnce s).engine.vibQueue.length ≤ s.engine.vibQueue.length ∧
      (engineOnce s).engine.harmQueue.length ≤ s.engine.harmQueue.length) := by
  unfold engineOnce
  cases hh : s.engine.harmQueue with
  | nil =>
    cases hv : s.engine.vibQueue with
    | nil => exact Or.inl ⟨rfl, rfl, rfl⟩
    | cons v vs =>
      right
      have q := startVib_queues s v vs
      simp only
      rw [q.1, q.2, hh]
      simp
  | cons h hs =>
    right
    cases hv : s.engine.vibQueue with
    | nil =>
      have q := startHarm_queues s h hs
      simp only
      rw [q.1, q.2, hv]
      simp
    | cons v vs =>
      simp only
      split
      · have q := startHarm_queues s h hs
        rw [q.1, q.2, hv]
        simp
        omega
      · have q := startVib_queues s v vs
        rw [q.1, q.2, hh]
        simp
        omega

/-- The loop of choices with fuel for every record that waits ends with a record in analysis or none waiting. -/
theorem engineLoop_sound (k : Nat) (s : State) (hk : s.engine.vibQueue.length + s.engine.harmQueue.length ≤ k)
    (hv : s.engine.vibQueue.length ≤ vibCap) (hh : s.engine.harmQueue.length ≤ harmCap) :
    engineSound (engineLoop k s) := by
  induction k generalizing s with
  | zero =>
    have e1 : s.engine.vibQueue.length = 0 := by omega
    have e2 : s.engine.harmQueue.length = 0 := by omega
    exact ⟨hv, hh, fun _ => ⟨List.length_eq_zero_iff.mp e1, List.length_eq_zero_iff.mp e2⟩⟩
  | succ k ih =>
    unfold engineLoop
    cases ha : s.engine.analysing with
    | some r =>
      refine ⟨hv, hh, fun h => ?_⟩
      simp only [ha] at h
      cases h
    | none =>
      simp only
      rcases engineOnce_queues s with ⟨e1, e2, e3⟩ | ⟨q1, q2, q3⟩
      · rw [e3]
        exact ih s (by rw [e1, e2]; simp) hv hh
      · exact ih _ (by omega) (by omega) (by omega)

/-- The engine's look leaves it sound (R54, R56). -/
theorem engineLook_sound (s : State) (hv : s.engine.vibQueue.length ≤ vibCap) (hh : s.engine.harmQueue.length ≤ harmCap) :
    engineSound (engineLook s) :=
  engineLoop_sound _ s (by omega) hv hh

/-- A loop with fuel for every record that waits does no more with one choice more (R56, R58). -/
theorem engineLoop_enough (k : Nat) (s : State) (hk : s.engine.vibQueue.length + s.engine.harmQueue.length ≤ k) :
    engineLoop (k + 1) s = engineLoop k s := by
  have next : ∀ n (x : State), engineLoop (n + 1) x =
      match x.engine.analysing with
      | some _ => x
      | none => engineLoop n (engineOnce x) := fun _ _ => rfl
  induction k generalizing s with
  | zero =>
    have e1 : s.engine.vibQueue = [] := List.length_eq_zero_iff.mp (by omega)
    have e2 : s.engine.harmQueue = [] := List.length_eq_zero_iff.mp (by omega)
    have q : engineOnce s = s := by unfold engineOnce; rw [e1, e2]
    rw [next, q]
    cases s.engine.analysing <;> rfl
  | succ k ih =>
    rw [next (k + 1) s]
    conv_rhs => rw [next k s]
    cases s.engine.analysing with
    | some r => rfl
    | none =>
      simp only
      rcases engineOnce_queues s with ⟨e1, e2, e3⟩ | ⟨q1, _, _⟩
      · rw [e3]; exact ih s (by rw [e1, e2]; simp)
      · exact ih _ (by omega)

/-- The look of an IDLE engine is one choice and a further look (R56, R58). -/
theorem engineLook_again (s : State) (hv : s.engine.vibQueue.length ≤ vibCap) (hh : s.engine.harmQueue.length ≤ harmCap)
    (ha : s.engine.analysing = none) : engineLook s = engineLook (engineOnce s) := by
  unfold engineLook
  rw [← engineLoop_enough _ s (by omega), engineLoop, ha]

/-- A vibration record queued leaves the engine sound (R55, R56). -/
theorem queueVib_sound (s : State) (r : VibRecord) (h : engineSound s) : engineSound (queueVib s r) := by
  unfold queueVib
  dsimp only
  split
  · next hl =>
    apply engineLook_sound
    · simp only [List.length_append, List.length_cons, List.length_nil]
      omega
    · exact h.2.1
  · unfold engineSound
    rw [vibDiscarded_engine]
    exact h

/-- A harmonic record queued leaves the engine sound (R55, R56). -/
theorem queueHarm_sound (s : State) (r : HarmRecord) (h : engineSound s) : engineSound (queueHarm s r) := by
  unfold queueHarm
  dsimp only
  split
  · next hl =>
    apply engineLook_sound
    · exact h.1
    · simp only [List.length_append, List.length_cons, List.length_nil]
      omega
  · exact h

end Sys2Proof.Machine
end

