-- ==== Sys2Proof/Laws/Grades.lean ====
section
/-! SUPPORT. Laws/Grades.lean: what the roots, the levels, the judging of a window's bands and the forming of grades do (R76, R78,
R81, R82). -/

namespace Sys2Proof.Machine

/-! ## Square roots -/

/-- The root with fuel for enough binary digits is the whole root. -/
theorem isqrtFuel_spec : ∀ (k n : Nat), n < 4 ^ k → isqrtFuel k n * isqrtFuel k n ≤ n ∧ n < (isqrtFuel k n + 1) * (isqrtFuel k n + 1) := by
  intro k
  induction k with
  | zero => intro n h; simp at h; subst h; simp [isqrtFuel]
  | succ k ih =>
    intro n h
    have h4 : n / 4 < 4 ^ k := by rw [Nat.pow_succ] at h; omega
    obtain ⟨h1, h2⟩ := ih _ h4
    simp only [isqrtFuel]
    generalize isqrtFuel k (n / 4) = r at h1 h2
    have e1 : 4 * (r * r) ≤ n := by omega
    have e2 : n < 4 * ((r + 1) * (r + 1)) := by omega
    split
    · next hc => exact ⟨hc, by nlinarith⟩
    · next hc => exact ⟨by nlinarith, by omega⟩

/-- The whole root rounded down. -/
theorem isqrt_spec (n : Nat) : isqrt n * isqrt n ≤ n ∧ n < (isqrt n + 1) * (isqrt n + 1) := by
  apply isqrtFuel_spec
  have h := Nat.lt_log2_self (n := n)
  calc n < 2 ^ (n.log2 + 1) := h
    _ ≤ 4 ^ (n.log2 + 1) := Nat.pow_le_pow_left (by omega) _

/-- The whole number nearest to a root lies within one half of it. -/
theorem nearestSqrt_spec (num den : Nat) (hd : 0 < den) :
    4 * num < (2 * nearestSqrt num den + 1) ^ 2 * den ∧
    (nearestSqrt num den ≠ 0 → (2 * nearestSqrt num den - 1) ^ 2 * den ≤ 4 * num) := by
  unfold nearestSqrt
  obtain ⟨h1, h2⟩ := isqrt_spec (4 * num / den)
  generalize isqrt (4 * num / den) = r at h1 h2
  constructor
  · have e : r + 1 ≤ 2 * ((r + 1) / 2) + 1 := by omega
    have e2 : 4 * num < (4 * num / den + 1) * den := by
      have := Nat.lt_div_mul_add (a := 4 * num) hd
      rw [Nat.add_mul]; omega
    have e3 : (r + 1) * (r + 1) ≤ (2 * ((r + 1) / 2) + 1) ^ 2 := by rw [pow_two]; exact Nat.mul_le_mul e e
    calc 4 * num < (4 * num / den + 1) * den := e2
      _ ≤ (2 * ((r + 1) / 2) + 1) ^ 2 * den := Nat.mul_le_mul_right _ (by omega)
  · intro h
    have e : 2 * ((r + 1) / 2) - 1 ≤ r := by omega
    calc (2 * ((r + 1) / 2) - 1) ^ 2 * den ≤ (r * r) * den := Nat.mul_le_mul_right _ (by rw [pow_two]; exact Nat.mul_le_mul e e)
      _ ≤ 4 * num / den * den := Nat.mul_le_mul_right _ h1
      _ ≤ 4 * num := Nat.div_mul_le_self _ _

/-- The divisor of a mean square is positive where there are samples. -/
theorem powerDen_pos {n : Nat} (h : 0 < n) : 0 < powerDen n := by
  unfold powerDen
  have : 0 < trigUnit := by unfold trigUnit; positivity
  positivity

/-! ## The worst grade -/

/-- The worst of a list of grades: none of them is worse, and it is one of them or UNKNOWN (R81). -/
theorem worstGrade_spec (gs : List Grade) :
    (∀ g ∈ gs, gradeCode g ≤ gradeCode (worstGrade gs)) ∧ (worstGrade gs = .unknown ∨ worstGrade gs ∈ gs) := by
  have key : ∀ (gs : List Grade) (a : Grade), gradeCode a ≤ gradeCode (gs.foldl worseGrade a) ∧ (∀ g ∈ gs, gradeCode g ≤ gradeCode (gs.foldl worseGrade a)) ∧
      (gs.foldl worseGrade a = a ∨ gs.foldl worseGrade a ∈ gs) := by
    intro gs
    induction gs with
    | nil => intro a; simp
    | cons x xs ih =>
      intro a
      obtain ⟨h1, h2, h3⟩ := ih (worseGrade a x)
      have hw : gradeCode a ≤ gradeCode (worseGrade a x) ∧ gradeCode x ≤ gradeCode (worseGrade a x) ∧ (worseGrade a x = a ∨ worseGrade a x = x) := by
        unfold worseGrade; split <;> simp <;> omega
      refine ⟨le_trans hw.1 h1, ?_, ?_⟩
      · intro g hg
        rcases List.mem_cons.1 hg with rfl | hg
        · exact le_trans hw.2.1 h1
        · exact h2 g hg
      · rw [List.foldl_cons]
        rcases h3 with h | h
        · rcases hw.2.2 with h' | h'
          · left; rw [h, h']
          · right; rw [h, h']; simp
        · right; simp [h]
  exact ⟨(key gs .unknown).2.1, (key gs .unknown).2.2⟩

/-! ## A graded window -/

/-- The bands of a window are judged one by one (R76 to R80). -/
theorem judgeBands_spec (set : BandSet) (ice : IceState) (meanSpeed hz : Nat) (g : Band → Nat) (bs : List Band)
    (xs : List BandState) (h : bs.length = xs.length) :
    (judgeBands set ice meanSpeed hz bs (bs.map g) xs).length = bs.length ∧
    ∀ (k : Nat) b x, bs[k]? = some b → xs[k]? = some x →
      (judgeBands set ice meanSpeed hz bs (bs.map g) xs)[k]? = some (judgeBand set ice meanSpeed hz b (g b) x) := by
  induction bs generalizing xs with
  | nil => simp [judgeBands]
  | cons b bs ih =>
    cases xs with
    | nil => simp at h
    | cons x xs =>
      obtain ⟨i1, i2⟩ := ih xs (by simpa using h)
      simp only [List.map_cons, judgeBands]
      refine ⟨by simp [i1], fun k b' x' hb hx => ?_⟩
      cases k with
      | zero => simp at hb hx; subst hb hx; simp
      | succ k => simp at hb hx; simpa using i2 k b' x' hb hx

/-- The band states fitted to a set: as many as it has bands, each that of its place or fresh. -/
theorem fitBands_spec (n : Nat) (xs : List BandState) :
    (fitBands n xs).length = n ∧ ∀ k, k < n → (fitBands n xs)[k]? = some (xs.getD k .fresh) :=
  ⟨by simp [fitBands], fun k hk => by simp [fitBands, hk]⟩

/-- The bands of a window judged, each with the state of its place or a fresh one (R76 to R80). -/
theorem judgeBands_eq (set : BandSet) (ice : IceState) (meanSpeed hz : Nat) (g : Band → Nat) (xs : List BandState) :
    judgeBands set ice meanSpeed hz set.bands (set.bands.map g) (fitBands set.bands.length xs) =
      set.bands.zipIdx.map (fun p => judgeBand set ice meanSpeed hz p.1 (g p.1) (xs.getD p.2 .fresh)) := by
  obtain ⟨hl, hf⟩ := fitBands_spec set.bands.length xs
  obtain ⟨hn, hj⟩ := judgeBands_spec set ice meanSpeed hz g set.bands (fitBands set.bands.length xs) hl.symm
  apply List.ext_getElem?
  intro k
  by_cases hk : k < set.bands.length
  · obtain ⟨y, hy⟩ : ∃ y, set.bands[k]? = some y := ⟨_, List.getElem?_eq_getElem hk⟩
    rw [hj k y _ hy (hf k hk)]
    simp [List.getElem?_map, hy]
  · rw [List.getElem?_eq_none (by omega), List.getElem?_eq_none (by simp; omega)]

/-- The changes of grade from a band whose runs are up to date (R78, R79, R82). -/
theorem changesFrom_eq (p : Nat) (b : Band) (l : Nat) (w : BandState) (hu : w.grade ≠ .unknown) :
    (if (risen p w).grade = w.grade then
        if (fallCheck p b l w).grade = w.grade then [] else [(w.grade, (fallCheck p b l w).grade)]
      else
        (if (riseToAlert p w).grade = w.grade then [] else [(w.grade, (riseToAlert p w).grade)]) ++
          if (risen p w).grade = (riseToAlert p w).grade then [] else [((riseToAlert p w).grade, (risen p w).grade)]) =
      let now := (if (risen p w).grade = w.grade then fallCheck p b l w else risen p w).grade
      if now = w.grade then []
      else if w.grade = .good ∧ now = .alarm then [(.good, .alert), (.alert, .alarm)] else [(w.grade, now)] := by
  rcases hg : w.grade with _ | _ | _ | _
  · exact absurd hg hu
  · by_cases h1 : p ≤ w.exceed <;> by_cases h2 : p ≤ w.alarm <;>
      simp [risen, riseToAlert, riseToAlarm, fallCheck, hg, h1, h2]
  · by_cases h2 : p ≤ w.alarm <;> by_cases h3 : 8 * l < 7 * lowerLevel b .alert <;> by_cases h4 : p ≤ w.fall + 1 <;>
      simp [risen, riseToAlert, riseToAlarm, fallCheck, hg, h2, h3, h4, stepDown]
  · by_cases h3 : 8 * l < 7 * lowerLevel b .alarm <;> by_cases h4 : p ≤ w.fall + 1 <;>
      simp [risen, riseToAlert, riseToAlarm, fallCheck, hg, h3, h4, stepDown]

/-- The changes of grade that grading a band makes, by its grade before, GOOD for one without a grade, and after (R78, R79,
R82). -/
theorem gradeChanges_eq (p : Nat) (b : Band) (l : Nat) (x : BandState) :
    gradeChanges p b l x =
      let base := if x.grade = .unknown then Grade.good else x.grade
      let now := (gradeBand p b l x).grade
      if now = base then [] else if base = .good ∧ now = .alarm then [(.good, .alert), (.alert, .alarm)] else [(base, now)] := by
  have hu : (withRuns b l x).grade ≠ .unknown := by
    show (if x.grade = .unknown then Grade.good else x.grade) ≠ .unknown
    split <;> simp_all
  exact changesFrom_eq p b l (withRuns b l x) hu

/-- The findings of a window's bands as one list, each with its band number, raised one after another (R82). -/
theorem raiseBandFindings_eq (i : SlotId) (t : Option Nat) (js : List (BandState × List BandFinding)) (n : Nat) (s : State) :
    raiseBandFindings i t n (js.map (fun j => j.2)) s =
      (((js.zipIdx n).map (fun p => p.1.2.map (fun f => (p.2, f)))).flatten).foldl
        (fun u p => raise u p.2.1 t (.slotBand i p.1) p.2.2) s := by
  induction js generalizing n s with
  | nil => rfl
  | cons j js ih =>
    simp only [List.map_cons, raiseBandFindings, List.zipIdx_cons, List.flatten_cons, List.foldl_append, List.foldl_map]
    rw [ih]

/-- Findings raised one after another write the Finding Unit and the Port D local queue only (R158, R164). -/
theorem foldl_raise_only {α : Type} (k : α → FindingKind) (t : α → Option Nat) (j : α → Subject) (vs : α → List Word32)
    (as : List α) (s : State) :
    ∃ f q, as.foldl (fun s a => raise s (k a) (t a) (j a) (vs a)) s =
      { s with findings := f, portD := { s.portD with localQ := q } } := by
  induction as generalizing s with
  | nil => exact ⟨_, _, rfl⟩
  | cons a as ih =>
    obtain ⟨f, q, h⟩ := ih (raise s (k a) (t a) (j a) (vs a))
    rw [List.foldl_cons, h]
    exact ⟨_, _, rfl⟩

/-- The findings of a window's bands write the Finding Unit and the Port D local queue only (R82). -/
theorem raiseBandFindings_only (i : SlotId) (t : Option Nat) (n : Nat) (fss : List (List BandFinding)) (s : State) :
    ∃ f q, raiseBandFindings i t n fss s = { s with findings := f, portD := { s.portD with localQ := q } } := by
  induction fss generalizing n s with
  | nil => exact ⟨_, _, rfl⟩
  | cons fs rest ih =>
    unfold raiseBandFindings
    obtain ⟨f, q, h⟩ := foldl_raise_only (fun f : BandFinding => f.1) (fun _ => t) (fun _ => .slotBand i n)
      (fun f : BandFinding => f.2) fs s
    obtain ⟨f2, q2, h2⟩ := ih (n + 1) { s with findings := f, portD := { s.portD with localQ := q } }
    rw [h, h2]
    exact ⟨_, _, rfl⟩

/-! ## Grades formed again -/

/-- A state in which the item table, the Finding Unit, the Port D local queue and the linked grades are as given. -/
def linkedAs (s : State) (items : Tab (Option Item) 96) (f : FindingUnit) (q : List LocalFrame)
    (linked : Tab (Tab Grade 32) 24) : State :=
  { s with items := items, findings := f, portD := { s.portD with localQ := q }, vib := { s.vib with linked := linked } }

/-- One linked grade formed again (R81). -/
theorem formLinked_spec (t : Tid) (sl : List SlotId) (s : State) (a : SetId) :
    ∃ items f q linked, formLinked t sl s a = linkedAs s items f q linked ∧
      (∀ y, y ≠ t → linked.get y = s.vib.linked.get y) ∧
      ∀ b, (linked.get t).get b =
        if b = a then worstGrade ((slotsNaming s sl b).map (streamGrade s)) else (s.vib.linked.get t).get b := by
  by_cases h : worstGrade ((slotsNaming s sl a).map (streamGrade s)) = (s.vib.linked.get t).get a
  · refine ⟨s.items, s.findings, s.portD.localQ, s.vib.linked, ?_, fun _ _ => rfl, fun b => ?_⟩
    · unfold formLinked
      simp only [h, if_true]
      rfl
    · by_cases e : b = a
      · subst e
        rw [if_pos rfl, h]
      · rw [if_neg e]
  · obtain ⟨items, f, q, he⟩ := linkedChange_only
      { s with vib := { s.vib with
          linked := upd s.vib.linked t (fun l => put l a (worstGrade ((slotsNaming s sl a).map (streamGrade s)))) } }
      t a ((s.vib.linked.get t).get a) (worstGrade ((slotsNaming s sl a).map (streamGrade s)))
    refine ⟨items, f, q, upd s.vib.linked t (fun l => put l a (worstGrade ((slotsNaming s sl a).map (streamGrade s)))), ?_,
      fun y hy => by simp [hy], fun b => ?_⟩
    · unfold formLinked
      simp only [h, if_false]
      rw [he]
      rfl
    · simp only [get_upd, if_true, get_put]
      by_cases e : b = a
      · rw [if_pos e, if_pos e, e]
      · rw [if_neg e, if_neg e]

/-- Linked grades formed again for several band sets (R81). -/
theorem foldl_formLinked_spec (t : Tid) (sl : List SlotId) (bs : List SetId) (s : State) (hn : bs.Nodup) :
    ∃ items f q linked, bs.foldl (formLinked t sl) s = linkedAs s items f q linked ∧
      (∀ y, y ≠ t → linked.get y = s.vib.linked.get y) ∧
      ∀ b, (linked.get t).get b =
        if b ∈ bs then worstGrade ((slotsNaming s sl b).map (streamGrade s)) else (s.vib.linked.get t).get b := by
  induction bs generalizing s with
  | nil => exact ⟨s.items, s.findings, s.portD.localQ, s.vib.linked, rfl, fun _ _ => rfl, fun b => by simp⟩
  | cons a as ih =>
    obtain ⟨items, f, q, linked, e, e1, e2⟩ := formLinked_spec t sl s a
    obtain ⟨items', f', q', linked', g, g1, g2⟩ := ih (linkedAs s items f q linked) (List.nodup_cons.1 hn).2
    refine ⟨items', f', q', linked', ?_, fun y hy => (g1 y hy).trans (e1 y hy), fun b => ?_⟩
    · rw [List.foldl_cons, e, g]
      rfl
    · have hsame : worstGrade ((slotsNaming (linkedAs s items f q linked) sl b).map (streamGrade (linkedAs s items f q linked))) =
          worstGrade ((slotsNaming s sl b).map (streamGrade s)) := rfl
      have hl : (linkedAs s items f q linked).vib.linked = linked := rfl
      rw [g2, hsame, hl, e2]
      have hna := (List.nodup_cons.1 hn).1
      by_cases hb : b ∈ as
      · simp [hb]
      · by_cases hba : b = a <;> simp [hb, hba, hna]

/-- A turbine's grades formed again: its vibration grade is the worst of its streams' grades, its linked grade for each set the
worst of those that name it, every other turbine's grades stay, and beside the grades only items, findings and the Port D local
queue may be written (R81). -/
theorem formGrades_spec (s : State) (t : Tid) :
    ∃ items f q linked,
      formGrades s t =
        linkedAs { s with vib := { s.vib with
          grades := put s.vib.grades t (worstGrade ((vibSlots s t).map (streamGrade s))) } } items f q linked ∧
      (∀ y, y ≠ t → linked.get y = s.vib.linked.get y) ∧
      ∀ b, (linked.get t).get b = worstGrade ((slotsNaming s (vibSlots s t) b).map (streamGrade s)) := by
  obtain ⟨items, f, q, linked, h, h1, h2⟩ := foldl_formLinked_spec t (vibSlots s t) allSets
    { s with vib := { s.vib with grades := put s.vib.grades t (worstGrade ((vibSlots s t).map (streamGrade s))) } }
    (List.nodup_finRange _)
  refine ⟨items, f, q, linked, h, h1, fun b => ?_⟩
  rw [h2 b, if_pos (mem_allSets b)]
  rfl

/-- The summary counters' step writes the stream's own record, the Finding Unit and the Port D local queue only, and of the
record the summary counters only (R83). -/
theorem summaryStep_spec (s : State) (i : SlotId) (set : BandSet) (r : VibRec) (h : s.vib.recs.get i = some r) :
    ∃ skip post f q, summaryStep s i set =
      { s with findings := f, portD := { s.portD with localQ := q },
               vib := { s.vib with recs := put s.vib.recs i (some { r with skip := skip, post := post }) } } := by
  have hid : put s.vib.recs i (some { r with skip := r.skip, post := r.post }) = s.vib.recs := by
    rw [show ({ r with skip := r.skip, post := r.post } : VibRec) = r from rfl, ← h]
    simp
  unfold summaryStep updVib
  simp only [h, Option.map_some]
  split
  · exact ⟨r.skip, r.post, s.findings, s.portD.localQ, by rw [hid]⟩
  · split
    · exact ⟨_, _, s.findings, s.portD.localQ, rfl⟩
    · split
      · exact ⟨_, _, s.findings, s.portD.localQ, rfl⟩
      · exact ⟨_, _, _, _, rfl⟩

/-- The slots that hold a VIB record of a turbine, by the Stream Table and by which slots have a record. -/
theorem vibSlots_congr {s u : State} (t : Tid) (hs : u.streams = s.streams)
    (hr : ∀ i, (u.vib.recs.get i).isSome = (s.vib.recs.get i).isSome) : vibSlots u t = vibSlots s t := by
  have h : isVibOf u t = isVibOf s t := funext fun i => by simp only [isVibOf, hr, entryAt, hs]
  simp only [vibSlots, h]

/-- The slots of a turbine that name a band set, by the Stream Table. -/
theorem slotsNaming_congr {s u : State} (sl : List SlotId) (b : SetId) (hs : u.streams = s.streams) :
    slotsNaming u sl b = slotsNaming s sl b := by simp only [slotsNaming, entryAt, hs]

/-- A graded window: the stream's record takes its count, mean speed, bands and grade; the turbine's grades are formed from the
stream grades as they then stand; other streams and turbines keep theirs; and beside the Vibration Watch only items, findings
and the Port D local queue may be written (R76 to R83). -/
theorem gradeWindow_spec (s : State) (t : Tid) (i : SlotId) (set : BandSet) (meanSpeed hz : Nat) (g : Band → Nat) (v : VibRec)
    (hv : s.vib.recs.get i = some v) :
    ∃ v' items f q linked,
      let u := gradeWindow s t i set meanSpeed hz (set.bands.map g)
      u = linkedAs { s with vib := { s.vib with
        recs := put s.vib.recs i (some v'), grades := put s.vib.grades t (worstGrade ((vibSlots u t).map (streamGrade u))) } }
        items f q linked ∧
      v'.graded = bump v.graded ∧ v'.meanSpeed = some meanSpeed ∧ v'.window = v.window ∧
      v'.bands.length = set.bands.length ∧
      (∀ k b, set.bands[k]? = some b → v'.bands[k]? =
        some (judgeBand set (s.ice.get t).state meanSpeed hz b (g b) (v.bands.getD k .fresh)).1) ∧
      v'.grade = worstGrade (v'.bands.map (fun x => x.grade)) ∧
      (∀ y, y ≠ t → linked.get y = s.vib.linked.get y) ∧
      ∀ b, (linked.get t).get b = worstGrade ((slotsNaming u (vibSlots u t) b).map (streamGrade u)) := by
  obtain ⟨hfl, hfg⟩ := fitBands_spec set.bands.length v.bands
  obtain ⟨hJl, hJg⟩ := judgeBands_spec set (s.ice.get t).state meanSpeed hz g set.bands (fitBands set.bands.length v.bands) hfl.symm
  generalize hJ : judgeBands set (s.ice.get t).state meanSpeed hz set.bands (set.bands.map g) (fitBands set.bands.length v.bands) = J
    at hJl hJg
  let v1 : VibRec := { v with graded := bump v.graded, meanSpeed := some meanSpeed, bands := J.map (fun j => j.1),
                              grade := worstGrade (J.map (fun j => j.1.grade)) }
  have hgw : gradeWindow s t i set meanSpeed hz (set.bands.map g) =
      summaryStep (formGrades (raiseBandFindings i (slotTurbine s i) 1 (J.map (fun j => j.2)) (setVib s i (some v1))) t) i set := by
    simp only [gradeWindow, hv, hJ]
    rfl
  obtain ⟨f1, q1, h1⟩ := raiseBandFindings_only i (slotTurbine s i) 1 (J.map (fun j => j.2)) (setVib s i (some v1))
  rw [h1] at hgw
  obtain ⟨it2, f2, q2, l2, h2, h2a, h2b⟩ :=
    formGrades_spec { setVib s i (some v1) with findings := f1, portD := { (setVib s i (some v1)).portD with localQ := q1 } } t
  generalize hw : ({ setVib s i (some v1) with findings := f1, portD := { (setVib s i (some v1)).portD with localQ := q1 } } : State) = w
    at hgw h2 h2a h2b
  have hwr : w.vib.recs = put s.vib.recs i (some v1) := by rw [← hw]; rfl
  have hws : w.streams = s.streams := by rw [← hw]; rfl
  have hwl : w.vib.linked = s.vib.linked := by rw [← hw]; rfl
  have hget : (formGrades w t).vib.recs.get i = some v1 := by
    rw [h2]
    show w.vib.recs.get i = _
    rw [hwr]; simp
  obtain ⟨sk, po, f3, q3, h3⟩ := summaryStep_spec (formGrades w t) i set v1 hget
  rw [h3] at hgw
  generalize hu : gradeWindow s t i set meanSpeed hz (set.bands.map g) = u at hgw
  have hus : u.streams = s.streams := by rw [hgw, h2]; exact hws
  have hur : u.vib.recs = put w.vib.recs i (some { v1 with skip := sk, post := po }) := by rw [hgw, h2]; rfl
  have hsg : streamGrade u = streamGrade w := funext fun j => by
    simp only [streamGrade, hur, hwr, get_put]
    by_cases e : j = i
    · simp [e]
    · simp [e]
  have hvs : vibSlots u t = vibSlots w t := by
    refine vibSlots_congr t (hus.trans hws.symm) fun j => ?_
    simp only [hur, hwr, get_put]
    by_cases e : j = i <;> simp [e]
  have hpp : put (put s.vib.recs i (some v1)) i (some { v1 with skip := sk, post := po }) =
      put s.vib.recs i (some { v1 with skip := sk, post := po }) := by
    apply tab_ext
    intro j
    simp only [get_put]
    by_cases e : j = i <;> simp [e]
  refine ⟨{ v1 with skip := sk, post := po }, it2, f3, q3, l2, ?_, rfl, rfl, rfl, ?_, ?_, ?_, ?_, ?_⟩
  · simp only [hsg, hvs]
    rw [hgw, h2]
    have hwg : w.vib.grades = s.vib.grades := by rw [← hw]; rfl
    simp only [linkedAs, hwr, hpp, hwg]
    rw [← hw]
    rfl
  · simp only [v1, List.length_map]; exact hJl
  · intro k b hb
    have hk : k < set.bands.length := by
      rcases Nat.lt_or_ge k set.bands.length with h | h
      · exact h
      · rw [List.getElem?_eq_none h] at hb; simp at hb
    simp only [v1, List.getElem?_map, hJg k b _ hb (hfg k hk), Option.map_some]
  · simp only [v1, List.map_map]; rfl
  · intro y hy
    rw [h2a y hy, hwl]
  · intro b
    rw [h2b b, hsg, hvs, slotsNaming_congr _ _ (hus.trans hws.symm)]

end Sys2Proof.Machine
end

