-- ==== Sys2Proof/Laws/Grid.lean ====
section
/-! SUPPORT. Laws/Grid.lean: what the Harmonic Watch's shared operations do: the best of several comparisons, the two sorted
lists of a result, and the fields that only a result writes. -/

namespace Sys2Proof.Machine

/-! ## The best of several comparisons (R97) -/

/-- The comparison of one quantity over several streams: there is one where some stream gives one; its ratio is the highest,
and it exceeds, or is above one half, where some stream's does (R97, R108). -/
theorem bestOf_spec (cs : List (Option Compared)) :
    (bestOf cs = none ↔ ∀ c ∈ cs, c = none) ∧
    ∀ b, bestOf cs = some b → (∃ c, some c ∈ cs ∧ b.ratio = c.ratio) ∧ (∀ c, some c ∈ cs → c.ratio ≤ b.ratio) ∧
      (b.exceeds = true ↔ ∃ c, some c ∈ cs ∧ c.exceeds = true) ∧ (b.half = true ↔ ∃ c, some c ∈ cs ∧ c.half = true) := by
  induction cs with
  | nil => simp [bestOf]
  | cons x xs ih =>
    cases x with
    | none =>
      simp only [bestOf, List.mem_cons, forall_eq_or_imp, true_and, reduceCtorEq, false_or]
      exact ih
    | some c =>
      simp only [bestOf]
      cases hb : bestOf xs with
      | none =>
        have hn := ih.1.1 hb
        have none_of : ∀ (f : Compared → Bool) d, some d ∈ xs → f d = true → False := by
          intro f d hd _; cases hn _ hd
        simp only [reduceCtorEq, Option.some.injEq, List.mem_cons, forall_eq_or_imp, false_and, true_and]
        rintro b rfl
        refine ⟨⟨c, .inl rfl, rfl⟩, ⟨le_refl _, fun d hd => by cases hn _ hd⟩, ?_, ?_⟩
        · exact ⟨fun h => ⟨c, .inl rfl, h⟩, fun ⟨d, hd, h⟩ => hd.elim (fun e => e ▸ h) (fun hd => (none_of _ d hd h).elim)⟩
        · exact ⟨fun h => ⟨c, .inl rfl, h⟩, fun ⟨d, hd, h⟩ => hd.elim (fun e => e ▸ h) (fun hd => (none_of _ d hd h).elim)⟩
      | some d =>
        obtain ⟨⟨e, he, hr⟩, hm, hx, hh⟩ := ih.2 d hb
        have either : ∀ (f : Compared → Bool), (f d = true ↔ ∃ e, some e ∈ xs ∧ f e = true) →
            ((f c || f d) = true ↔ ∃ e, (e = c ∨ some e ∈ xs) ∧ f e = true) := by
          intro f hf
          rw [Bool.or_eq_true, hf]
          constructor
          · rintro (h | ⟨g, hg, h⟩)
            · exact ⟨c, .inl rfl, h⟩
            · exact ⟨g, .inr hg, h⟩
          · rintro ⟨g, rfl | hg, h⟩
            · exact .inl h
            · exact .inr ⟨g, hg, h⟩
        simp only [reduceCtorEq, Option.some.injEq, List.mem_cons, forall_eq_or_imp, false_and, true_and]
        rintro b rfl
        simp only [joinCompared]
        refine ⟨?_, ⟨by omega, fun f hf => by have := hm f hf; omega⟩, either (·.exceeds) hx, either (·.half) hh⟩
        rcases le_total c.ratio d.ratio with h | h
        · exact ⟨e, .inr he, by omega⟩
        · exact ⟨c, .inl rfl, by omega⟩

/-! ## The Contributor List and the summary as sorted lists (R99, R108) -/

/-- One place goes into the list as it is. -/
theorem insertPlace_perm (p : Place) (l : List Place) : (insertPlace p l).Perm (p :: l) := by
  induction l with
  | nil => exact .refl _
  | cons q qs ih =>
    simp only [insertPlace]
    split
    · exact .refl _
    · exact (ih.cons q).trans (.swap _ _ _)

/-- The order of places: by current, largest first, then by turbine number (R99). -/
def placeBefore (p q : Place) : Prop := q.current < p.current ∨ (q.current = p.current ∧ p.turbine ≤ q.turbine)

/-- A place goes into an ordered list at its place. -/
theorem insertPlace_sorted (p : Place) (l : List Place) (h : l.Pairwise placeBefore) : (insertPlace p l).Pairwise placeBefore := by
  induction l with
  | nil => simp [insertPlace]
  | cons q qs ih =>
    rw [List.pairwise_cons] at h
    simp only [insertPlace]
    split
    · rename_i hc
      rw [List.pairwise_cons, List.pairwise_cons]
      refine ⟨fun x hx => ?_, h⟩
      rcases List.mem_cons.1 hx with rfl | hx
      · exact hc.imp id (fun ⟨h1, h2⟩ => ⟨h1, le_of_lt h2⟩)
      · have := h.1 x hx; simp only [placeBefore, Fin.lt_def, Fin.le_def] at *; omega
    · rename_i hc
      rw [List.pairwise_cons]
      refine ⟨fun x hx => ?_, ih h.2⟩
      rcases List.mem_cons.1 ((insertPlace_perm p qs).mem_iff.1 hx) with rfl | hx
      · simp only [placeBefore, Fin.lt_def, Fin.le_def] at *; omega
      · exact h.1 x hx

/-- One order goes into the list as it is. -/
theorem insertRatio_perm (p : Nat × Compared) (l : List (Nat × Compared)) : (insertRatio p l).Perm (p :: l) := by
  induction l with
  | nil => exact .refl _
  | cons q qs ih =>
    simp only [insertRatio]
    split
    · exact .refl _
    · exact (ih.cons q).trans (.swap _ _ _)

/-- The order of orders: by ratio, highest first, then the lower order (R108). -/
def ratioBefore (p q : Nat × Compared) : Prop := q.2.ratio < p.2.ratio ∨ (q.2.ratio = p.2.ratio ∧ p.1 ≤ q.1)

/-- An order goes into an ordered list at its place. -/
theorem insertRatio_sorted (p : Nat × Compared) (l : List (Nat × Compared)) (h : l.Pairwise ratioBefore) :
    (insertRatio p l).Pairwise ratioBefore := by
  induction l with
  | nil => simp [insertRatio]
  | cons q qs ih =>
    rw [List.pairwise_cons] at h
    simp only [insertRatio]
    split
    · rename_i hc
      rw [List.pairwise_cons, List.pairwise_cons]
      refine ⟨fun x hx => ?_, h⟩
      rcases List.mem_cons.1 hx with rfl | hx
      · exact hc.imp id (fun ⟨h1, h2⟩ => ⟨h1, le_of_lt h2⟩)
      · have := h.1 x hx; simp only [ratioBefore] at *; omega
    · rename_i hc
      rw [List.pairwise_cons]
      refine ⟨fun x hx => ?_, ih h.2⟩
      rcases List.mem_cons.1 ((insertRatio_perm p qs).mem_iff.1 hx) with rfl | hx
      · simp only [ratioBefore] at *; omega
      · exact h.1 x hx

/-- A fold that inserts one element at a time, keeping all of them and an order, gives the elements in that order. -/
theorem foldl_insert {α : Type} {before : α → α → Prop} {ins : α → List α → List α} (hp : ∀ p l, (ins p l).Perm (p :: l))
    (hs : ∀ p l, l.Pairwise before → (ins p l).Pairwise before) (ps : List α) :
    (ps.foldl (fun acc p => ins p acc) []).Perm ps ∧ (ps.foldl (fun acc p => ins p acc) []).Pairwise before := by
  have all : ∀ (ps acc : List α), acc.Pairwise before →
      (ps.foldl (fun acc p => ins p acc) acc).Perm (acc ++ ps) ∧ (ps.foldl (fun acc p => ins p acc) acc).Pairwise before := by
    intro ps
    induction ps with
    | nil => intro acc h; simpa using h
    | cons p ps ih =>
      intro acc h
      obtain ⟨i1, i2⟩ := ih (ins p acc) (hs p acc h)
      refine ⟨i1.trans (((hp p acc).append_right ps).trans ?_), i2⟩
      simpa using (List.perm_middle (a := p) (l₁ := acc) (l₂ := ps)).symm
  simpa using all ps [] .nil

/-! ## The fields that only a result writes (R98 to R104) -/

/-- Verdict, worst order, ratios, mean fundamental, fundamentals, detector, Contributor List and summary count. -/
def resultFields (h : HarmWatch) :
    (Option Verdict × Option Nat × Option Nat × Option Nat × Option Nat × Option Nat) × Tab (Option Nat) 6 × Detector ×
      List Place × Nat :=
  ((h.grid.verdict, h.grid.worst, h.grid.worstRatio, h.grid.thdV, h.grid.thdI, h.grid.meanFund), h.grid.fundamentals,
    h.detector, h.contributors, h.summary)

/-- A change of advice leaves the Harmonic Watch. -/
theorem OnlyAdvice.harm {s u : State} (h : OnlyAdvice s u) : u.harm = s.harm := by
  obtain ⟨a, b, c, d, e, f, g, i, rfl⟩ := h; rfl

/-- A withdrawal writes the request list only. -/
theorem withdraw_fields (s : State) (t : Tid) : resultFields (withdraw s t).harm = resultFields s.harm := by
  unfold withdraw; split
  · rw [(computeAdvice_only _ _).harm]; rfl
  · rfl

/-- Withdrawals write the request list only. -/
theorem foldl_withdraw_fields (ts : List Tid) (s : State) :
    resultFields (ts.foldl withdraw s).harm = resultFields s.harm := by
  induction ts generalizing s with
  | nil => rfl
  | cons t ts ih => rw [List.foldl_cons, ih, withdraw_fields]

/-- A request writes the request list only. -/
theorem requestCurtail_fields (s : State) (t : Tid) : resultFields (requestCurtail s t).harm = resultFields s.harm := by
  unfold requestCurtail; rw [(computeAdvice_only _ _).harm]; rfl

/-- Blanking leaves the Harmonic Watch. -/
theorem blankPresent_harm (s : State) : (blankPresent s).harm = s.harm :=
  (OnlyAdvice.foldl requestBlanking_only _ _).harm

/-- An entry into CONDITION leaves what the result wrote. -/
theorem enterCondition_fields (s : State) : resultFields (enterCondition s).harm = resultFields s.harm := by
  simp only [enterCondition]
  split
  · rw [requestCurtail_fields, blankPresent_harm, raise_harm]; rfl
  · rw [blankPresent_harm, raise_harm]; rfl

/-- An escalation leaves what the result wrote. -/
theorem escalate_fields (s : State) : resultFields (escalate s).harm = resultFields s.harm := by
  simp only [escalate]
  split
  · split
    · rw [raise_harm, requestCurtail_fields]; rfl
    · rfl
  · rfl

/-- A release leaves what the result wrote. -/
theorem releaseGrid_fields (s : State) (c : ReleaseCause) : resultFields (releaseGrid s c).harm = resultFields s.harm := by
  simp only [releaseGrid]; rw [raise_harm, foldl_withdraw_fields]; rfl

/-- The grid state's step leaves what the result wrote (R101 to R104). -/
theorem gridStep_fields (s : State) (v : Verdict) (openMs : Nat) :
    resultFields (gridStep s v openMs).harm = resultFields s.harm := by
  simp only [gridStep]
  cases v <;> (split <;> try split)
  all_goals first
    | (rw [enterCondition_fields]; rfl)
    | (simp only [exceedInCondition]; split <;> first | (rw [escalate_fields]; rfl) | rfl)
    | (simp only [cleanInCondition]; split <;> (try split) <;> first | (rw [releaseGrid_fields]; rfl) | rfl)
    | rfl

end Sys2Proof.Machine
end

