-- ==== Sys2Proof/Laws/Image.lean ====
section
/-! SUPPORT. Laws/Image.lean: what the records of the store image can do: a record written reads as good and gives what it was
written from, and the other records stay as they are (R148). -/

namespace Sys2Proof.Machine

/-! ## Bytes and fields -/

/-- A field of four bytes reads back. -/
theorem ofBe_u32 {n : Nat} (h : n ≤ 4294967295) : ofBe (u32 n) = n := by
  simp only [u32, beBytes, byteOf, ofBe, List.foldl, BitVec.toNat_ofNat]
  omega

/-- A field of two bytes reads back. -/
theorem ofBe_u16 {n : Nat} (h : n ≤ 65535) : ofBe (u16 n) = n := by
  simp only [u16, beBytes, byteOf, ofBe, List.foldl, BitVec.toNat_ofNat]
  omega

/-- The byte of a number below 256. -/
theorem byteOf_toNat {n : Nat} (h : n < 256) : (byteOf n).toNat = n := by
  simp only [byteOf, BitVec.toNat_ofNat]
  omega

/-- A basis is read from its code. -/
@[simp] theorem basisOf_basisCode (b : Basis) : basisOf (basisCode b) = some b := by cases b <;> rfl

/-- An item state is read from its code. -/
@[simp] theorem itemStateOf_itemStateCode (x : ItemState) : itemStateOf (itemStateCode x) = some x := by cases x <;> rfl

/-- A link state is read from its code. -/
@[simp] theorem linkStateOf_linkStateCode (x : LinkState) : linkStateOf (linkStateCode x) = some x := by cases x <;> rfl

/-! ## The contents of a record -/

/-- The contents of a turbine block give its counters (R135, R148). -/
theorem countersOf_blockContents {c : MainCounters} (hr : c.run ≤ 4294967295) (hk : c.krev ≤ 4294967295)
    (hs : c.starts ≤ 4294967295) (hi : c.ice ≤ 4294967295) (hc : c.curtailed ≤ 4294967295) :
    countersOf (blockContents c) = some c := by
  have h : countersOf (blockContents c) =
      some { run := ofBe (u32 c.run), krev := ofBe (u32 c.krev), starts := ofBe (u32 c.starts), ice := ofBe (u32 c.ice),
             curtailed := ofBe (u32 c.curtailed) } := rfl
  rw [h, ofBe_u32 hr, ofBe_u32 hk, ofBe_u32 hs, ofBe_u32 hi, ofBe_u32 hc]

/-- The link bytes of an item record give its link (R140, R148). -/
theorem storedLink_linkBytes {l : Option Link} (h : l.all (fun l => decide (l.pullIn ≤ 1000000000)) = true) :
    storedLink (linkBytes l) = some l := by
  cases l with
  | none => rfl
  | some l =>
    have hp : l.pullIn ≤ 1000000000 := by simpa using h
    have hb : byteAt (linkBytes (some l)) 1 = l.bandSet.val := byteOf_toNat (n := l.bandSet.val / 256 ^ 0) (by omega) |>.trans (by omega)
    have hf : fieldAt (linkBytes (some l)) 3 4 = l.pullIn := ofBe_u32 (by omega)
    have h0 : byteAt (linkBytes (some l)) 0 = 1 := rfl
    have hg : linkGradeOf (byteAt (linkBytes (some l)) 2) = some l.alarm := by
      cases h : l.alarm <;> simp only [linkBytes, h] <;> rfl
    have hs : byteAt (linkBytes (some l)) 7 = linkStateCode l.state := by
      cases h : l.state <;> simp only [linkBytes, h] <;> rfl
    simp only [storedLink, h0, hb, hf, hg, hs, linkStateOf_linkStateCode, placeOf_val, hp, if_true, flagOf]

/-- A stored sign-off day reads back (R140). -/
theorem storedSignOff_noneOnes {d : Option Nat} (h : d.all (fun d => decide (d ≤ 65535)) = true) :
    storedSignOff (ofBe (noneOnes 4 d)) = d := by
  cases d with
  | none => decide +kernel
  | some d =>
    have hd : d ≤ 65535 := by simpa using h
    have hf : ofBe (noneOnes 4 (some d)) = d := ofBe_u32 (n := d) (by omega)
    have hne : d ≠ countTop := by simp only [countTop]; omega
    simp only [storedSignOff, hf, hne, if_false]

/-- The numbers of an item record's contents read back (R140). -/
theorem fieldAt_itemContents {it : Item} (h : itemInRange it = true) :
    fieldAt (itemContents (some it)) 2 2 = it.label ∧ fieldAt (itemContents (some it)) 5 4 = it.interval ∧
    fieldAt (itemContents (some it)) 9 4 = it.lead ∧ fieldAt (itemContents (some it)) 13 4 = it.margin ∧
    fieldAt (itemContents (some it)) 17 4 = it.lastDone ∧ fieldAt (itemContents (some it)) 21 4 = it.duePoint := by
  simp only [itemInRange, inRange, Bool.and_eq_true, decide_eq_true_eq] at h
  obtain ⟨⟨⟨⟨⟨⟨⟨hl, _, hi⟩, hle⟩, hm⟩, hd⟩, hp⟩, _⟩, _⟩ := h
  exact ⟨ofBe_u16 hl, ofBe_u32 (by omega), ofBe_u32 (by omega), ofBe_u32 (by omega), ofBe_u32 hd, ofBe_u32 hp⟩

/-- The sign-off day of an item record's contents reads back (R140). -/
theorem signOff_itemContents {it : Item} (h : itemInRange it = true) :
    storedSignOff (fieldAt (itemContents (some it)) 25 4) = it.signOff := by
  simp only [itemInRange, Bool.and_eq_true] at h
  exact storedSignOff_noneOnes h.1.2

/-- The codes of an item record's contents stand at their places, and its length is 38 (R140). -/
theorem byteAt_itemContents (it : Item) :
    byteAt (itemContents (some it)) 0 = 1 ∧ byteAt (itemContents (some it)) 1 = tnum it.turbine ∧
    byteAt (itemContents (some it)) 4 = basisCode it.basis ∧ (itemContents (some it)).length = 38 := by
  refine ⟨rfl, ?_, ?_, ?_⟩
  · exact (byteOf_toNat (n := tnum it.turbine / 256 ^ 0) (by have := it.turbine.isLt; simp only [tnum]; omega)).trans (by omega)
  · cases hb : it.basis <;> simp only [itemContents, hb] <;> rfl
  · cases hk : it.link <;> simp only [itemContents, hk] <;> rfl

/-- The link and the state of an item record's contents stand at its end (R140). -/
theorem tail_itemContents (it : Item) :
    ((itemContents (some it)).drop 29).take 8 = linkBytes it.link ∧
    byteAt (itemContents (some it)) 37 = itemStateCode it.state := by
  constructor
  · cases hk : it.link <;> simp only [itemContents, hk] <;> rfl
  · cases hk : it.link <;> cases hs : it.state <;> simp only [itemContents, hk, hs] <;> rfl

/-- The fields of an item record's contents give its item (R140). -/
theorem storedItem_itemContents {it : Item} (h : itemInRange it = true) :
    storedItem (itemContents (some it)) = some it := by
  have hlk : it.link.all (fun l => decide (l.pullIn ≤ 1000000000)) = true := by
    have hr := h
    simp only [itemInRange, Bool.and_eq_true] at hr
    exact hr.2
  have hf := fieldAt_itemContents h
  have hs := signOff_itemContents h
  have hb := byteAt_itemContents it
  have ht := tail_itemContents it
  generalize itemContents (some it) = bs at *
  simp only [storedItem, hf, hs, hb, ht, storedLink_linkBytes hlk, turbineOf_tnum, basisOf_basisCode, itemStateOf_itemStateCode,
    h, if_true]

/-- The contents of an item record give its item (R140, R148). -/
theorem itemOf_itemContents {it : Item} (h : itemInRange it = true) : itemOf (itemContents (some it)) = some (some it) := by
  have hb := byteAt_itemContents it
  have hi := storedItem_itemContents h
  generalize itemContents (some it) = bs at *
  have e0 : bs ≠ u8 0 := fun e => absurd (hb.2.2.2.symm.trans (congrArg List.length e)) (by decide)
  simp only [itemOf, e0, if_false, hb, and_self, if_true, hi, Option.map_some]

/-! ## The image after a write -/

/-- Contents with their own check match it. -/
@[simp] theorem checkMatches_sealed (bs : List Byte) : checkMatches (sealed bs) = true := by
  simp only [checkMatches, sealed, decide_true]

/-- A header written reads as good (R148). -/
@[simp] theorem header_imageWith_header (im : Image) : (imageWith im .header).header = true := by
  simp only [imageWith, imagePut, recordPos, Image.header, get_put, if_true, headerGood, sealed,
    recordContents, decide_true, Bool.and_self, checkMatches]

/-- A turbine block written reads as good and gives its counters; the other blocks stay (R148). -/
theorem block_imageWith_block (im : Image) (t x : Tid) {c : MainCounters} (h : countersOf (blockContents c) = some c) :
    (imageWith im (.block t c)).block x = if x = t then some c else im.block x := by
  by_cases e : x = t
  · subst e
    simp only [imageWith, imagePut, recordPos, Image.block, get_put, if_true, readGood, sealed,
      recordContents, h, checkMatches, decide_true]
  · have hv : ¬ x.val = t.val := fun h => e (Fin.ext h)
    simp only [imageWith, imagePut, recordPos, Image.block, get_put, Fin.mk.injEq, Nat.add_right_cancel_iff, hv, e, if_false]

/-- An item record written reads as good and gives its item, or the empty mark; the other records stay (R148). -/
theorem item_imageWith_item (im : Image) (i j : ItemId) {it : Option Item} (h : itemOf (itemContents it) = some it) :
    (imageWith im (.item i it)).item j = if j = i then some it else im.item j := by
  by_cases e : j = i
  · subst e
    simp only [imageWith, imagePut, recordPos, Image.item, get_put, if_true, readGood, sealed,
      recordContents, h, checkMatches, decide_true]
  · have hv : ¬ j.val = i.val := fun h => e (Fin.ext h)
    simp only [imageWith, imagePut, recordPos, Image.item, get_put, Fin.mk.injEq, Nat.add_right_cancel_iff, hv, e, if_false]

/-- The empty mark reads as an empty slot (R148). -/
theorem itemOf_empty : itemOf (itemContents none) = some none := rfl

/-- A record whose check does not match its contents gives nothing (R148). -/
theorem readGood_bad {α : Type} (f : List Byte → Option α) {r : RawRecord} (h : checkMatches r = false) : readGood f r = none := by
  simp only [readGood, h, Bool.false_eq_true, if_false]

/-! ## The image after an interrupted write -/

/-- Contents with another check never match it. -/
@[simp] theorem checkMatches_spoiled (bs : List Byte) : checkMatches (spoiled bs) = false := by
  have h : crc16 bs ≠ ~~~crc16 bs := by
    intro h
    have h0 := congrArg (fun x => x.getLsbD 0) h
    simp at h0
  exact decide_eq_false h

/-- An interrupted header never reads as good (R157). -/
@[simp] theorem headerGood_headerInterrupted (im : Image) (torn : TornRecord) :
    headerGood (headerInterrupted im torn) = false := by
  have hs : ∀ bs, headerGood (spoiled bs) = false := fun bs => by
    simp only [headerGood, checkMatches_spoiled, Bool.false_and]
  cases torn with
  | old => exact hs _
  | new => exact hs _
  | mixed held =>
    by_cases h : headerGood held = true
    · simp only [headerInterrupted, h, if_true, hs]
    · rw [Bool.not_eq_true] at h
      simp only [headerInterrupted, h, Bool.false_eq_true, if_false]

/-- The image whose header's write was interrupted has no good header (R157). -/
@[simp] theorem header_imageCut_header (im : Image) (torn : TornRecord) : (imageCut im .header torn).header = false := by
  simp only [imageCut, imagePut, recordPos, Image.header, get_put, if_true, headerGood_headerInterrupted]

end Sys2Proof.Machine
end

