-- ==== Sys2Proof/Laws/PerInstr.lean ====
section
/-! SUPPORT. Laws/PerInstr.lean: the per-command family Tagged: the origin a command carries, and that a well-formed
command's tag fits the byte the frame has for it (chapter 12, R194). -/

namespace Sys2Proof.Laws

/-- The origin of a management command; the other rows of the table have none. -/
def originOf : Instr → Option Origin
  | .resetAssert _ => none
  | .resetRelease _ _ => none
  | .restoreComplete _ => none
  | .linkDown _ => none
  | .linkUp _ => none
  | .receiveFrame _ _ => none
  | .analysisComplete => none
  | .tick => none
  | .silenceExpiry _ => none
  | .serviceLimitExpiry _ => none
  | .blankingExpiry _ => none
  | .stopExpiry _ => none
  | .thawDwellReached _ => none
  | .refreshExpiry _ => none
  | .counterCarry _ _ => none
  | .dayRollover => none
  | .checkpointHour => none
  | .checkpointIntervalExpiry => none
  | .storeRecordWritten _ => none
  | .transmitStart _ => none
  | .transmitComplete _ => none
  | .commitTimeout => none
  | .restartExecute => none
  | .readStatus o => some o
  | .readStream o _ => some o
  | .readTurbine o _ => some o
  | .readSpeed o _ => some o
  | .readBands o _ => some o
  | .readGrid o => some o
  | .readContributors o => some o
  | .readIce o _ => some o
  | .readItem o _ => some o
  | .readCounters o _ => some o
  | .loadStream o _ => some o
  | .dropStream o _ => some o
  | .loadBandset o _ _ _ => some o
  | .loadLimits o _ => some o
  | .loadCurve o _ _ => some o
  | .loadSettings o _ => some o
  | .discardStage o => some o
  | .commit o _ _ => some o
  | .loadTurbine o _ _ _ _ => some o
  | .holdStream o _ => some o
  | .resumeStream o _ => some o
  | .beginService o _ _ => some o
  | .endService o _ => some o
  | .triggerWindow o _ _ => some o
  | .loadItem o _ _ => some o
  | .clearItem o _ => some o
  | .signOff o _ => some o
  | .setCounter o _ _ _ => some o
  | .declareIce o _ => some o
  | .declareClear o _ => some o
  | .clearGrid o => some o
  | .setClock o _ _ _ _ _ _ => some o
  | .holdClock o => some o
  | .releaseClock o => some o
  | .saveCounters o => some o
  | .setFindingMask o _ _ => some o
  | .adviceMode o _ => some o
  | .restart o => some o
  | .powerLoss _ => none

/-- A well-formed management command has a tag that fits its byte. -/
def Tagged.Statement (i : Instr) : Prop := i.wf = true → ∀ o, originOf i = some o → o.tag < 256

/-- The left part of a conjunction that holds. -/
theorem andLeft {a b : Bool} (h : (a && b) = true) : a = true := by
  cases a
  · simp at h
  · rfl

/-- A row without an origin has no tag to fit. -/
theorem tagged_of_none {i : Instr} (h : originOf i = none) : Tagged.Statement i := by
  intro _ o e
  rw [h] at e
  cases e

/-- A row whose well-formedness includes that of its origin has a tag that fits. -/
theorem tagged_of_some {i : Instr} {o : Origin} (h : originOf i = some o) (w : i.wf = true → o.wf = true) :
    Tagged.Statement i := by
  intro hi x e
  rw [h] at e
  cases e
  simpa [Origin.wf, isByte] using w hi

theorem Tagged.resetAssert (torn : TornRecord) : Tagged.Statement (.resetAssert torn) := tagged_of_none rfl

theorem Tagged.resetRelease (strap : Nat) (umgt : Bool) : Tagged.Statement (.resetRelease strap umgt) :=
  tagged_of_none rfl

theorem Tagged.restoreComplete (answered : Nat) : Tagged.Statement (.restoreComplete answered) := tagged_of_none rfl

theorem Tagged.linkDown (port : Port) : Tagged.Statement (.linkDown port) := tagged_of_none rfl

theorem Tagged.linkUp (port : Port) : Tagged.Statement (.linkUp port) := tagged_of_none rfl

theorem Tagged.receiveFrame (port : Port) (bytes : List Byte) : Tagged.Statement (.receiveFrame port bytes) :=
  tagged_of_none rfl

theorem Tagged.analysisComplete : Tagged.Statement .analysisComplete := tagged_of_none rfl

theorem Tagged.tick : Tagged.Statement .tick := tagged_of_none rfl

theorem Tagged.silenceExpiry (slot : SlotId) : Tagged.Statement (.silenceExpiry slot) := tagged_of_none rfl

theorem Tagged.serviceLimitExpiry (turbine : Tid) : Tagged.Statement (.serviceLimitExpiry turbine) :=
  tagged_of_none rfl

theorem Tagged.blankingExpiry (turbine : Tid) : Tagged.Statement (.blankingExpiry turbine) := tagged_of_none rfl

theorem Tagged.stopExpiry (turbine : Tid) : Tagged.Statement (.stopExpiry turbine) := tagged_of_none rfl

theorem Tagged.thawDwellReached (turbine : Tid) : Tagged.Statement (.thawDwellReached turbine) := tagged_of_none rfl

theorem Tagged.refreshExpiry (turbine : Tid) : Tagged.Statement (.refreshExpiry turbine) := tagged_of_none rfl

theorem Tagged.counterCarry (turbine : Tid) (counter : TimeCounter) :
    Tagged.Statement (.counterCarry turbine counter) :=
  tagged_of_none rfl

theorem Tagged.dayRollover : Tagged.Statement .dayRollover := tagged_of_none rfl

theorem Tagged.checkpointHour : Tagged.Statement .checkpointHour := tagged_of_none rfl

theorem Tagged.checkpointIntervalExpiry : Tagged.Statement .checkpointIntervalExpiry := tagged_of_none rfl

theorem Tagged.storeRecordWritten (result : WriteResult) : Tagged.Statement (.storeRecordWritten result) :=
  tagged_of_none rfl

theorem Tagged.transmitStart (port : Port) : Tagged.Statement (.transmitStart port) := tagged_of_none rfl

theorem Tagged.transmitComplete (port : Port) : Tagged.Statement (.transmitComplete port) := tagged_of_none rfl

theorem Tagged.commitTimeout : Tagged.Statement .commitTimeout := tagged_of_none rfl

theorem Tagged.restartExecute : Tagged.Statement .restartExecute := tagged_of_none rfl

theorem Tagged.readStatus (o : Origin) : Tagged.Statement (.readStatus o) := tagged_of_some rfl id

theorem Tagged.readStream (o : Origin) (slot : Nat) : Tagged.Statement (.readStream o slot) :=
  tagged_of_some rfl (fun h => andLeft h)

theorem Tagged.readTurbine (o : Origin) (turbine : Nat) : Tagged.Statement (.readTurbine o turbine) :=
  tagged_of_some rfl (fun h => andLeft h)

theorem Tagged.readSpeed (o : Origin) (turbine : Nat) : Tagged.Statement (.readSpeed o turbine) :=
  tagged_of_some rfl (fun h => andLeft h)

theorem Tagged.readBands (o : Origin) (slot : Nat) : Tagged.Statement (.readBands o slot) :=
  tagged_of_some rfl (fun h => andLeft h)

theorem Tagged.readGrid (o : Origin) : Tagged.Statement (.readGrid o) := tagged_of_some rfl id

theorem Tagged.readContributors (o : Origin) : Tagged.Statement (.readContributors o) := tagged_of_some rfl id

theorem Tagged.readIce (o : Origin) (turbine : Nat) : Tagged.Statement (.readIce o turbine) :=
  tagged_of_some rfl (fun h => andLeft h)

theorem Tagged.readItem (o : Origin) (slot : Nat) : Tagged.Statement (.readItem o slot) :=
  tagged_of_some rfl (fun h => andLeft h)

theorem Tagged.readCounters (o : Origin) (turbine : Nat) : Tagged.Statement (.readCounters o turbine) :=
  tagged_of_some rfl (fun h => andLeft h)

theorem Tagged.loadStream (o : Origin) (entries : List RawEntry) : Tagged.Statement (.loadStream o entries) :=
  tagged_of_some rfl (fun h => andLeft (andLeft h))

theorem Tagged.dropStream (o : Origin) (slots : List Nat) : Tagged.Statement (.dropStream o slots) :=
  tagged_of_some rfl (fun h => andLeft (andLeft h))

theorem Tagged.loadBandset (o : Origin) (set : Nat) (settings : RawSetSettings) (bands : List RawBand) :
    Tagged.Statement (.loadBandset o set settings bands) :=
  tagged_of_some rfl (fun h => andLeft (andLeft (andLeft (andLeft h))))

theorem Tagged.loadLimits (o : Origin) (entries : List RawLimit) : Tagged.Statement (.loadLimits o entries) :=
  tagged_of_some rfl (fun h => andLeft (andLeft h))

theorem Tagged.loadCurve (o : Origin) (cls : Nat) (bins : List Nat) : Tagged.Statement (.loadCurve o cls bins) :=
  tagged_of_some rfl (fun h => andLeft (andLeft (andLeft h)))

theorem Tagged.loadSettings (o : Origin) (entries : List Nat) : Tagged.Statement (.loadSettings o entries) :=
  tagged_of_some rfl (fun h => andLeft (andLeft h))

theorem Tagged.discardStage (o : Origin) : Tagged.Statement (.discardStage o) := tagged_of_some rfl id

theorem Tagged.commit (o : Origin) (mode : Nat) (timeout : Nat) : Tagged.Statement (.commit o mode timeout) :=
  tagged_of_some rfl (fun h => andLeft (andLeft h))

theorem Tagged.loadTurbine (o : Origin) (turbine : Nat) (present : Nat) (cls : Nat) (rated : Nat) :
    Tagged.Statement (.loadTurbine o turbine present cls rated) :=
  tagged_of_some rfl (fun h => andLeft (andLeft (andLeft (andLeft h))))

theorem Tagged.holdStream (o : Origin) (slot : Nat) : Tagged.Statement (.holdStream o slot) :=
  tagged_of_some rfl (fun h => andLeft h)

theorem Tagged.resumeStream (o : Origin) (slot : Nat) : Tagged.Statement (.resumeStream o slot) :=
  tagged_of_some rfl (fun h => andLeft h)

theorem Tagged.beginService (o : Origin) (turbine : Nat) (limit : Nat) :
    Tagged.Statement (.beginService o turbine limit) :=
  tagged_of_some rfl (fun h => andLeft (andLeft h))

theorem Tagged.endService (o : Origin) (turbine : Nat) : Tagged.Statement (.endService o turbine) :=
  tagged_of_some rfl (fun h => andLeft h)

theorem Tagged.triggerWindow (o : Origin) (turbine : Nat) (slot : Nat) :
    Tagged.Statement (.triggerWindow o turbine slot) :=
  tagged_of_some rfl (fun h => andLeft (andLeft h))

theorem Tagged.loadItem (o : Origin) (slot : Nat) (item : RawItem) : Tagged.Statement (.loadItem o slot item) :=
  tagged_of_some rfl (fun h => andLeft (andLeft h))

theorem Tagged.clearItem (o : Origin) (slot : Nat) : Tagged.Statement (.clearItem o slot) :=
  tagged_of_some rfl (fun h => andLeft h)

theorem Tagged.signOff (o : Origin) (slot : Nat) : Tagged.Statement (.signOff o slot) :=
  tagged_of_some rfl (fun h => andLeft h)

theorem Tagged.setCounter (o : Origin) (turbine : Nat) (counter : Nat) (value : Nat) :
    Tagged.Statement (.setCounter o turbine counter value) :=
  tagged_of_some rfl (fun h => andLeft (andLeft (andLeft h)))

theorem Tagged.declareIce (o : Origin) (turbine : Nat) : Tagged.Statement (.declareIce o turbine) :=
  tagged_of_some rfl (fun h => andLeft h)

theorem Tagged.declareClear (o : Origin) (turbine : Nat) : Tagged.Statement (.declareClear o turbine) :=
  tagged_of_some rfl (fun h => andLeft h)

theorem Tagged.clearGrid (o : Origin) : Tagged.Statement (.clearGrid o) := tagged_of_some rfl id

theorem Tagged.setClock (o : Origin) (day : Nat) (hour : Nat) (minute : Nat) (second : Nat) (tenth : Nat) (mode : Nat) :
    Tagged.Statement (.setClock o day hour minute second tenth mode) :=
  tagged_of_some rfl (fun h => andLeft (andLeft h))

theorem Tagged.holdClock (o : Origin) : Tagged.Statement (.holdClock o) := tagged_of_some rfl id

theorem Tagged.releaseClock (o : Origin) : Tagged.Statement (.releaseClock o) := tagged_of_some rfl id

theorem Tagged.saveCounters (o : Origin) : Tagged.Statement (.saveCounters o) := tagged_of_some rfl id

theorem Tagged.setFindingMask (o : Origin) (kind : Nat) (setting : Nat) :
    Tagged.Statement (.setFindingMask o kind setting) :=
  tagged_of_some rfl (fun h => andLeft (andLeft h))

theorem Tagged.adviceMode (o : Origin) (mode : Nat) : Tagged.Statement (.adviceMode o mode) :=
  tagged_of_some rfl (fun h => andLeft h)

theorem Tagged.restart (o : Origin) : Tagged.Statement (.restart o) := tagged_of_some rfl id

theorem Tagged.powerLoss (torn : TornRecord) : Tagged.Statement (.powerLoss torn) := tagged_of_none rfl

end Sys2Proof.Laws
end

