-- ==== Sys2Proof/Laws/Streams.lean ====
section
/-! SUPPORT. Laws/Streams.lean: the notices that a block is given never write the Stream Table: one lemma for each operation a
notice leads to (R18). -/

namespace Sys2Proof.Machine

/-! ## Folds -/

/-- A fold of operations that leave the Stream Table alone leaves it alone. -/
theorem foldl_streams {α : Type} {f : State → α → State} (h : ∀ s a, (f s a).streams = s.streams) (as : List α) (s : State) :
    (as.foldl f s).streams = s.streams := by
  induction as generalizing s with
  | nil => rfl
  | cons a as ih => rw [List.foldl_cons, ih, h]

/-! ## From the relations -/

/-- Items, findings and the Port D local queue apart, nothing is written. -/
theorem OnlyItems.streams {s t : State} (h : OnlyItems s t) : t.streams = s.streams := by
  obtain ⟨_, _, _, rfl⟩ := h
  rfl

/-- The Vibration Watch, findings and the Port D local queue apart, nothing is written. -/
theorem OnlyVib.streams {s t : State} (h : OnlyVib s t) : t.streams = s.streams := by
  obtain ⟨_, _, _, rfl⟩ := h
  rfl

/-- What a change of advice writes apart, nothing is written. -/
theorem OnlyAdvice.streams {s t : State} (h : OnlyAdvice s t) : t.streams = s.streams := by
  obtain ⟨_, _, _, _, _, _, _, _, rfl⟩ := h
  rfl

/-- An advance of a main counter (R139). -/
@[simp] theorem advanceMain_streams (s : State) (t : Tid) (b : Basis) : (advanceMain s t b).streams = s.streams := by
  unfold advanceMain
  split
  · exact (counterAdvance_only _ t b).streams
  · rfl

/-- A curtail request withdrawn (R106). -/
@[simp] theorem withdraw_streams (s : State) (t : Tid) : (withdraw s t).streams = s.streams := by
  unfold withdraw
  split
  · exact (computeAdvice_only _ t).streams
  · rfl

/-- Advice computed afresh (R167). -/
@[simp] theorem computeAdvice_streams (s : State) (t : Tid) : (computeAdvice s t).streams = s.streams :=
  (computeAdvice_only s t).streams

/-- Blanking requested (R34). -/
@[simp] theorem requestBlanking_streams (s : State) (t : Tid) : (requestBlanking s t).streams = s.streams :=
  (requestBlanking_only s t).streams

/-- A window abandoned (R74). -/
@[simp] theorem abandonWindow_streams (c : AbandonCause) (s : State) (i : SlotId) : (abandonWindow c s i).streams = s.streams :=
  (abandonWindow_only c s i).streams

/-- A pending test cancelled (R85). -/
@[simp] theorem cancelTest_streams (c : AbandonCause) (s : State) (i : SlotId) : (cancelTest c s i).streams = s.streams :=
  (cancelTest_only c s i).streams

/-- TRACKING LOST (R51). -/
@[simp] theorem vibTrackingLost_streams (s : State) (t : Tid) : (vibTrackingLost s t).streams = s.streams :=
  (vibTrackingLost_only s t).streams

/-- SLIP (R48). -/
@[simp] theorem vibSlip_streams (s : State) (t : Tid) : (vibSlip s t).streams = s.streams := (vibSlip_only s t).streams

/-- STEP (R47). -/
@[simp] theorem vibStep_streams (s : State) (t : Tid) : (vibStep s t).streams = s.streams := (vibStep_only s t).streams

/-- A vibration record discarded (R75). -/
@[simp] theorem vibDiscarded_streams (s : State) (r : VibRecord) : (vibDiscarded s r).streams = s.streams :=
  (vibDiscarded_only s r).streams

/-! ## The Analysis Queue (R55 to R58) -/

/-- The arbiter's choice (R57). -/
@[simp] theorem engineOnce_streams (s : State) : (engineOnce s).streams = s.streams := by
  have hh : ∀ r rest, (startHarm s r rest).streams = s.streams := fun r rest => by
    unfold startHarm
    simp only
    split <;> rfl
  have hv : ∀ r rest, (startVib s r rest).streams = s.streams := fun r rest => by
    unfold startVib
    simp only
    split
    · rfl
    · exact vibDiscarded_streams _ r
  unfold engineOnce
  split
  · split
    · exact hh _ _
    · exact hv _ _
  · exact hh _ _
  · exact hv _ _
  · rfl

/-- The engine's look for work (R56). -/
@[simp] theorem engineLook_streams (s : State) : (engineLook s).streams = s.streams := by
  unfold engineLook
  generalize vibCap + harmCap = k
  induction k generalizing s with
  | zero => rfl
  | succ k ih =>
    unfold engineLoop
    split
    · rfl
    · rw [ih, engineOnce_streams]

/-- A vibration record queued (R55). -/
@[simp] theorem queueVib_streams (s : State) (r : VibRecord) : (queueVib s r).streams = s.streams := by
  unfold queueVib
  simp only
  split
  · exact engineLook_streams _
  · exact vibDiscarded_streams _ r

/-- A harmonic record queued (R55). -/
@[simp] theorem queueHarm_streams (s : State) (r : HarmRecord) : (queueHarm s r).streams = s.streams := by
  unfold queueHarm
  simp only
  split
  · exact engineLook_streams _
  · rfl

/-! ## Vibration windows -/

/-- The opening check (R70). -/
@[simp] theorem openingCheck_streams (t : Tid) (b : Time) (s : State) (i : SlotId) :
    (openingCheck t b s i).streams = s.streams := by
  unfold openingCheck
  split
  · split
    · split
      · rfl
      · split <;> rfl
    · rfl
  · rfl

/-- A window closed (R73). -/
@[simp] theorem closeWindow_streams (s : State) (t : Tid) (i : SlotId) (w : VibWindow) (c : Time) (rate : RateCode) :
    (closeWindow s t i w c rate).streams = s.streams := by
  unfold closeWindow
  simp only
  split
  · rw [queueVib_streams]
    rfl
  · rw [openingCheck_streams, queueVib_streams]
    rfl

/-- A revolution at one slot (R72). -/
@[simp] theorem revolutionAt_streams (t : Tid) (b : Time) (isStep : Bool) (s : State) (i : SlotId) :
    (revolutionAt t b isStep s i).streams = s.streams := by
  unfold revolutionAt
  split
  · unfold countWindow
    split
    · rfl
    · split
      · rfl
      · simp only
        split
        · exact closeWindow_streams _ _ _ _ _ _
        · rfl
  · split
    · rfl
    · exact openingCheck_streams _ _ _ _

/-- REVOLUTION (R51). -/
@[simp] theorem vibRevolution_streams (s : State) (t : Tid) (b : Time) (isStep : Bool) :
    (vibRevolution s t b isStep).streams = s.streams := foldl_streams (revolutionAt_streams t b isStep) _ s

/-- BOUNDARY (R51). -/
@[simp] theorem vibBoundary_streams (s : State) (t : Tid) (b : Time) : (vibBoundary s t b).streams = s.streams :=
  foldl_streams (openingCheck_streams t b) _ s

/-- Samples given to a window (R71). -/
@[simp] theorem giveSamples_streams (s : State) (i : SlotId) (w : VibWindow) (rate : RateCode) (new : List Sample) :
    (giveSamples s i w rate new).streams = s.streams := by
  unfold giveSamples
  split
  · exact abandonWindow_streams _ _ _
  · split
    · exact abandonWindow_streams _ _ _
    · rfl

/-- DATA of a VIB stream (R68). -/
@[simp] theorem vibData_streams (s : State) (t : Tid) (i : SlotId) (stamp : Nat) (rate : RateCode) (xs : List Int) :
    (vibData s t i stamp rate xs).streams = s.streams := by
  unfold vibData
  simp only
  split
  · rfl
  · unfold dataToWindow
    simp only
    split
    · rw [giveSamples_streams]
      rfl
    · split
      · rw [closeWindow_streams]
        rfl
      · rw [giveSamples_streams]
        rfl

/-- GAP of a VIB stream (R68). -/
@[simp] theorem vibGap_streams (s : State) (i : SlotId) : (vibGap s i).streams = s.streams := abandonWindow_streams _ _ _

/-- ENDED of a VIB stream (R68). -/
@[simp] theorem vibEnded_streams (s : State) (i : SlotId) (c : EndCause) : (vibEnded s i c).streams = s.streams := by
  unfold vibEnded
  simp only
  split
  · rfl
  · rw [cancelTest_streams, abandonWindow_streams]
    rfl

/-! ## The Harmonic Watch -/

/-- A harmonic window opened, or held back by a commit (R91). -/
@[simp] theorem openHarm_streams (s : State) (i : SlotId) (b : Time) (rate : RateCode) (xs : List Sample) :
    (openHarm s i b rate xs).streams = s.streams := by
  unfold openHarm
  split <;> rfl

/-- The W-th crossing (R92). -/
@[simp] theorem closeHarm_streams (s : State) (i : SlotId) (w : HarmWindow) (c : Time) (held : List Sample) :
    (closeHarm s i w c held).streams = s.streams := by
  unfold closeHarm
  simp only
  split
  · rw [openHarm_streams]
    exact queueHarm_streams _ _
  · rw [openHarm_streams]
    rfl

/-- A reference sample that closes no window (R91). -/
@[simp] theorem extendHarm_streams (s : State) (w : HarmWindow) (x : Sample) : (extendHarm s w x).streams = s.streams := by
  unfold extendHarm
  split <;> rfl

/-- One reference sample (R90 to R92). -/
@[simp] theorem refSample_streams (i : SlotId) (rate : RateCode) (s : State) (x : Sample) :
    (refSample i rate s x).streams = s.streams := by
  unfold refSample
  simp only
  split
  · exact openHarm_streams _ _ _ _ _
  · split
    · exact extendHarm_streams _ _ _
    · exact closeHarm_streams _ _ _ _ _
  · exact extendHarm_streams _ _ _
  · rfl
  · rfl

/-- LIVE of a stream of the Harmonic Watch (R88, R89). -/
@[simp] theorem harmLive_streams (s : State) (i : SlotId) (e : StreamEntry) : (harmLive s i e).streams = s.streams := by
  unfold harmLive
  split
  · split <;> rfl
  · rfl

/-- GAP of a stream of the Harmonic Watch (R93). -/
@[simp] theorem harmGap_streams (s : State) (i : SlotId) (e : StreamEntry) : (harmGap s i e).streams = s.streams := by
  unfold harmGap
  split <;> rfl

/-- ENDED of a stream of the Harmonic Watch (R93). -/
@[simp] theorem harmEnded_streams (s : State) (i : SlotId) (e : StreamEntry) : (harmEnded s i e).streams = s.streams := by
  unfold harmEnded
  split <;> rfl

/-- DATA of a stream of the Harmonic Watch (R89 to R93). -/
@[simp] theorem harmData_streams (s : State) (i : SlotId) (e : StreamEntry) (stamp : Nat) (rate : RateCode) (xs : List Int) :
    (harmData s i e stamp rate xs).streams = s.streams := by
  unfold harmData
  split
  · exact foldl_streams (refSample_streams i rate) _ _
  · rfl

/-! ## Reports -/

/-- A change of hold told (R124). -/
@[simp] theorem tellHold_streams (before : Bool) (s : State) (t : Tid) : (tellHold before s t).streams = s.streams := by
  unfold tellHold
  split
  · rfl
  · split
    · rw [withdraw_streams, computeAdvice_streams]
    · rw [computeAdvice_streams]

/-- A transition of an ice record (R124, R127). -/
@[simp] theorem iceTransition_streams (s : State) (t : Tid) (r : IceRec) (fs : List (FindingKind × List Word32)) :
    (iceTransition s t r fs).streams = s.streams := by
  unfold iceTransition
  simp only
  rw [tellHold_streams]
  refine (foldl_streams (f := fun (x : State) (f : FindingKind × List Word32) => raise x f.1 (some (tnum t)) .none f.2)
    (fun _ _ => rfl) fs _).trans ?_
  unfold writeIce iceGate
  split <;> rfl

/-- A report at the Icing Watch (R114). -/
@[simp] theorem iceReport_streams (s : State) (t : Tid) (p : Report) : (iceReport s t p).streams = s.streams := by
  unfold iceReport
  simp only
  split
  · unfold takeIntoBlock
    simp only
    split
    · exact iceTransition_streams _ _ _ _
    · rfl
  · rfl

/-- The operating state set (R28, R29). -/
@[simp] theorem setOper_streams (s : State) (t : Tid) (new : OperState) : (setOper s t new).streams = s.streams := by
  have hv : ∀ (x : State), (vibStart x t).streams = x.streams := fun x =>
    foldl_streams (f := newSeries) (fun s i => by unfold newSeries; split <;> rfl) _ x
  have hs : ∀ x : State, (startTurbine x t).streams = x.streams := fun x => by
    unfold startTurbine
    rw [requestBlanking_streams, hv]
    exact advanceMain_streams _ _ _
  have hn : ∀ (x : State) (old : OperState), (operNotices x t old new).streams = x.streams := fun x old => by
    unfold operNotices
    split
    · rfl
    · split
      · exact (vibNotGenerating_only _ t).streams
      · rfl
  unfold setOper
  simp only
  split
  · rfl
  · rw [hn]
    split
    · rw [hs]
      rfl
    · rfl

/-- A report at the Turbine Table (R25). -/
@[simp] theorem operReport_streams (s : State) (t : Tid) (p : Report) : (operReport s t p).streams = s.streams := by
  unfold operReport
  rw [setOper_streams]
  rfl

/-! ## The Speed Tracker -/

/-- A slip in TRACKING (R48). -/
@[simp] theorem slipInTracking_streams (s : State) (t : Tid) (count expected : Nat) :
    (slipInTracking s t count expected).streams = s.streams := by
  unfold slipInTracking becomeUnreliable
  simp only
  split
  · rw [vibTrackingLost_streams]
    exact vibSlip_streams _ t
  · exact vibSlip_streams _ t

/-- A judged revolution (R44 to R49). -/
@[simp] theorem judge_streams (s : State) (t : Tid) (b ref : Time) (count expected : Nat) :
    (judge s t b ref count expected).streams = s.streams := by
  have hc : ∀ x : State, (countRevolution x t).streams = x.streams := fun x => by
    unfold countRevolution
    split
    · exact advanceMain_streams _ _ _
    · rfl
  unfold judge
  simp only
  split
  · unfold judgeAcquiring
    split
    · exact vibBoundary_streams _ _ _
    · rfl
  · split
    · unfold goodInTracking
      simp only
      rw [hc, vibRevolution_streams]
      show State.streams (if _ then _ else _) = _
      split
      · rw [requestBlanking_streams, vibStep_streams]
      · rfl
    · exact slipInTracking_streams _ _ _ _
  · unfold judgeUnreliable
    simp only
    split
    · split
      · exact vibBoundary_streams _ _ _
      · rfl
    · rfl
  · rfl
  · rfl

/-- A boundary (R41, R42). -/
@[simp] theorem boundaryAt_streams (s : State) (t : Tid) (b : Time) (expected : Nat) :
    (boundaryAt s t b expected).streams = s.streams := by
  unfold boundaryAt
  simp only
  split
  · exact judge_streams _ _ _ _ _ _
  · rfl

/-- One edge record (R38 to R42). -/
@[simp] theorem takeEdge_streams (t : Tid) (e : StreamEntry) (stamp : Nat) (s : State) (x : EdgeRec) :
    (takeEdge t e stamp s x).streams = s.streams := by
  unfold takeEdge
  split
  · unfold takeMarker
    split
    · rfl
    · exact boundaryAt_streams _ _ _ _
  · unfold takeCounted
    simp only
    split
    · rfl
    · split
      · rfl
      · unfold actCounted missingMarker
        simp only
        split
        · split
          · split
            · exact slipInTracking_streams _ _ _ _
            · rfl
            · rfl
            · rfl
            · rfl
          · rfl
        · split
          · exact boundaryAt_streams _ _ _ _
          · rfl
  · rfl

/-- Edges of a frame (R38). -/
@[simp] theorem speedData_streams (s : State) (t : Tid) (e : StreamEntry) (stamp : Nat) (xs : List EdgeRec) :
    (speedData s t e stamp xs).streams = s.streams := foldl_streams (takeEdge_streams t e stamp) xs s

/-- TRACKING LOST told where the record was TRACKING (R43). -/
@[simp] theorem tellLost_streams (was : SpeedState) (s : State) (t : Tid) : (tellLost was s t).streams = s.streams := by
  unfold tellLost
  split
  · exact vibTrackingLost_streams s t
  · rfl

/-! ## The notices -/

/-- LIVE (R18). -/
@[simp] theorem tellLive_streams (s : State) (i : SlotId) (e : StreamEntry) : (tellLive s i e).streams = s.streams := by
  unfold tellLive
  split
  · unfold speedLive
    split <;> rfl
  · rfl
  · exact harmLive_streams s i e
  · exact harmLive_streams s i e
  · exact harmLive_streams s i e
  · rfl

/-- GAP (R18). -/
@[simp] theorem tellGap_streams (s : State) (i : SlotId) (e : StreamEntry) : (tellGap s i e).streams = s.streams := by
  unfold tellGap
  split
  · exact vibGap_streams s i
  · unfold speedGap
    split
    · rfl
    · exact tellLost_streams _ _ _
  · exact harmGap_streams s i e
  · exact harmGap_streams s i e
  · exact harmGap_streams s i e
  · rfl

/-- DATA (R18). -/
@[simp] theorem tellData_streams (s : State) (i : SlotId) (e : StreamEntry) (stamp : Nat) (d : FrameData) :
    (tellData s i e stamp d).streams = s.streams := by
  unfold tellData
  split
  · exact vibData_streams _ _ _ _ _ _
  · exact speedData_streams _ _ _ _ _
  · rw [iceReport_streams, operReport_streams]
  · exact harmData_streams _ _ _ _ _ _
  · exact harmData_streams _ _ _ _ _ _
  · exact harmData_streams _ _ _ _ _ _
  · rfl

/-- ENDED (R18). -/
@[simp] theorem tellEnded_streams (s : State) (i : SlotId) (e : StreamEntry) (c : EndCause) :
    (tellEnded s i e c).streams = s.streams := by
  unfold tellEnded
  split
  · exact vibEnded_streams s i c
  · exact tellLost_streams _ _ _
  · exact setOper_streams _ _ _
  · exact harmEnded_streams s i e
  · exact harmEnded_streams s i e
  · exact harmEnded_streams s i e
  · rfl

end Sys2Proof.Machine
end

