-- ==== Sys2Proof/Laws/Tick.lean ====
section
/-! SUPPORT. Laws/Tick.lean: a tick that no waiting step precedes: taking what is due changes nothing (entry 7). -/

namespace Sys2Proof.Machine

/-- Steps that each leave a state as it is leave it so one after another. -/
theorem foldl_fixed {α : Type} {f : State → α → State} {s : State} (h : ∀ a, f s a = s) (as : List α) :
    as.foldl f s = s := by
  induction as with
  | nil => rfl
  | cons a as ih => rw [List.foldl_cons, h a, ih]

/-- No group is free where each has a window (R188). -/
theorem firstFree_none {s : State} {gs : List (List SlotId)} (h : ∀ g ∈ gs, g.any (slotHasWindow s) = true) :
    firstFree s gs = none := by
  induction gs with
  | nil => rfl
  | cons g gs ih =>
    simp only [firstFree, h g (List.mem_cons_self), if_true, ih (fun x hx => h x (List.mem_cons_of_mem g hx))]

/-- A commit whose groups all wait on windows goes on waiting, and without a commit nothing settles (R188). -/
theorem settleCommit_of_commitWaits {s : State} (h : commitWaits s) : settleCommit s = s := by
  have loop : ∀ k, settleLoop k s = s := by
    intro k
    cases k with
    | zero => rfl
    | succ k =>
      cases hc : s.cmd with
      | commit p => simp only [settleLoop, hc, firstFree_none (h p hc).2]
      | ready => simp only [settleLoop, hc]
      | save o b => simp only [settleLoop, hc]
      | restart g => simp only [settleLoop, hc]
  rw [settleCommit, loop]
  cases hc : s.cmd with
  | commit p =>
    have hp : p.groups.isEmpty = false := by
      cases hg : p.groups with
      | nil => exact absurd hg (h p hc).1
      | cons g gs => rfl
    simp only [endCommit, hc, hp, Bool.false_eq_true, if_false]
  | ready => simp only [endCommit, hc]
  | save o b => simp only [endCommit, hc]
  | restart g => simp only [endCommit, hc]

/-- A step that leaves a state as it is leaves it so when a waiting commit is looked at after it. -/
theorem takeAndSettle_fixed {α : Type} {f : State → α → State} {s : State} {a : α} (hf : f s a = s) (h : commitWaits s) :
    takeAndSettle f s a = s := by
  rw [takeAndSettle, hf, settleCommit_of_commitWaits h]

/-- No carry is taken where none is due (R136). -/
theorem takeCarry_fixed {s : State} {t : Tid} {c : TimeCounter} (h : (timeSub (s.usage.get t) c).due = 0) :
    takeCarry s t c = s := by
  simp only [takeCarry, h, Nat.lt_irrefl, if_false]

/-- Where no step waits, none is taken before a tick (entry 7). -/
theorem takeDue_of_nothingDue {s : State} (h : nothingDue s) (hw : commitWaits s) : takeDue s = s := by
  obtain ⟨hr, hc, hi, hs, ht, hp, hx⟩ := h
  have e1 : takeInterval (takeCheckpointHour (takeRollover s)) = s := by
    simp only [takeRollover, hr, Bool.false_eq_true, if_false, takeCheckpointHour, hc, takeInterval, hi]
  have e2 : allSlots.foldl (takeAndSettle takeSilence) s = s :=
    foldl_fixed (fun i => takeAndSettle_fixed (by
      cases ha : (s.streams.slots.get i).state <;> cases hb : (s.streams.slots.get i).silence <;>
        simp only [takeSilence, ha, hb]
      next n => cases n with
        | zero => exact absurd hb (hs i)
        | succ n => rfl) hw) _
  have e3 : allTurbines.foldl (takeAndSettle takeServiceLimit) s = s :=
    foldl_fixed (fun t => takeAndSettle_fixed (by simp only [takeServiceLimit, (ht t).1, if_false]) hw) _
  have e4 : allTurbines.foldl (takeAndSettle takeBlanking) s = s :=
    foldl_fixed (fun t => takeAndSettle_fixed (by simp only [takeBlanking, (ht t).2.1, if_false]) hw) _
  have e5 : allTurbines.foldl (takeAndSettle takeStop) s = s :=
    foldl_fixed (fun t => takeAndSettle_fixed (by simp only [takeStop, (ht t).2.2.1, if_false]) hw) _
  have e6 : allTurbines.foldl (takeAndSettle takeThaw) s = s :=
    foldl_fixed (fun t => takeAndSettle_fixed (by
      simp only [takeThaw, (ht t).2.2.2.1, Bool.false_eq_true, if_false]) hw) _
  have e7 : allTurbines.foldl (takeAndSettle takeRefresh) s = s :=
    foldl_fixed (fun t => takeAndSettle_fixed (by simp only [takeRefresh, (ht t).2.2.2.2.1, if_false]) hw) _
  have e8 : allTurbines.foldl takeCarries s = s :=
    foldl_fixed (fun t => by
      simp only [takeCarries, takeCarry_fixed (c := .run) (ht t).2.2.2.2.2.1, takeCarry_fixed (c := .ice) (ht t).2.2.2.2.2.2.1,
        takeCarry_fixed (c := .curtailed) (ht t).2.2.2.2.2.2.2]) _
  have e9 : takeCommitTimeout s = s := by
    cases hk : s.cmd with
    | commit p => simp only [takeCommitTimeout, hk, hp p hk, if_false]
    | ready => simp only [takeCommitTimeout, hk]
    | save o b => simp only [takeCommitTimeout, hk]
    | restart g => simp only [takeCommitTimeout, hk]
  simp only [takeDue, e1, e2, e3, e4, e5, e6, e7, e8, e9, takeRestart, hx, if_false]

end Sys2Proof.Machine
end

