-- ==== Sys2Proof/Laws/Trig.lean ====
section
/-! SUPPORT. Laws/Trig.lean: what is exact of the fixed-point cosine and sine: their values at the quarters of a turn, the
period and the symmetry (R60, R61; entry 12). -/

namespace Sys2Proof.Machine

/-- The cosine of no turn is 1. -/
@[simp] theorem cosTurn_zero (den : Nat) : cosTurn 0 den = trigUnit := by
  simp only [cosTurn, Int.zero_emod, Int.toNat_zero, Nat.zero_min, cosHalf, cosQuarter, Nat.mul_zero, Nat.zero_le, if_true,
    Nat.zero_div]
  decide +kernel

/-- A whole turn more changes nothing. -/
@[simp] theorem cosTurn_add_den (num : Int) (den : Nat) : cosTurn (num + den) den = cosTurn num den := by
  simp only [cosTurn, Int.add_emod_right]

/-- The cosine is even. -/
@[simp] theorem cosTurn_neg (num : Int) (den : Nat) : cosTurn (-num) den = cosTurn num den := by
  have key : min ((-num) % (den : Int)).toNat (den - ((-num) % (den : Int)).toNat) =
      min (num % (den : Int)).toNat (den - (num % (den : Int)).toNat) := by
    rcases Nat.eq_zero_or_pos den with h | h
    · subst h
      simp
    · have hd : (0 : Int) < den := by omega
      have hn := Int.emod_nonneg num (b := (den : Int)) (by omega)
      have hl := Int.emod_lt_of_pos num hd
      have e : (-num) % (den : Int) = if num % (den : Int) = 0 then 0 else den - num % (den : Int) := by
        split
        · next h0 => exact Int.emod_eq_zero_of_dvd (Int.dvd_neg.mpr (Int.dvd_of_emod_eq_zero h0))
        · next h0 =>
          have : -num = (den - num % (den : Int)) + den * (-(num / (den : Int)) - 1) := by
            have := Int.emod_add_mul_ediv num (den : Int)
            rw [Int.mul_sub, Int.mul_neg]
            omega
          rw [this, Int.add_mul_emod_self_left]
          exact Int.emod_eq_of_lt (by omega) (by omega)
      rw [e]
      split <;> omega
  simp only [cosTurn, key]

/-- The cosine of a quarter of a turn is 0. -/
theorem cosTurn_quarter {den : Nat} (h : 0 < den) : cosTurn den (4 * den) = 0 := by
  have hm : ((den : Int) % ((4 * den : Nat) : Int)).toNat = den := by
    rw [Int.emod_eq_of_lt (by omega) (by omega)]
    omega
  have hmin : min den (4 * den - den) = den := by omega
  simp only [cosTurn, hm, hmin, cosHalf, cosQuarter, Nat.le_refl, if_true, show ¬ 8 * den ≤ 4 * den by omega, if_false,
    Nat.sub_self, Nat.mul_zero, Nat.zero_div]
  decide +kernel

/-- The cosine of half a turn is -1. -/
theorem cosTurn_half {den : Nat} (h : 0 < den) : cosTurn den (2 * den) = -(trigUnit : Int) := by
  have hm : ((den : Int) % ((2 * den : Nat) : Int)).toNat = den := by
    rw [Int.emod_eq_of_lt (by omega) (by omega)]
    omega
  have hmin : min den (2 * den - den) = den := by omega
  simp only [cosTurn, hm, hmin, cosHalf, show ¬ 4 * den ≤ 2 * den by omega, if_false, Nat.sub_self, cosQuarter,
    Nat.mul_zero, Nat.zero_le, if_true, Nat.zero_div]
  decide +kernel

/-- The sine of no turn is 0. -/
theorem sinTurn_zero {den : Nat} (h : 0 < den) : sinTurn 0 den = 0 := by
  have e : (4 * (0 : Int) - (den : Int)) = -(den : Int) := by omega
  rw [sinTurn, e, cosTurn_neg, cosTurn_quarter h]

/-- The sine of a quarter of a turn is 1. -/
theorem sinTurn_quarter (den : Nat) : sinTurn den (4 * den) = trigUnit := by
  have e : (4 * (den : Int) - ((4 * den : Nat) : Int)) = 0 := by omega
  rw [sinTurn, e, cosTurn_zero]

end Sys2Proof.Machine
end

