-- ==== Sys2Proof/Laws/Windows.lean ====
section
/-! SUPPORT. Laws/Windows.lean: what the window formers, the icing transition and the disposition do to the parts of the state
that the statements about them read: the order of the recent store, the cut at a boundary, and the fields that stay. -/

namespace Sys2Proof.Machine

/-! ## The recent store and the cut at a boundary (R70, R72) -/

/-- A frame put in its place by stamp adds it and loses none (R70). -/
theorem insertByStamp_perm (f : StoredFrame) (gs : List StoredFrame) : (insertByStamp f gs).Perm (f :: gs) := by
  induction gs with
  | nil => exact List.Perm.refl _
  | cons g gs ih =>
    unfold insertByStamp
    split
    · exact List.Perm.refl _
    · exact (List.Perm.cons g ih).trans (List.Perm.swap f g gs)

/-- Putting frames in stamp order keeps every frame (R70). -/
theorem inStampOrder_perm (fs : List StoredFrame) : (inStampOrder fs).Perm fs := by
  have h : ∀ (xs acc : List StoredFrame), (xs.foldl (fun acc f => insertByStamp f acc) acc).Perm (acc ++ xs) := by
    intro xs
    induction xs with
    | nil => intro acc; simp
    | cons x xs ih =>
      intro acc
      refine (ih _).trans (((insertByStamp_perm x acc).append_right xs).trans ?_)
      exact (List.perm_middle (a := x) (l₁ := acc) (l₂ := xs)).symm
  have := h fs []
  rwa [List.nil_append] at this

/-- One frame is in order (R70). Unfolding `insertByStamp` by `rfl` makes Lean evaluate stamp differences: rewrite instead. -/
theorem inStampOrder_one (f : StoredFrame) : inStampOrder [f] = [f] := by
  rw [inStampOrder, List.foldl_cons, List.foldl_nil, insertByStamp]

/-- Two frames are exchanged exactly where the second's stamp is before the first's (R70). -/
theorem inStampOrder_two (f g : StoredFrame) :
    inStampOrder [f, g] = if stampDiff g.stamp f.stamp < 0 then [g, f] else [f, g] := by
  rw [inStampOrder, List.foldl_cons, List.foldl_cons, List.foldl_nil, insertByStamp, insertByStamp, insertByStamp]

/-- A time that is not at or after another lies before it (R39). -/
theorem not_atOrAfter (a b : Time) : (!atOrAfter a b) = decide (timeDiff a b < 0) := by
  unfold atOrAfter
  rw [← decide_not]
  exact decide_eq_decide.2 (by omega)

/-- A waiting commit holds a slot exactly where one of its groups has it (R87, R94). -/
theorem commitHolds_iff (s : State) (i : SlotId) :
    commitHolds s i = true ↔ ∃ p, s.cmd = .commit p ∧ ∃ g ∈ p.groups, i ∈ g := by
  unfold commitHolds
  cases h : s.cmd <;> simp

/-! ## Dispositions (R17) -/

/-- Disposing of a frame writes no more of the slot than its thinning counter (R17). -/
theorem disposeFrame_slot (s : State) (i : SlotId) (e : StreamEntry) (f : Frame) :
    ∃ n, (disposeFrame s i e f).streams.slots.get i = { s.streams.slots.get i with thin := n } := by
  have h : ∀ x : State, (offerTransit x .d f).streams = x.streams := fun x => by
    unfold offerTransit
    simp only
    split <;> rfl
  refine ⟨(disposed e (s.streams.slots.get i).thin).2, ?_⟩
  unfold disposeFrame
  simp only
  split
  · rw [h]
    simp [updSlot, setSlot]
  · simp [updSlot, setSlot]

/-! ## Transitions of the ice record (R124, R127) -/

/-- Raising findings one after another keeps the ice records and the active tables (R159). -/
theorem raiseAll_keeps (t : Option Nat) (fs : List (FindingKind × List Word32)) (s : State) :
    (fs.foldl (fun x f => raise x f.1 t .none f.2) s).ice = s.ice ∧
    (fs.foldl (fun x f => raise x f.1 t .none f.2) s).active = s.active := by
  induction fs generalizing s with
  | nil => exact ⟨rfl, rfl⟩
  | cons f fs ih =>
    rw [List.foldl_cons]
    exact ih _

/-- The ice record is written whatever the gate does (R127). -/
theorem writeIce_ice (s : State) (t : Tid) (r : IceRec) : (writeIce s t r).ice = put s.ice t r := by
  unfold writeIce iceGate
  split <;> rfl

end Sys2Proof.Machine
end

