-- ==== Sys2Proof/Tests/Slice0.lean ====
section
/-! SUPPORT. Tests/Slice0.lean: checks of the model's own work: ill-formed commands refused, a few worked values, and for
each statement with hypotheses a state and operands that meet them. -/

set_option Elab.async false

namespace Sys2Proof.Tests

open Sys2Proof Sys2Proof.Machine

/-! ## Ill-formed commands -/

def dOrigin : Origin := ⟨.d, 7⟩
def uOrigin : Origin := ⟨.u, 255⟩

/-- A good VIB entry of LOAD STREAM for a slot: source 1, band set 0, silence limit 30. -/
def vibRaw (slot : Nat) : RawEntry :=
  { slot := slot, source := 1, channel := slot % 8, kind := 1, role := 0, phase := 0, bandSet := 0, scale := 3, pulses := 0,
    edges := 0, markerPresent := 0, markerPolarity := 0, spacing := 0, disposition := 0, thinN := 0, silence := 30 }

/-- Raw item fields in range: turbine 1, RUN, interval 500, lead 50, margin 20, from point 0, without a link. -/
def rawItem : RawItem :=
  { turbine := 1, label := 9, basis := 0, interval := 500, lead := 50, margin := 20, current := 0, point := 0,
    linkPresent := 0, link := none }

theorem test_wf_refuses_strap : (Instr.resetRelease 16 true).wf = false ∧ (Instr.resetRelease 15 true).wf = true := by
  decide
theorem test_wf_refuses_answered : (Instr.restoreComplete 122).wf = false ∧ (Instr.restoreComplete 121).wf = true := by
  decide
theorem test_wf_refuses_tag : (Instr.readStatus ⟨.d, 256⟩).wf = false ∧ (Instr.readStatus ⟨.d, 255⟩).wf = true := by decide
theorem test_wf_refuses_byte : (Instr.readStream dOrigin 256).wf = false ∧ (Instr.adviceMode dOrigin 256).wf = false := by
  decide
theorem test_wf_refuses_half : (Instr.commit dOrigin 0 65536).wf = false ∧
    (Instr.setClock dOrigin 65536 0 0 0 0 0).wf = false := by decide
theorem test_wf_refuses_word : (Instr.setCounter dOrigin 1 0 4294967296).wf = false := by decide
theorem test_wf_refuses_entry_field :
    (Instr.loadStream dOrigin [{ vibRaw 0 with spacing := 65536 }]).wf = false ∧
    (Instr.loadStream dOrigin [vibRaw 0]).wf = true := by decide
theorem test_wf_refuses_long_list : (Instr.loadStream dOrigin (List.replicate 29 (vibRaw 0))).wf = false := by decide
theorem test_wf_refuses_drop_list : (Instr.dropStream dOrigin (List.replicate 256 0)).wf = false := by decide +kernel
theorem test_wf_refuses_set_field : (Instr.loadBandset dOrigin 0 ⟨256, 1, 0, 0, 0⟩ []).wf = false := by decide
theorem test_wf_refuses_band_field :
    (Instr.loadBandset dOrigin 0 ⟨1, 1, 0, 0, 0⟩ [⟨0, 1, 2, 4294967296, 5, 0⟩]).wf = false := by decide
theorem test_wf_refuses_short_limits : (Instr.loadLimits dOrigin [⟨0, 0⟩]).wf = false := by decide
theorem test_wf_refuses_limit_field : (Instr.loadLimits dOrigin (List.replicate 40 ⟨65536, 0⟩)).wf = false := by decide
theorem test_wf_refuses_short_curve : (Instr.loadCurve dOrigin 0 [1]).wf = false := by decide
theorem test_wf_refuses_short_settings : (Instr.loadSettings dOrigin [1]).wf = false := by decide
theorem test_wf_refuses_item_field : (Instr.loadItem dOrigin 0 { rawItem with label := 65536 }).wf = false := by decide
theorem test_wf_refuses_link_bytes :
    (Instr.loadItem dOrigin 0 { rawItem with linkPresent := 1 }).wf = false ∧
    (Instr.loadItem dOrigin 0 { rawItem with link := some ⟨0, 2, 5⟩ }).wf = false ∧
    (Instr.loadItem dOrigin 0 { rawItem with linkPresent := 1, link := some ⟨256, 2, 5⟩ }).wf = false := by decide

theorem test_wf_refuses_good_mix : (Instr.resetAssert (.mixed (sealed [0]))).wf = false ∧
    (Instr.storeRecordWritten (.failed (.mixed (sealed [0])))).wf = false ∧ (Instr.powerLoss (.mixed (sealed [0]))).wf = false ∧
    (Instr.powerLoss (.mixed ⟨[0], 0⟩)).wf = true := by decide +kernel

/-! ## Worked values -/

/-- The check value of the nine digits "123456789" under the generator and start value of R193. -/
theorem test_crc_check_value : crc16 [0x31, 0x32, 0x33, 0x34, 0x35, 0x36, 0x37, 0x38, 0x39] = 0x29B1#16 := by
  decide +kernel

/-- A quarter of 1,999 kW is rounded toward zero at both ends (R26). -/
theorem test_plausible_ends : plausible 1999 (-499) = true ∧ plausible 1999 (-500) = false ∧ plausible 1999 2498 = true ∧
    plausible 1999 2499 = false := by decide

/-- The clauses of the deficit statement at their ends, with an expected power of 1 and of 3 kW (R116). -/
theorem test_witness_deficit : (0 < 1 ∧ ((1 : Nat) : Int) ≤ 1 ∧ deficit 1 1 = 0) ∧
    ((2 : Int) < ((3 : Nat) : Int) ∧ deficit 3 2 = 333) ∧ deficit 3 0 = 1000 ∧ deficit 3 (-1) = 1000 := by decide

/-- A fall needs 8 times the level below 7 times the lower level (R79). -/
theorem test_fall_needs_seven_eighths :
    (gradeBand 1 ⟨.order, 1, 2, 800, 1600, false⟩ 700 ⟨.alert, 0, 0, 0, none, false⟩).grade = .alert ∧
    (gradeBand 1 ⟨.order, 1, 2, 800, 1600, false⟩ 699 ⟨.alert, 0, 0, 0, none, false⟩).grade = .good := by decide

/-- Cosines of an eighth, a sixth and a third of a turn, and the sine of a twelfth (R60, R61; entry 12). -/
theorem test_trig_values :
    cosTurn 1 8 = 13043817825332782213 ∧ cosTurn 1 6 = 9223372036854775808 ∧ cosTurn (-1) 3 = -9223372036854775808 ∧
    sinTurn 1 12 = 9223372036854775808 ∧ cosTurn 1 4 = 0 ∧ sinTurn 3 4 = -18446744073709551616 := by decide +kernel

/-- A record of slot 0 with four samples over four sample times. -/
def fourSamples : VibRecord :=
  { turbine := 0, slot := 0, inst := 1, gen := 0, opening := ⟨0, 0⟩, closing := ⟨2, 8000⟩, meanSpeed := 600, rate := .r1600,
    samples := timed 0 .r1600 [3, -1, 2, 0], test := false }

/-- The lines of a spectrum add up to the mean square of the samples about their mean, here 10 / 4 (R60). -/
theorem test_lines_sum_to_the_mean_square :
    (lineNum fourSamples 1 + lineNum fourSamples 2) * 4 = 10 * powerDen 4 ∧ spanUs ⟨0, 0⟩ ⟨2, 8000⟩ = 2500 ∧
    lineCount 1600 2500 = 1 ∧ lineCount 1600 2501 = 2 := by decide +kernel

/-- Stamps 2^31 ms apart are disorder either way, and no counted edge is too close at spacing 0 (R39, R40). -/
theorem test_disorder_at_half_the_range :
    disordered (some ⟨0, 0⟩) ⟨2147483648, 0⟩ = true ∧ disordered (some ⟨2147483648, 0⟩) ⟨0, 0⟩ = true ∧
    disordered (some ⟨0, 0⟩) ⟨2147483647, 0⟩ = false ∧ disordered (some ⟨7, 16⟩) ⟨7, 16⟩ = true ∧
    tooClose 0 (some ⟨0, 0⟩) ⟨0, 16⟩ = false ∧ tooClose 2 (some ⟨0, 0⟩) ⟨0, 16⟩ = true := by decide

/-- Speeds of R46: 40,000 µs, the top, and a difference that the period's field cannot hold. -/
theorem test_speeds_of_periods :
    speedBetween ⟨40, 0⟩ ⟨0, 0⟩ = 15000 ∧ periodOf ⟨40, 0⟩ ⟨0, 0⟩ = 40000 ∧ speedBetween ⟨9, 155 * 16⟩ ⟨0, 0⟩ = 65535 ∧
    speedBetween ⟨4294968, 0⟩ ⟨0, 0⟩ = 0 := by decide +kernel

/-- A test window's result sets the beyond-range flag of a band and nothing else of it (R77, R85). -/
theorem test_flags_of_a_test_window :
    flagBands 600 1600 [⟨.fixed, 1, 800, 1, 2, false⟩, ⟨.fixed, 1, 799, 1, 2, false⟩]
        [⟨.alert, 3, 2, 1, some 900, false⟩, ⟨.good, 0, 0, 4, some 9, true⟩] =
      [⟨.alert, 3, 2, 1, some 900, true⟩, ⟨.good, 0, 0, 4, some 9, false⟩] := by decide

/-- A cold report after the tick that reached the dwell leaves the thaw due (R121, R122). -/
theorem test_cold_report_keeps_a_due_thaw :
    let r := takeAmbient 30 (-10) { IceRec.reset with state := .iced, warm := true, thawTimer := 1200, thawDue := true }
    r.warm = false ∧ r.thawTimer = 0 ∧ r.thawDue = true ∧ r.lastAmbient = some (-10) := by decide

/-- The checkpoint moment of midnight is judged by the hour active at its tick (R133). -/
theorem test_midnight_checkpoint :
    let c : Clock := ⟨.running, 5, 23, 59, 59, 9, 0, 0, false, false, false⟩
    (midnight (tickClock 0 c)).checkpointDue = true ∧ (midnight (tickClock 3 c)).checkpointDue = false ∧
    (midnight (tickClock 0 c)).day = 6 ∧ (midnight (tickClock 0 c)).midnightCheckpoint = false := by decide

/-- An item of due point 500, lead 50 and margin 20 by the table of R141. -/
theorem test_item_states :
    [449, 450, 499, 500, 519, 520].map (itemStateAt ⟨0, 9, .run, 500, 50, 20, 0, 500, none, none, .waiting⟩) =
      [.waiting, .coming, .coming, .due, .due, .overdue] := by decide

/-! ## A part that runs -/

/-- A part whose path is ACTIVE with both links UP, every block at its power-on values. -/
def ready : State :=
  let s := State.powerOn .active 1 true true true .blank []
  { s with portU := { s.portU with up := true }, portD := { s.portD with up := true } }

/-- As `ready`, with turbine 1 present and in service, of class 1 and 2,000 kW. -/
def serviced : State :=
  { ready with turbines := upd ready.turbines 0 (fun r => { r with present := true, cls := 1, rated := 2000, service := true }) }

/-- As `serviced`, slot 0 in a state with a VIB entry of turbine 1 and its record. -/
def withVib (st : StreamState) : State :=
  { serviced with
    streams := { serviced.streams with
      slots := put serviced.streams.slots 0 { Slot.reset with state := st, entry := some (entryOf (vibRaw 0)), inst := 1 } },
    vib := { serviced.vib with recs := put serviced.vib.recs 0 (some (newVibRec .reset)) } }

/-- As `withVib .live`, with turbine 1 TRACKING. -/
def tracked : State :=
  { withVib .live with speeds := upd ready.speeds 0 (fun r => { r with state := .tracking, stopTimer := some 0 }) }

/-- An item of turbine 1 by operating hours. -/
def runItem : Item := ⟨0, 9, .run, 500, 50, 20, 0, 500, none, none, .waiting⟩

/-- A vibration record of slot 0 of `tracked`. -/
def vibRecord : VibRecord :=
  { turbine := 0, slot := 0, inst := 1, gen := 0, opening := ⟨0, 0⟩, closing := ⟨1000, 0⟩, meanSpeed := 600, rate := .r1600,
    samples := [], test := false }

/-- Any frame of a status kind from turbine 3. -/
def otherFrame (kind : Nat) : List Byte := (buildFrame kind 0 3 0 5 77 []).bytes

/-- A command runs from `ready` and its reply waits at Port D. -/
theorem test_read_status_replies :
    (match step { ready with pending := [.readStatus dOrigin] } with
     | .next t => decide (t.portD.localQ.length = 1) && decide (t.replySeq = 1) && decide (t.pending = [])
     | _ => false) = true := by decide +kernel

/-- A command frame of READ STATUS is answered once. -/
theorem test_command_frame :
    (match exec (.receiveFrame .d (buildFrame 8 0 1 0 0 0 [1, 7]).bytes) ready with
     | .next t => decide (t.portD.localQ.length = 1) && decide (t.replySeq = 1)
     | _ => false) = true := by decide +kernel

/-- The reset state restores, and becomes ACTIVE with a blank store's finding and STARTED in the queue or at Port D. -/
theorem test_restore_runs :
    (match step { State.reset with pending := [.restoreComplete 121] } with
     | .next t => decide (t.standing = .active) && decide (t.store.state = .idle)
     | _ => false) = true := by decide +kernel

/-- A part that has written its header and the blocks of two turbines restores their counters, and a block whose check does
not match gives zeros (R148, R155). -/
theorem test_written_records_restore :
    let c : MainCounters := ⟨1, 2, 3, 4, 4294967295⟩
    let im := imageTorn (imageWith (imageWith .blank .header) (.block 23 c)) (.block 0 c) (.mixed ⟨blockContents c, 0⟩)
    im.header = true ∧ restoredBlock im 121 23 = some c ∧ restoredBlock im 121 0 = none ∧ restoredBlock im 24 23 = none ∧
    restoreResult im 121 = .part ∧ restoreResult .blank 121 = .invalid ∧ restoreResult im 0 = .absent := by decide +kernel

set_option maxRecDepth 20000 in
/-- A stop due at a TICK ends the window of a waiting commit's group, which then changes over unforced although the timeout is
due at that TICK too: the reply has 1 slot changed, no flag, none forced (R188, R189). -/
theorem test_window_end_before_timeout :
    let s := updVib tracked 0 (fun r => { r with window := some (openedWindow false ⟨0, 0⟩ 4 []) })
    (match exec .tick { s with cmd := .commit { origin := dOrigin, ticks := 0, groups := [[0]], changed := 1 } } with
     | .next t => decide (t.cmd = .ready) && decide ((t.streams.slots.get 0).state = .empty) &&
         (t.portD.localQ.any (fun f => decide ((payloadOf f.frame.bytes).drop 6 = [1, 0, 0, 0, 0, 0, 0, 0, 0, 0, 0])))
     | _ => false) = true := by decide +kernel

/-! ## Each statement's hypotheses can be met -/

theorem test_accepts : accepts ready dOrigin ∧ accepts ready uOrigin ∧ accepts serviced dOrigin ∧ accepts tracked dOrigin ∧
    accepts (withVib .held) dOrigin := by
  unfold accepts
  decide +kernel

/-- Steps: a command at the front, an empty queue, the invariants in a state that steps. -/
theorem test_witness_steps :
    let s := { ready with pending := [.clearGrid dOrigin, .tick] }
    s.pending = .clearGrid dOrigin :: [.tick] ∧ ready.pending = [] ∧ attnFormed s ∧ queuesBounded s ∧ engineSound s ∧
    (match step s with | .next t => decide (t.replySeq = 1) | _ => false) = true := by
  unfold attnFormed queuesBounded engineSound
  decide +kernel

/-- The three causes of ATTN one at a time, and none off the ACTIVE path (R166). -/
theorem test_witness_EveryStepFormsAttn :
    let alarm : State := { ready with
      turbines := upd ready.turbines 23 (fun r => { r with present := true }),
      vib := { ready.vib with grades := put ready.vib.grades 23 .alarm } }
    attnValue alarm = true ∧ attnValue { ready with harm := { ready.harm with grid := { ready.harm.grid with state := .condition } } } = true ∧
    attnValue { ready with items := put ready.items 95 (some ⟨0, 9, .run, 500, 50, 20, 0, 500, none, none, .overdue⟩) } = true ∧
    attnValue ready = false ∧ attnValue { alarm with standing := .held } = false := by decide +kernel

theorem test_witness_commitWaits : commitWaits ready := by
  intro p h
  cases h

theorem test_witness_start_up :
    (15 < 16 ∧ (State.powerOn .held 1 false false false .blank []).standing = .held ∧
      (State.powerOn .unpowered 1 false false false .blank []).standing = .unpowered) ∧
    State.reset.standing = .restoring ∧ ready.standing = .active ∧ State.reset.cmd = .ready := by decide +kernel

/-- As `ready`, restoring an image: every record written, without the last item, or with its header spoiled. -/
def restoring (im : Image) : State := { ready with standing := .restoring, image := im }

/-- An image of zeroed counters and empty slots, its first `n` item records written. -/
def writtenImage (n : Nat) : Image :=
  ((allItems.take n).foldl (fun im i => imageWith im (.item i none))
    (allTurbines.foldl (fun im t => imageWith im (.block t .zero)) (imageWith .blank .header)))

set_option maxRecDepth 20000 in
/-- The cases of a restore: a good image, a partial one, a header that is not good, and no answer (R155). -/
theorem test_witness_RestoreFillsAndActivates :
    (writtenImage 96).header = true ∧
    (allTurbines.filter (fun x => ((writtenImage 96).block x).isNone)).length = 0 ∧
    (allItems.filter (fun i => ((writtenImage 96).item i).isNone)).length = 0 ∧
    (allItems.filter (fun i => ((writtenImage 95).item i).isNone)).length = 1 ∧
    Image.blank.header = false ∧ (restoring .blank).standing = .restoring ∧ (restoring .blank).clock.state = .unset ∧
    (restoring .blank).cmd = .ready ∧ (portOf (restoring .blank) .u).signal = true ∧
    (portOf (State.powerOn .restoring 1 true false false .blank []) .d).signal = false := by decide +kernel

/-- An interrupted write: a header is spoiled whatever its torn bytes are, and another record is as they leave it (R157). -/
theorem test_witness_FallLosesTheVolatileState :
    let s (p : Nat) (r : StoreRecord) : State := { ready with
      image := imageWith .blank .header, store := { ready.store with state := .writing p r } }
    (s 0 .header).image.header = true ∧
    ([TornRecord.old, .new, .mixed ⟨[7], 1⟩].all (fun x => !(imageInterrupted (s 0 .header) x).header)) = true ∧
    StoreRecord.block 0 .zero ≠ .header ∧ (imageInterrupted (s 1 (.block 0 .zero)) .old).header = true ∧
    ready.store.state = .idle := by decide +kernel

theorem test_witness_LineSignalMovesThePort :
    ready.standing = .active ∧ (portOf ready .u).up = true ∧ (portOf ready .d).up = true ∧
    (portOf (State.powerOn .active 1 true false false .blank []) .u).up = false := by decide +kernel

theorem test_witness_BadFrameIsOnlyCounted :
    receives ready .u = true ∧ receives ready .d = true ∧ frameGood [] = false ∧
    frameGood ((otherFrame 4).dropLast) = false := by decide +kernel

theorem test_witness_OtherFramesPassUnchanged :
    [0, 4, 7, 255].all (fun k => frameGood (otherFrame k) && decide ((headerOf (otherFrame k)).kind = k)) = true ∧
    frameGood (otherFrame 1) = true ∧ (headerOf (otherFrame 1)).source ≠ ready.node ∧
    (portOf ready .d).transit.length < transitCap .d ∧ (portOf ready .u).transit.length < transitCap .u ∧
    transitCap .d ≤ (List.replicate 64 (⟨[]⟩ : Frame)).length ∧ transitCap .u ≤ (List.replicate 32 (⟨[]⟩ : Frame)).length := by
  decide +kernel

theorem test_witness_CommandFrameIsItsCommand :
    let f := (buildFrame 8 0 1 0 0 0 [34, 7, 191]).bytes
    frameGood f = true ∧ (headerOf f).kind = 8 ∧ (headerOf f).source = ready.node ∧ 2 ≤ (payloadOf f).length ∧
    parse ⟨.d, byteAt (payloadOf f) 1⟩ (byteAt (payloadOf f) 0) ((payloadOf f).drop 2) =
      .command (.resumeStream ⟨.d, 7⟩ 191) := by decide +kernel

/-- A COMMAND frame of the part's node with a payload. -/
def commandFrame (body : List Byte) : List Byte := (buildFrame 8 0 1 0 0 0 body).bytes

/-- The refusals of a code and its parameters: no tag, an unknown code at both ends of each gap, a length that does not fit, a
list that does, and one by its own count (R181, R194). -/
theorem test_witness_refused_payloads :
    ([[], [34], [34, 7], [0, 7], [16, 7, 1]].all (fun b =>
      frameGood (commandFrame b) && decide (payloadOf (commandFrame b) = b))) = true ∧
    ([0, 11, 15, 24, 31, 52, 255].map (fun c => commandLength c [])) = List.replicate 7 none ∧
    commandLength 34 [] = some 1 ∧ ([] : List Byte).length ≠ 1 ∧ ([191] : List Byte).length = 1 ∧
    commandLength 16 [1] = some 19 ∧ ([1] : List Byte).length ≠ 19 ∧ commandLength 18 [0, 12] = some 175 ∧
    accepts ready ⟨.d, 0⟩ ∧ accepts ready ⟨.u, byteAt [34, 7] 1⟩ := by
  unfold accepts
  decide +kernel

/-- Port D with a local and a transit frame, one of each alone, and a run count at 3 and 4. -/
def loaded (l : List LocalFrame) (x : List Frame) (run : Nat) : State :=
  { ready with portD := { ready.portD with localQ := l, transit := x, run := run } }

theorem test_witness_TransmitterAlternates :
    let f := adviceFrame ready 0
    let g : Frame := ⟨[]⟩
    canSend (loaded [f] [] 0) .d = true ∧ canSend (loaded [f] [g] 3) .d = true ∧ canSend (loaded [f] [g] 4) .d = true ∧
    canSend (loaded [] [g] 4) .d = true := by decide +kernel

/-- What fills a freed place: a record of the Finding Queue at 12 frames and none at 13, the owed frame of the lowest turbine
at 15 and none at 16, and the RESTART reply that is told (R164, R169, R191). -/
theorem test_witness_freed_places :
    let f := adviceFrame ready 0
    let found : State := raise (loaded (List.replicate 13 f) [] 0) .portUp none .none []
    let owing : State := updAdvice (updAdvice ready 3 (fun r => { r with owed := true })) 23 (fun r => { r with owed := true })
    found.findings.queue.length = 1 ∧ (List.replicate 12 f).length ≤ 12 ∧ 12 < found.portD.localQ.length ∧
    (owing.advice.recs.get 3).owed = true ∧ (allTurbines.all (fun y => decide (3 ≤ y) || !(owing.advice.recs.get y).owed)) = true ∧
    (List.replicate 15 f).length < 16 ∧ 16 ≤ (List.replicate 16 f).length ∧
    (replyFrame ready .restartReply dOrigin 51 none []).what = .restartReply ∧
    ({ ready with cmd := .restart false }).cmd = .restart false := by decide +kernel

theorem test_witness_RepliesAreOfferedOrDropped :
    let f := adviceFrame ready 0
    (portOf (loaded (List.replicate 15 f) [] 0) .d).localQ.length < 16 ∧
    16 ≤ (portOf (loaded (List.replicate 16 f) [] 0) .d).localQ.length := by decide +kernel

theorem test_witness_BuiltFramesPassTheCheck :
    255 < 256 ∧ 4294967295 < 4294967296 ∧ (List.replicate 512 (0 : Byte)).length ≤ 512 ∧
    frameGood (buildFrame 255 255 255 255 255 4294967295 [1, 2, 3]).bytes = true := by decide +kernel

theorem test_witness_WorkingRefusesBusy :
    ({ ready with umgt := false }).umgt = false ∧ ({ ready with cmd := .restart false }).cmd ≠ .ready ∧
    ready.umgt = true := by decide +kernel

theorem test_witness_reads :
    entryAt tracked 0 = some (entryOf (vibRaw 0)) ∧ (tracked.vib.recs.get 0).isSome = true ∧
    (entryOf (vibRaw 0)).role = .vib ∧ (entryOf (vibRaw 0)).source = tnum 0 := by decide +kernel

theorem test_witness_bad_entries :
    setSettingsOk ⟨65, 1, 0, 0, 0⟩ = false ∧ setSettingsOk ⟨64, 1, 0, 0, 0⟩ = true ∧
    firstBadBand 1 (List.replicate 11 ⟨0, 1, 2000, 1, 2, 0⟩ ++ [⟨0, 2, 1, 1, 2, 0⟩]) = some 12 ∧
    firstBadLimit 1 (List.replicate 39 ⟨2000, 10000⟩ ++ [⟨2001, 0⟩]) = some 40 ∧
    firstBadPair [] 1 [vibRaw 0, vibRaw 0] = some 2 ∧ firstBadPair [] 1 [vibRaw 192] = some 1 ∧
    firstBadBin 3 (List.replicate 24 0 ++ [32768]) = some 27 ∧
    firstBadSetting (settingAt (List.replicate 25 0) 16) 1 (List.replicate 25 0) = some 3 := by decide +kernel

/-- The default settings as LOAD SETTINGS carries them (R183). -/
def defaultSettings : List Nat :=
  [0, 100, 50, 3, 50, 10, 3, 25, 50, 2, 30, 1, 0, 10, 120, 25, 10, 4, 30, 120, 0, 2, 5, 6, 3]

theorem test_witness_loads :
    firstBadPair [] 1 [vibRaw 0, vibRaw 191] = none ∧ [0, 191].all (fun k => decide (k < 192)) = true ∧
    setSettingsOk ⟨64, 15, 1, 16, 15⟩ = true ∧ setSettingsOk ⟨1, 1, 0, 0, 0⟩ = true ∧
    bandOk ⟨0, 1, 2000, 1, 16777215, 1⟩ = true ∧ bandOk ⟨1, 9999, 10000, 16777214, 16777215, 0⟩ = true ∧
    firstBadSetting (settingAt defaultSettings 16) 1 defaultSettings = none ∧ defaultSettings.length = 25 ∧
    settingsOf defaultSettings = Settings.reset := by decide +kernel

/-- Entries at the ends of their ranges, and one past each (R1, R2): VIB, TACH, GRID, CONV_I, OPSTAT and PLAIN. -/
theorem test_witness_entry_ranges :
    let vib : RawEntry := { vibRaw 0 with source := 24, bandSet := 31, scale := 7, silence := 255 }
    let tach : RawEntry := { vibRaw 0 with kind := 2, role := 1, pulses := 512, edges := 2, markerPresent := 1, spacing := 65535 }
    let grid : RawEntry := { vibRaw 0 with role := 2, source := 0, phase := 2 }
    let conv : RawEntry := { vibRaw 0 with role := 4, source := 24, phase := 2, disposition := 2, thinN := 16 }
    let opstat : RawEntry := { vibRaw 0 with kind := 3, role := 5 }
    let plain : RawEntry := { vibRaw 0 with kind := 3, role := 6, source := 31, channel := 7 }
    ([vib, tach, grid, conv, opstat, plain].all entryOk) = true ∧
    ([{ vib with source := 25 }, { vib with bandSet := 32 }, { vib with scale := 8 }, { vib with kind := 2 },
      { tach with pulses := 513 }, { tach with pulses := 0 }, { tach with edges := 3 }, { tach with markerPolarity := 2 },
      { grid with source := 1 }, { grid with phase := 3 }, { conv with thinN := 17 }, { conv with thinN := 1 },
      { opstat with source := 0 }, { plain with source := 32 }, { plain with channel := 8 }, { plain with role := 7 }].all
      (fun r => !entryOk r)) = true := by decide +kernel

/-- Bands, set settings and Part Settings at the ends of their ranges, and past them (R65, R183). -/
theorem test_witness_setting_ranges :
    bandOk ⟨0, 1, 2001, 1, 2, 0⟩ = false ∧ bandOk ⟨1, 1, 10001, 1, 2, 0⟩ = false ∧ bandOk ⟨1, 5, 5, 1, 2, 0⟩ = false ∧
    bandOk ⟨1, 1, 2, 1, 16777216, 0⟩ = false ∧ bandOk ⟨0, 1, 2, 1, 2, 2⟩ = false ∧
    setSettingsOk ⟨0, 1, 0, 0, 0⟩ = false ∧ setSettingsOk ⟨1, 16, 0, 0, 0⟩ = false ∧ setSettingsOk ⟨1, 1, 0, 17, 0⟩ = false ∧
    ([0, 50, 65236, 65535].all (settingOk 0 14)) = true ∧ ([51, 65235].all (fun n => !settingOk 0 14 n)) = true ∧
    ([0, 150, 65486].all (settingOk 0 19)) = true ∧ ([151, 65485].all (fun n => !settingOk 0 19 n)) = true ∧
    settingOk 25 17 24 = true ∧ settingOk 25 17 25 = false ∧ settingOk 0 5 50 = true ∧ settingOk 0 5 55 = false ∧
    settingOk 0 11 90 = true ∧ settingOk 0 11 85 = false ∧ settingOk 0 25 23 = true ∧ settingOk 0 25 24 = false := by
  decide +kernel

/-- First bad entries after good ones: a slot named before, a slot out of range, and none (R184). -/
theorem test_witness_first_bad_pair :
    firstBadPair [] 1 [vibRaw 0, vibRaw 1, vibRaw 0, vibRaw 192] = some 3 ∧ firstBadPair [] 1 [vibRaw 191, vibRaw 192] = some 2 ∧
    firstBadPair [] 1 [vibRaw 191, { vibRaw 3 with scale := 8 }] = some 2 := by decide +kernel

theorem test_witness_DiscardStageCopiesTheActive :
    ((withVib .faulty).streams.slots.get 0).state = .faulty ∧
    ((withVib .faulty).streams.slots.get 0).entry = some (entryOf (vibRaw 0)) := by decide +kernel

/-- As `ready`, with the staged entries of slots 0 and 191. -/
def stagedPair (a b : Nat) : State :=
  { ready with staged := { ready.staged with
      streams := put (put ready.staged.streams 0 (some (entryOf (vibRaw a)))) 191 (some (entryOf (vibRaw b))) } }

theorem test_witness_commits :
    commitRefusal (stagedPair 0 1) = none ∧ commitRefusal (stagedPair 0 8) = some (.duplicateKey, 191) ∧
    commitTicks 0 = some 100 ∧ commitTicks 10 = some 10 ∧ commitTicks 600 = some 600 ∧ commitTicks 9 = none ∧
    slotChanged (stagedPair 0 1) 191 = true ∧ slotChanged (stagedPair 0 1) 1 = false ∧
    (∀ i, slotChanged ready i = false) := by decide +kernel

/-- As `stagedPair`, both entries TACH entries of turbine 1. -/
def stagedTachs : State :=
  let tach (k : Nat) : StreamEntry := entryOf { vibRaw k with kind := 2, role := 1, pulses := 64 }
  { ready with staged := { ready.staged with streams := put (put ready.staged.streams 5 (some (tach 1))) 190 (some (tach 2)) } }

/-- A repeated role is found at the higher slot, and no key is repeated (R3, R186). -/
theorem test_witness_DuplicateRole :
    commitRefusal stagedTachs = some (.duplicateRole, 190) := by decide +kernel

theorem test_witness_CommitTimeoutForcesTheGroups :
    let p : PendingCommit := { origin := dOrigin, ticks := 0, groups := [[0], [191]], changed := 2 }
    ({ stagedPair 0 1 with cmd := .commit p }).cmd = .commit p ∧ p.ticks = 0 ∧ p.groups.flatten.Nodup := by decide +kernel

/-- As `tracked`, its staged copy empty but for a VIB entry of the same turbine in slot 191 and a GRID_V reference in slot 7. -/
def regrouping : State :=
  { tracked with staged := { tracked.staged with
      streams := put (put tracked.staged.streams 191 (some (entryOf (vibRaw 1)))) 7
        (some (entryOf { vibRaw 0 with role := 2, source := 0, kind := 1 })) } }

/-- Slots that change and one that does not, a bond of an old entry with a new one, the bonded slots in one group, and a mode
and a timeout on both sides of their ranges (R186, R188). -/
theorem test_witness_commit_groups :
    (slotChanged regrouping 0 = true ∧ regrouping.staged.streams.get 0 = none ∧ (regrouping.streams.slots.get 0).state = .live ∧
      slotChanged regrouping 191 = true ∧ (regrouping.streams.slots.get 191).entry = none ∧ slotChanged regrouping 1 = false) ∧
    ((regrouping.streams.slots.get 0).entry = some (entryOf (vibRaw 0)) ∧
      regrouping.staged.streams.get 191 = some (entryOf (vibRaw 1)) ∧ (entryOf (vibRaw 0)).source = (entryOf (vibRaw 1)).source) ∧
    groupsOf regrouping (changedSlots regrouping) = [[7], [0, 191]] ∧ accepts regrouping dOrigin ∧
    commitRefusal regrouping = none ∧ (1 < 2 ∧ 9 ≠ 0 ∧ 9 < 10 ∧ 600 < 601) := by
  unfold accepts
  decide +kernel

/-- Groups that wait: one with a window, then one without, and none left (R188). -/
theorem test_witness_waiting_groups :
    let open_ := updVib regrouping 0 (fun r => { r with window := some (openedWindow false ⟨0, 0⟩ 4 []) })
    let p (gs : List (List SlotId)) : PendingCommit := { origin := dOrigin, ticks := 100, groups := gs, changed := 3 }
    let s (gs : List (List SlotId)) : State := { open_ with cmd := .commit (p gs) }
    slotHasWindow (s [[0, 191], [7]]) 0 = true ∧ slotHasWindow (s [[0, 191], [7]]) 7 = false ∧
    (s [[0, 191], [7]]).cmd = .commit (p [[0, 191], [7]]) ∧ (p [[0, 191], [7]]).groups = [[0, 191]] ++ [7] :: [] ∧
    (∀ h ∈ [[(0 : SlotId), 191]], ∃ i ∈ h, slotHasWindow (s [[0, 191], [7]]) i = true) ∧
    (∀ i ∈ [(7 : SlotId)], slotHasWindow (s [[0, 191], [7]]) i = false) ∧ (p [[0, 191]]).groups ≠ [] ∧ (p []).groups = [] ∧
    windowAt open_ 0 ≠ none ∧ windowAt regrouping 0 = none := by decide +kernel

/-- What lies behind the tables: a hold that begins and one that ends, a request withdrawn and none, entries of each sort that a
slot takes (R5, R67, R90, R107, R124). -/
theorem test_witness_behind_the_tables :
    let iced (hold : Bool) : State := { ready with
      active := { ready.active with settings := { ready.active.settings with holdOnIce := hold } },
      ice := upd ready.ice 0 (fun r => { r with state := .iced }),
      harm := { ready.harm with grid := { ready.harm.grid with requests := [0] } } }
    (((iced true).ice.get 0).state = .iced ∧ (iced true).active.settings.holdOnIce = true ∧
      (iced false).active.settings.holdOnIce = false) ∧
    (0 ∈ (iced true).harm.grid.requests ∧ (1 : Tid) ∉ (iced true).harm.grid.requests) ∧
    ((entryOf (vibRaw 1)).role = .vib ∧ (entryOf { vibRaw 0 with role := 2, source := 0 }).role = .gridV ∧
      (entryOf { vibRaw 0 with role := 2, source := 0 }).phase = .a) ∧
    (entryAt regrouping 0).isSome = true ∧ (regrouping.vib.recs.get 0).isSome = true := by decide +kernel

theorem test_witness_StreamEntriesReadBackAsLoaded :
    (vibRaw 191).wf = true ∧ entryOk (vibRaw 191) = true ∧
    entryOk { vibRaw 0 with role := 1, kind := 2, pulses := 512, edges := 2, markerPresent := 1, markerPolarity := 1,
                            spacing := 65535, disposition := 2, thinN := 16 } = true := by decide +kernel

theorem test_witness_slots :
    ([StreamState.idle, .live, .silent, .faulty, .held].all (fun st =>
      decide (((withVib st).streams.slots.get 0).state = st) &&
      decide (entryAt (withVib st) 0 = some (entryOf (vibRaw 0))))) = true ∧
    (ready.streams.slots.get 0).state = .empty := by decide +kernel

theorem test_witness_SilenceExpirySilences :
    let s := setSlot (withVib .live) 0 { (withVib .live).streams.slots.get 0 with silence := some 0, expected := some 255 }
    s.standing = .active ∧ (s.streams.slots.get 0).state = .live ∧ (s.streams.slots.get 0).silence = some 0 ∧
    entryAt s 0 = some (entryOf (vibRaw 0)) ∧ (s.streams.slots.get 0).expected = some 255 := by decide +kernel

theorem test_witness_SequenceCheckHasThreeCases :
    (255 + 256 - 255) % 256 = 0 ∧ (126 + 256 - 255) % 256 = 127 ∧ (127 + 256 - 255) % 256 = 128 := by decide

/-- A frame handed on: dispositions PASS, TAKE, and THIN with its counter at both sides of N; a payload that is malformed (R5,
R11, R17). -/
theorem test_witness_dispositions :
    (entryOf (vibRaw 0)).disposition = .pass ∧ (entryOf { vibRaw 0 with disposition := 1 }).disposition = .take ∧
    (entryOf { vibRaw 0 with disposition := 2, thinN := 16 }).disposition = .thin ∧ 16 ≤ 15 + 1 ∧ 14 + 1 < 16 ∧
    frameData .sample [1, 0] = none ∧ (frameData .sample [1, 0, 0]).isSome = true := by decide +kernel

/-- A SAMPLE frame of source 1, channel 0 with one sample of 0. -/
def sampleFrame : List Byte := (buildFrame 1 0 1 0 200 77 [1, 0, 0]).bytes

/-- As `withVib`, the entry of slot 0 a PLAIN one that passes frames or takes them. -/
def withPlain (st : StreamState) (pass : Bool) : State :=
  setSlot serviced 0 { Slot.reset with
    state := st, inst := 1,
    entry := some (entryOf { vibRaw 0 with role := 6, disposition := if pass then 0 else 1 }) }

/-- What a state's slot 0 becomes at `sampleFrame`: its state and frames taken. -/
def afterSample (s : State) : Option (StreamState × Nat) :=
  match exec (.receiveFrame .u sampleFrame) s with
  | .next t => some ((t.streams.slots.get 0).state, (t.streams.slots.get 0).taken)
  | _ => none

theorem test_witness_classifier :
    (receives ready .u = true ∧ frameGood sampleFrame = true ∧ (headerOf sampleFrame).kind = 1 ∧
      (headerOf sampleFrame).source = 1 ∧ (headerOf sampleFrame).channel = 0) ∧
    (∀ i, entryAt ready i = none) ∧ ({ Settings.reset with policy := .discard }).policy = .discard ∧
    (∀ j, j ≠ 0 → ((withPlain .idle true).streams.slots.get j).state = .empty) ∧
    (((withPlain .idle true).streams.slots.get 0).entry.map (fun e => (e.source, e.channel, streamKindCode e.kind))) =
      some (1, 0, 1) ∧
    ([StreamState.idle, .live, .silent, .faulty, .held].all (fun st =>
      decide (((withPlain st true).streams.slots.get 0).state = st) && decide ((withPlain st false).standing = .active))) = true ∧
    referenceFailure (withPlain .idle true) (entryOf (vibRaw 0)) = some .bandSet ∧
    referenceFailure ready { entryOf (vibRaw 0) with role := .tach } = some .turbine ∧
    referenceFailure (withPlain .idle true) { entryOf (vibRaw 0) with role := .plain } = none := by decide +kernel

theorem test_classifier_moves_states :
    [StreamState.idle, .live, .silent, .faulty, .held].map (fun st => afterSample (withPlain st true)) =
      [some (.live, 1), some (.live, 1), some (.live, 1), some (.faulty, 1), some (.held, 1)] ∧
    [StreamState.idle, .live, .silent].map (fun st => afterSample (withVib st)) =
      [some (.faulty, 1), some (.faulty, 1), some (.faulty, 1)] := by decide +kernel

/-- A FAULTY slot that thins to one in 16, its counter on both sides of the sixteenth, and a stale frame's gap at both ends
(R10, R17). -/
theorem test_witness_thinned :
    let s (k : Nat) : State := setSlot serviced 0 { Slot.reset with
      state := .faulty, inst := 1, thin := k, expected := some 72,
      entry := some (entryOf { vibRaw 0 with role := 6, disposition := 2, thinN := 16 }) }
    ((entryAt (s 14) 0).map (fun e => (e.disposition, e.thinN))) = some (.thin, 16) ∧ 14 + 1 < 16 ∧ 16 ≤ 15 + 1 ∧
    ((s 15).streams.slots.get 0).state = .faulty ∧ (headerOf sampleFrame).seq = 200 ∧ (200 + 256 - 72) % 256 = 128 ∧
    (199 + 256 - 200) % 256 = 255 := by decide +kernel

/-- LOAD TURBINE on a turbine that is not present, and its parameters on both sides of their ranges (R22). -/
theorem test_witness_turbine_parameters :
    (ready.turbines.get 0).present = false ∧ (ready.turbines.get 0).cls = 0 ∧ (ready.turbines.get 0).rated = 0 ∧
    24 < 25 ∧ 2 ≤ 2 ∧ 3 < 4 ∧ 32767 < 32768 ∧ accepts ready dOrigin := by
  unfold accepts
  decide +kernel

/-- Parameters on both sides of their ranges: a slot without an entry and one with another role, a drop list whose second slot is out
of range, lists of none and of 17, and the codes of kinds and counters (R86, R130, R138, R163, R184). -/
theorem test_witness_parameter_ranges :
    entryAt ready 0 = none ∧ (entryAt (withPlain .live true) 0).map (fun e => e.role) = some .plain ∧
    [191, 192] = [191] ++ 192 :: [] ∧ (∀ x ∈ [191], x < 192) ∧ [191, 192].length ≤ 16 ∧ firstBadSlot 1 [191, 192] = some 2 ∧
    16 < (List.replicate 17 (0 : Nat)).length ∧ ([] : List Nat).length = 0 ∧ 12 < (List.replicate 13 (0 : Nat)).length ∧
    counterOf 5 = none ∧ kindOfCode 0 = none ∧ kindOfCode 38 = none ∧ kindOfCode 37 = some .started ∧ serviced.items.get 95 = none ∧
    firstBadClockField 65535 23 59 59 9 1 = none ∧
    [firstBadClockField 65536 24 0 0 0 0, firstBadClockField 65535 24 60 0 0 0, firstBadClockField 65535 23 60 60 0 0,
      firstBadClockField 65535 23 59 60 10 0, firstBadClockField 65535 23 59 59 10 2, firstBadClockField 65535 23 59 59 9 2] =
      [some 1, some 2, some 3, some 4, some 5, some 6] := by decide +kernel

theorem test_witness_turbines :
    (serviced.turbines.get 0).present = true ∧ (serviced.turbines.get 0).cls ≠ 3 ∧ (serviced.turbines.get 0).service = true ∧
    (ready.turbines.get 0).present = false ∧ (ready.turbines.get 0).service = false ∧ 0 ∉ serviced.harm.grid.requests ∧
    ({ serviced with turbines := upd serviced.turbines 0 (fun r => { r with service := false }) }.turbines.get 0).present = true :=
  by decide +kernel

/-- As `serviced`, the limit and blanking timers of turbine 1 counted out. -/
def timedOut (overrun : Bool) : State :=
  updTurbine serviced 0 (fun r => { r with limitTimer := some 0, blanking := some 0, overrun := overrun, limitHours := 72 })

/-- END SERVICE meets a TEST window, an automatic one, none, and a pending test; a limit of 72 and one above; a turbine not present
(R30, R32, R85). -/
theorem test_witness_ServiceBeginsAndEnds :
    let s (test : Bool) := updVib tracked 0 (fun r => { r with window := some (openedWindow test ⟨0, 0⟩ 4 []), testPending := !test })
    accepts (s true) dOrigin ∧ ((s true).turbines.get 0).service = true ∧ (0 : SlotId) ∈ vibSlots (s true) 0 ∧
    ((s true).vib.recs.get 0).map (fun r => (r.window.map (fun w => w.test), r.testPending)) = some (some true, false) ∧
    ((s false).vib.recs.get 0).map (fun r => (r.window.map (fun w => w.test), r.testPending)) = some (some false, true) ∧
    (tracked.vib.recs.get 0).map (fun r => r.window) = some none ∧ 72 < 73 ∧ (ready.turbines.get 0).present = false := by
  unfold accepts
  decide +kernel

/-- A running test ends ABANDONED and a pending one CANCELLED, both under SERVICE_ENDED (R32, R85). -/
theorem test_end_service_ends_tests :
    let s := updVib tracked 0 (fun r => { r with window := some (openedWindow true ⟨0, 0⟩ 4 []) })
    let p := updVib tracked 0 (fun r => { r with testPending := true })
    let after (x : State) : Option (Bool × Option (TestOutcome × Option AbandonCause)) :=
      ((endServiceOn x 0).vib.recs.get 0).map (fun r => (r.window.isNone && !r.testPending, r.lastTest))
    after s = some (true, some (.abandoned, some .serviceEnded)) ∧
    after p = some (true, some (.cancelled, some .serviceEnded)) := by decide +kernel

theorem test_witness_TurbineTimersExpire :
    ((timedOut true).turbines.get 0).limitTimer = some 0 ∧ ((timedOut true).turbines.get 0).overrun = true ∧
    ((timedOut false).turbines.get 0).overrun = false ∧ ((timedOut false).turbines.get 0).blanking = some 0 := by
  decide +kernel

theorem test_witness_StartsAreCounted :
    (ready.turbines.get 0).oper ≠ .generating ∧ (ready.turbines.get 0).oper ≠ .faulted ∧
    (ready.usage.get 0).main.starts < 4294967295 ∧
    ((updTurbine ready 0 (fun r => { r with oper := .faulted })).turbines.get 0).oper = .faulted := by decide +kernel

theorem test_witness_speeds :
    (tracked.speeds.get 0).stopTimer = some 0 ∧ (tracked.speeds.get 0).state = .tracking ∧ tracked.standing = .active ∧
    (0 : SlotId) ∈ vibSlots tracked 0 := by decide +kernel

/-- As `tracked`, the speed record of turbine 1 in a state, with a good run and consecutive slips. -/
def judged (st : SpeedState) (run slips : Nat) : State :=
  { tracked with speeds := upd tracked.speeds 0 (fun r =>
      { r with state := st, goodRun := run, consecSlips := slips, speed := some 15000, reference := some ⟨0, 0⟩ }) }

/-- Each speed state in which a revolution is judged, the eighth good one, the third slip, a step and none (R44 to R50). -/
theorem test_witness_RevolutionsAreJudged :
    ([SpeedState.acquiring, .tracking, .unreliable, .stopped, .noSignal].all (fun st =>
      decide (((judged st 0 0).speeds.get 0).state = st))) = true ∧
    ((judged .unreliable 6 0).speeds.get 0).goodRun + 1 < 8 ∧ 8 ≤ ((judged .unreliable 7 0).speeds.get 0).goodRun + 1 ∧
    ((judged .tracking 0 1).speeds.get 0).consecSlips + 1 < 3 ∧ 3 ≤ ((judged .tracking 0 2).speeds.get 0).consecSlips + 1 ∧
    isStep Settings.reset.tolerance 15000 (speedBetween ⟨20, 0⟩ ⟨0, 0⟩) = true ∧
    isStep Settings.reset.tolerance 15000 (speedBetween ⟨40, 0⟩ ⟨0, 0⟩) = false ∧
    1 ≤ usDiff ⟨0, 16⟩ ⟨0, 0⟩ ∧ usDiff ⟨4294967, 295 * 16⟩ ⟨0, 0⟩ ≤ 4294967295 ∧
    (ready.speeds.get 0).reference = none ∧ ((judged .stopped 0 0).speeds.get 0).reference = some ⟨0, 0⟩ ∧
    (Usage.reset).revSub + 1 ≠ 1000 ∧ ({ Usage.reset with revSub := 999 }).revSub + 1 = 1000 := by decide +kernel

/-- A TACH entry of turbine 1 with one pulse, spacing 2 µs, a marker or none. -/
def tachEntry (marker : Bool) (edges : Nat) : StreamEntry :=
  entryOf { vibRaw 0 with kind := 2, role := 1, pulses := 1, edges := edges, markerPresent := if marker then 1 else 0, spacing := 2 }

/-- As `judged`, with a last counted edge and a last marker at 40 ms and a count of edges. -/
def edged (st : SpeedState) (edges slips : Nat) (reference : Option Time) : State :=
  let s := judged st 0 slips
  { s with speeds := upd s.speeds 0 (fun r =>
      { r with lastCounted := some ⟨40, 0⟩, lastMarker := some ⟨40, 0⟩, edges := edges, reference := reference }) }

/-- Edge records and times: each sort of record, a time at, before and after the last, a spacing at the minimum and below it, the
count at the expected one and at twice it, and a missing marker in each state (R38 to R42, R48). -/
theorem test_witness_edges :
    let rise : EdgeRec := { offset := 0, polarity := .rising, marker := false }
    let e := tachEntry true 0
    let s := edged .tracking 1 2 (some ⟨0, 0⟩)
    (e.role = .tach ∧ e.source = tnum 0 ∧ e.edges = .rising ∧ e.markerPresent = true ∧ e.markerPolarity = .rising ∧ e.pulses = 1 ∧
      (tachEntry true 2).edges = .both ∧ (tachEntry false 1).edges = .falling ∧ (tachEntry false 1).markerPresent = false) ∧
    (rise.polarity = .rising ∧ ({ rise with marker := true }).marker = true ∧ ({ rise with polarity := .falling }).polarity ≠ .rising) ∧
    (s.speeds.get 0).lastCounted = some ⟨40, 0⟩ ∧ (s.speeds.get 0).lastMarker = some ⟨40, 0⟩ ∧
    timeDiff ⟨40, 0⟩ ⟨40, 0⟩ ≤ 0 ∧ timeDiff ⟨39, 0⟩ ⟨40, 0⟩ ≤ 0 ∧ 0 < timeDiff ⟨40, 16⟩ ⟨40, 0⟩ ∧
    timeDiff ⟨40, 16⟩ ⟨40, 0⟩ < (e.spacing : Int) * 16 ∧ (e.spacing : Int) * 16 ≤ timeDiff ⟨40, 32⟩ ⟨40, 0⟩ ∧
    (s.speeds.get 0).edges + 1 = 2 * e.pulses ∧ (s.speeds.get 0).edges + 1 ≠ e.pulses ∧ (s.speeds.get 0).reference ≠ none ∧
    ((edged .tracking 0 0 (some ⟨0, 0⟩)).speeds.get 0).edges + 1 = e.pulses ∧
    ((edged .acquiring 0 0 none).speeds.get 0).reference = none ∧ 3 ≤ (s.speeds.get 0).consecSlips + 1 ∧
    ((edged .tracking 1 1 none).speeds.get 0).consecSlips + 1 < 3 ∧
    ([SpeedState.acquiring, .tracking, .unreliable, .stopped, .noSignal].all (fun st =>
      decide (((edged st 1 0 none).speeds.get 0).state = st))) = true := by decide +kernel

/-- What a counted edge at 41 ms does: a reject where it is too close, a boundary where the count is reached, a missing marker, and a
record out of STOPPED (R39 to R42, R50). -/
theorem test_edges_act :
    let after (s : State) (e : StreamEntry) (b : Time) := (takeCounted s 0 e b).speeds.get 0
    (after (edged .tracking 0 0 (some ⟨0, 0⟩)) (tachEntry true 0) ⟨40, 16⟩).spacingRejects = 1 ∧
    (after (edged .tracking 0 0 (some ⟨0, 0⟩)) (tachEntry true 0) ⟨40, 0⟩).disorderRejects = 1 ∧
    (after (edged .tracking 0 0 (some ⟨0, 0⟩)) (tachEntry false 0) ⟨41, 0⟩).reference = some ⟨41, 0⟩ ∧
    (after (edged .tracking 1 2 (some ⟨0, 0⟩)) (tachEntry true 0) ⟨41, 0⟩).state = .unreliable ∧
    (after (edged .stopped 0 0 none) (tachEntry true 0) ⟨41, 0⟩).state = .acquiring := by decide +kernel

/-- A test waiting on a slot and none (R85). -/
theorem test_witness_pending_test :
    ((updVib tracked 0 (fun r => { r with testPending := true })).vib.recs.get 0).map (fun r => r.testPending) = some true ∧
    (tracked.vib.recs.get 0).map (fun r => r.testPending) = some false := by decide +kernel

theorem test_witness_ResultsAreDeliveredOrDiscarded :
    let s := { tracked with engine := { tracked.engine with analysing := some (.vib vibRecord), vibQueue := [vibRecord] } }
    s.standing = .active ∧ s.engine.analysing = some (.vib vibRecord) ∧ vibIdentity s vibRecord = true ∧
    vibIdentity s { vibRecord with gen := 1 } = false ∧ vibIdentity s { vibRecord with inst := 0 } = false ∧
    vibIdentity ready vibRecord = false ∧ s.vib.recs.get vibRecord.slot = some (newVibRec .reset) ∧
    entryAt s vibRecord.slot = some (entryOf (vibRaw 0)) := by decide +kernel

/-- A test's record in analysis, its slot and entry as for the automatic one (R85). -/
theorem test_witness_test_record :
    let r := { vibRecord with test := true }
    let s := { tracked with engine := { tracked.engine with analysing := some (.vib r) } }
    s.standing = .active ∧ s.engine.analysing = some (.vib r) ∧ vibIdentity s r = true ∧ r.test = true ∧
    s.vib.recs.get r.slot = some (newVibRec .reset) ∧ entryAt s r.slot = some (entryOf (vibRaw 0)) := by decide +kernel

/-- A harmonic record of slot 0: a square wave of one cycle at 50 Hz, or silence. -/
def harmRecord (square : Bool) : HarmRecord :=
  { slot := 0, inst := 1, secondaries := [], gen := 0, opening := ⟨5000, 0⟩, closing := ⟨5020, 0⟩, meanFund := 50000,
    rate := .r1600,
    samples := if square then timed 5000 .r1600 (List.replicate 16 1000 ++ List.replicate 16 (-1000)) else [] }

/-- As `serviced`, with a limit of 3 per cent on order 3, the grid in a state, and a harmonic record in analysis. -/
def gridAnalysing (g : GridState) (square : Bool) : State :=
  let s := withPlain .live true
  { s with
    active := { s.active with limits := { s.active.limits with orders := put s.active.limits.orders 1 ⟨300, 300⟩ } },
    harm := { s.harm with grid := { s.harm.grid with state := g, armed := true, exceedRun := 1, requests := [1] } },
    engine := { s.engine with analysing := some (.harm (harmRecord square)) } }

theorem test_witness_harmonic_results :
    harmIdentity (gridAnalysing .normal true) (harmRecord true) = true ∧ harmIdentity ready (harmRecord true) = false ∧
    verdictOf (gridAnalysing .normal true).active.limits [primaryMags (gridAnalysing .normal true) (harmRecord true)] =
      .exceeding ∧
    verdictOf (gridAnalysing .normal true).active.limits [primaryMags (gridAnalysing .normal true) (harmRecord false)] =
      .clean ∧
    (windowRatios (gridAnalysing .normal true).active.limits
      [primaryMags (gridAnalysing .normal true) (harmRecord true)]).map (fun p => p.1) = [3] ∧
    Settings.reset.gridPersist = 3 ∧ Settings.reset.escalation = 50 ∧ Settings.reset.response = .following := by decide +kernel

/-- The grid state, exceed run and requests after the result of a harmonic record. -/
def afterResult (g : GridState) (square : Bool) : Option (GridState × Nat × List Tid) :=
  match exec .analysisComplete (gridAnalysing g square) with
  | .next t => some (t.harm.grid.state, t.harm.grid.exceedRun, t.harm.grid.requests)
  | _ => none

theorem test_grid_moves :
    afterResult .normal true = some (.exceeding, 2, [1]) ∧ afterResult .normal false = some (.normal, 0, [1]) ∧
    afterResult .exceeding false = some (.normal, 0, [1]) ∧ afterResult .condition true = some (.condition, 2, [1]) ∧
    afterResult .condition false = some (.normal, 0, []) := by decide +kernel

/-- Magnitudes of a feeder stream of voltage on phase A, or of a converter of turbine 1: the fundamental squared, and orders 2 and
3, over a common denominator. -/
def magsOf (role : Role) (t : Option Tid) (fund a b : Nat) : StreamMags :=
  { role := role, phase := .a, turbine := t, scale := 0, den := 4, nums := [some fund, some a, some b] ++ List.replicate 37 none }

/-- Limits of 100 per cent on THD and the orders 2 and 3. -/
def wideLimits : Limits :=
  { thd := ⟨10000, 10000⟩, orders := put (put (Vector.replicate 39 ⟨0, 0⟩) 0 ⟨10000, 10000⟩) 1 ⟨10000, 10000⟩ }

/-- Verdicts and ratios: an order at its limit and just above it, THD alone above, a ratio at 1,000 and at the top, no ratio without
a limit or a fundamental, and the lower of two equal orders (R97). -/
theorem test_witness_verdicts :
    let one (f a b : Nat) := [magsOf .gridV none f a b]
    verdictOf wideLimits (one 100 100 0) = .clean ∧ verdictOf wideLimits (one 100 101 0) = .exceeding ∧
    verdictOf wideLimits (one 100 60 60) = .exceeding ∧ verdictOf wideLimits (one 0 60 60) = .clean ∧
    verdictOf { wideLimits with thd := ⟨0, 0⟩ } (one 100 60 60) = .clean ∧
    ratioOf 1 1 10000 = 1000 ∧ ratioOf 4294836225 1000000 10000 = 65535 ∧ ratioOf 4294967297000 1000000 10000 = 65535 ∧
    ratioOf 4294836224 1000000 10000 < 65535 ∧
    (windowRatios wideLimits (one 100 25 26)).map (fun p => (p.1, p.2.ratio, p.2.half)) = [(2, 500, false), (3, 509, true)] ∧
    windowRatios wideLimits (one 0 25 26) = [] ∧
    (worstOrder (windowRatios wideLimits (one 100 26 26))).map (fun p => p.1) = some 2 ∧ worstOrder [] = none ∧
    (thdOf wideLimits (one 100 26 26) .gridV).isSome = true ∧ thdOf wideLimits (one 100 26 26) .gridI = none := by decide +kernel

/-- Contributors: the larger current first, an equal one by turbine, a turbine that is not present left out, a current at the half
rounded up; fundamentals and h; and an order at 0.45 times the sample rate (R61, R90, R98, R99). -/
theorem test_witness_contributors :
    let s := updTurbine (updTurbine serviced 1 (fun r => { r with present := true })) 2 (fun r => { r with present := true })
    let ms := [magsOf .gridV none 64 1 0, magsOf .convI (some 2) 64 16 0, magsOf .convI (some 1) 64 16 0, magsOf .convI (some 0) 64 36 0,
      magsOf .convI (some 5) 64 100 0]
    (contributorsOf s ms (some 2)).map (fun p => (p.turbine, p.current)) = [(0, 3), (1, 2), (2, 2)] ∧
    contributorsOf s ms none = [] ∧ (s.turbines.get 5).present = false ∧
    scaledMag (magsOf .gridV none 64 1 0) 1 = 1 ∧ scaledMag (magsOf .gridV none 64 1 0) 0 = 0 ∧
    (feederFundamentals ms).toList = [some 4, none, none, none, none, none] ∧
    hysteresisOf (magsOf .gridV none 20000 0 0) = 2 ∧ hysteresisOf (magsOf .gridV none 19999 0 0) = 1 ∧
    orderPresent 50000 1600 14 = true ∧ orderPresent 90000 1600 8 = false := by decide +kernel

/-- Summaries: no postscale, a count below it, and a window that reaches it with an order above half its limit (R108). -/
theorem test_witness_summaries :
    let rs := windowRatios wideLimits [magsOf .gridV none 100 25 26]
    let s (n k : Nat) : State := { ready with
      active := { ready.active with settings := { ready.active.settings with gridPostscale := n } }, harm := { ready.harm with summary := k } }
    (s 0 0).active.settings.gridPostscale = 0 ∧ (s 16 14).harm.summary + 1 < 16 ∧ 16 ≤ (s 16 15).harm.summary + 1 ∧
    (gridSummaryStep (s 16 14) rs).harm.summary = 15 ∧ (gridSummaryStep (s 16 15) rs).harm.summary = 0 ∧
    (rs.filter (fun p => p.2.half)).map (fun p => p.1) = [3] := by decide +kernel

theorem test_witness_engine_choice :
    let s := { tracked with engine := { tracked.engine with vibQueue := [vibRecord], harmQueue := [harmRecord false], harmRun := 3 } }
    s.engine.analysing = none ∧ s.engine.harmQueue = [harmRecord false] ∧ 3 ≤ s.engine.harmRun ∧ vibIdentity s vibRecord = true ∧
    harmIdentity s (harmRecord false) = true ∧ ({ s.engine with harmRun := 2 }).harmRun < 3 := by decide +kernel

/-- Heads that fail the start check, in an engine that chooses them: a harmonic record of an old generation, a vibration test of an
old generation, and a vibration record of another instance (R57, R58). -/
theorem test_witness_start_check_fails :
    let s (run : Nat) (v : VibRecord) : State := { tracked with engine := { tracked.engine with
      vibQueue := [v], harmQueue := [{ harmRecord true with gen := 1 }], harmRun := run } }
    ∀ v ∈ [{ vibRecord with gen := 1, test := true }, { vibRecord with inst := 0 }],
      (s 3 v).engine.analysing = none ∧ (s 3 v).engine.vibQueue.length ≤ 8 ∧ (s 3 v).engine.harmQueue.length ≤ 4 ∧
      (s 2 v).engine.harmRun < 3 ∧ harmIdentity (s 2 v) { harmRecord true with gen := 1 } = false ∧
      3 ≤ (s 3 v).engine.harmRun ∧ vibIdentity (s 3 v) v = false ∧
      (((s 3 v).streams.slots.get v.slot).inst = v.inst ↔ v.test = true) := by decide +kernel

/-- A band set of two bands in report mode LEVEL, postscale 2. -/
def levelSet : BandSet :=
  { BandSet.reset with
    bands := [⟨.fixed, 1, 10, 800, 1600, false⟩, ⟨.fixed, 1, 800, 1, 2, false⟩], persistence := 1, report := .level, postscale := 2 }

/-- A band that rises twice in one window raises two VIB_GRADE and then VIB_LEVEL, one that becomes GOOD none, one that falls to GOOD
a VIB_GRADE, and a beyond-range band none (R77 to R79, R82). -/
theorem test_band_findings :
    let kinds (l : Nat) (g : Grade) :=
      (judgeBand levelSet .clear 600 1600 ⟨.fixed, 1, 10, 800, 1600, false⟩ l { BandState.fresh with grade := g }).2.map
        (fun f => (f.1, f.2.take 2))
    kinds 1601 .unknown = [(.vibGrade, [1, 2]), (.vibGrade, [2, 3]), (.vibLevel, [3, 1601])] ∧ kinds 800 .unknown = [] ∧
    kinds 699 .alert = [(.vibGrade, [2, 1])] ∧ kinds 801 .good = [(.vibGrade, [1, 2]), (.vibLevel, [2, 801])] ∧
    (judgeBand levelSet .clear 600 1600 ⟨.fixed, 1, 800, 1, 2, false⟩ 9 .fresh).2 = [] ∧
    beyondRange ⟨.fixed, 1, 10, 800, 1600, false⟩ 600 1600 = false := by decide +kernel

/-- The series counts: a skip above 0, a postscale count below N and at it, and N = 0 (R83). -/
theorem test_witness_series :
    let s (skip post : Nat) := updVib tracked 0 (fun r => { r with skip := skip, post := post })
    levelSet.postscale ≠ 0 ∧ BandSet.reset.postscale = 0 ∧
    ((s 1 0).vib.recs.get 0).map (fun r => (r.skip, r.post)) = some (1, 0) ∧
    (((summaryStep (s 1 0) 0 levelSet).vib.recs.get 0).map (fun r => (r.skip, r.post))) = some (0, 0) ∧
    (((summaryStep (s 0 0) 0 levelSet).vib.recs.get 0).map (fun r => (r.skip, r.post))) = some (0, 1) ∧
    (((summaryStep (s 0 1) 0 levelSet).vib.recs.get 0).map (fun r => (r.skip, r.post))) = some (0, 0) ∧
    (summaryStep (s 0 1) 0 levelSet).portD.localQ.length = 1 := by decide +kernel

theorem test_witness_BandGradesMoveByTheRules :
    let b : Band := ⟨.order, 1, 2, 800, 1600, true⟩
    (800 ≤ b.alert ∧ b.alert < b.alarm ∧ b.alarm < 1601 ∧ b.iceSensitive = true) ∧
    beyondRange ⟨.fixed, 1, 800, 1, 2, false⟩ 600 1600 = true ∧ beyondRange ⟨.fixed, 1, 799, 1, 2, false⟩ 600 1600 = false := by
  decide

/-- Levels: a record with samples over a positive span, a band of each kind in range, and one beyond it (R76, R77). -/
theorem test_witness_levels :
    0 < spanUs fourSamples.opening fourSamples.closing ∧ fourSamples.samples ≠ [] ∧
    beyondRange ⟨.fixed, 1, 799, 1, 2, false⟩ fourSamples.meanSpeed 1600 = false ∧
    beyondRange ⟨.order, 100, 7999, 1, 2, false⟩ fourSamples.meanSpeed 1600 = false ∧
    beyondRange ⟨.order, 100, 8000, 1, 2, false⟩ fourSamples.meanSpeed 1600 = true ∧
    bandLines ⟨.fixed, 1, 799, 1, 2, false⟩ 600 1600 2500 = [1] := by decide +kernel

/-- As `tracked`, the classes of the Analysis Queue with `v` and `h` records, the engine analysing. -/
def queued (v h : Nat) : State :=
  { tracked with engine := { tracked.engine with
      analysing := some (.vib vibRecord), vibQueue := List.replicate v vibRecord, harmQueue := List.replicate h (harmRecord false) } }

/-- Classes with a place free and full, a record of the slot's instance and of another, a test and none (R54, R55, R75). -/
theorem test_witness_queueing :
    (queued 7 3).engine.vibQueue.length < 8 ∧ 8 ≤ (queued 8 4).engine.vibQueue.length ∧ (queued 7 3).engine.harmQueue.length < 4 ∧
    4 ≤ (queued 8 4).engine.harmQueue.length ∧ ((queued 8 4).streams.slots.get vibRecord.slot).inst = vibRecord.inst ∧
    ((queued 8 4).streams.slots.get vibRecord.slot).inst ≠ ({ vibRecord with inst := 0 }).inst ∧
    ({ vibRecord with test := true }).test = true ∧ vibRecord.test = false := by decide +kernel

/-- A full class discards a test's record at entry: overrun counted, the outcome DISCARDED, both findings raised; a class with a place
takes it (R55, R75, R85). -/
theorem test_overrun_at_entry :
    let r := { vibRecord with test := true }
    let t := queueVib (queued 8 4) r
    t.engine.vibQueue.length = 8 ∧ t.engine.vibCounts.overrun = 1 ∧ t.portD.localQ.length = 2 ∧
    (t.vib.recs.get 0).map (fun x => (x.discarded, x.lastTest)) = some (1, some (.discarded, none)) ∧
    (queueVib (queued 7 4) r).engine.vibQueue.length = 8 ∧ (queueHarm (queued 8 4) (harmRecord false)).harm.discarded = 1 ∧
    (queueHarm (queued 8 3) (harmRecord false)).engine.harmQueue.length = 4 := by decide +kernel

/-- TRIGGER WINDOW on a slot that holds nothing, and on one with a TEST window or a pending test (R84). -/
theorem test_witness_trigger_slots :
    entryAt tracked 1 = none ∧ testWaiting tracked 0 = false ∧
    testWaiting (updVib tracked 0 (fun r => { r with testPending := true })) 0 = true ∧
    testWaiting (updVib tracked 0 (fun r => { r with window := some (openedWindow true ⟨0, 0⟩ 4 []) })) 0 = true := by
  decide +kernel

theorem test_witness_TriggeredAndAutomaticWindows :
    entryAt tracked 0 = some (entryOf (vibRaw 0)) ∧ tracked.vib.recs.get 0 = some (newVibRec .reset) ∧
    testWaiting tracked 0 = false ∧
    testWaiting (updVib tracked 0 (fun r => { r with testPending := true })) 0 = true ∧
    ((withVib .live).speeds.get 0).state ≠ .tracking ∧ ((withVib .held).streams.slots.get 0).state ≠ .live := by decide +kernel

/-- As `tracked`, with one band in every active set, turbine 1 GENERATING or not, and a record of the stream in slot 0. -/
def windowed (generating : Bool) (r : VibRec) : State :=
  let s := updTurbine tracked 0 (fun x => { x with service := false, oper := if generating then .generating else .parked })
  let set := { BandSet.reset with bands := [⟨.fixed, 1, 799, 1, 2, false⟩], revolutions := 2 }
  setVib { s with active := { s.active with bands := Vector.replicate 32 set } } 0 (some r)

/-- A window of slot 0 with one sample, open or closing. -/
def oneSample (test : Bool) (revs : Nat) (closing : Option Time) : VibWindow :=
  { test := test, opening := ⟨5, 0⟩, closing := closing, revs := revs, target := 2, rate := some .r1600,
    samples := [⟨⟨9, 0⟩, 3⟩] }

/-- Windows: what lets one open and what does not, a count below and at the target with and without a late sample, DATA
before and after the closing boundary and at both sides of the limit, and a span above 0 (R70 to R74). -/
theorem test_witness_windows :
    let r := newVibRec .reset
    let s := windowed true r
    (s.vib.recs.get 0 = some r ∧ entryAt s 0 = some (entryOf (vibRaw 0)) ∧ r.window = none ∧
      (s.streams.slots.get 0).state = .live ∧ (setOf s (entryOf (vibRaw 0))).bands ≠ [] ∧ s.cmd = .ready) ∧
    automaticAllowed (s.turbines.get 0) = true ∧ automaticAllowed ((windowed false r).turbines.get 0) = false ∧
    r.testPending = false ∧ ({ r with testPending := true }).testPending = true ∧ (setOf tracked (entryOf (vibRaw 0))).bands = [] ∧
    (oneSample false 0 none).revs + 1 < 2 ∧ 2 ≤ (oneSample false 1 none).revs + 1 ∧
    timeDiff (stampTime 9) ⟨10, 0⟩ < 0 ∧ 0 ≤ timeDiff (stampTime 9) ⟨9, 0⟩ ∧ (oneSample false 1 (some ⟨9, 0⟩)).closing ≠ none ∧
    (oneSample true 1 none).test = true ∧ ¬ (16384 < 1 + 16383) ∧ 16384 < 1 + 16384 ∧ RateCode.r3200 ≠ .r1600 ∧
    0 < usDiff ⟨0, 16⟩ ⟨0, 0⟩ := by decide +kernel

/-- An opening boundary opens an automatic window with its later samples, and a test window out of GENERATING (R70, R85). -/
theorem test_windows_open :
    let r := { newVibRec .reset with recent := [⟨5, .r1600, [1, 2]⟩] }
    let opened (s : State) : Option (Bool × List Int) :=
      (windowAt (openingCheck 0 ⟨5, 16⟩ s 0) 0).map (fun w => (w.test, w.samples.map (fun x => x.value)))
    opened (windowed true r) = some (false, [2]) ∧ opened (windowed false r) = none ∧
    opened (windowed false { r with testPending := true }) = some (true, [2]) := by decide +kernel

/-- As `ready`, with a grid state and a last verdict. -/
def gridIn (g : GridState) (v : Option Verdict) : State :=
  { ready with harm := { ready.harm with grid := { ready.harm.grid with state := g, verdict := v, requests := [0] } } }

/-- A collecting store that a sample fills to 16,384 keeps them all; with one more held, the first that arrived is pushed out (R89;
entry 57). -/
theorem test_full_store (a : Sample) (held : List Sample) (x : Int) (h : held.length = 16383) :
    let new := timed 5 .r1600 [x]
    (collectWith { rate := some .r1600, samples := held } .r1600 new).samples = held ++ new ∧
    (collectWith { rate := some .r1600, samples := a :: held } .r1600 new).samples = held ++ new ∧
    (collectWith { rate := some .r1600, samples := a :: held } .r3200 new).samples = new := by
  have h2 : (timed 5 .r1600 [x]).length = 1 := rfl
  refine ⟨?_, ?_, ?_⟩ <;> simp only [collectWith, if_true, reduceCtorEq, Option.some.injEq, if_false, List.length_append,
    List.length_cons, h, h2, collectCap]
  · rfl
  · rfl
  · rfl

/-- A stream, not the reference, whose store holds `n` samples, 16,383 or 16,384 among them (R89). -/
theorem test_witness_full_store (n : Nat) :
    let c : Collect := { rate := some .r1600, samples := List.replicate n ⟨⟨0, 0⟩, 1⟩ }
    let s : State := { ready with harm := { ready.harm with collect := put ready.harm.collect 1 (some c) } }
    s.harm.collect.get 1 = some c ∧ c.samples.length = n ∧ (entryOf { vibRaw 1 with role := 4 }).role = .convI := by
  exact ⟨(get_put _ _ _ _).trans (if_pos rfl), List.length_replicate, by decide⟩

theorem test_witness_GridWindowsAndClearGrid :
    accepts (gridIn .condition (some .clean)) dOrigin ∧ (gridIn .condition (some .clean)).harm.grid.verdict = some .clean ∧
    accepts (gridIn .condition none) dOrigin ∧ (gridIn .condition (some .exceeding)).harm.grid.verdict ≠ some .clean ∧
    (gridIn .exceeding none).harm.grid.state ≠ .condition := by
  unfold accepts
  decide +kernel

/-- A GRID_V entry of phase A, the reference. -/
def referenceEntry : StreamEntry := entryOf { vibRaw 0 with role := 2, source := 0 }

/-- As `ready`, the former in a state and the detector with a preceding sample of −3, armed or not. -/
def detecting (f : Former) (armed : Bool) : State :=
  { ready with harm := { ready.harm with former := f, detector := ⟨armed, some ⟨⟨5, 0⟩, -3⟩, some .r1600, 2⟩ } }

/-- A harmonic window of `target` cycles at 50 Hz with one counted. -/
def harmWindow (target : Nat) : HarmWindow := ⟨⟨0, 0⟩, target, 50, 1, .r1600, []⟩

/-- Crossings and feeder windows: a crossing and none in each state of the former, a cycle below and at the target, a span on
each side of its limit, a mean fundamental on each side of 5 per cent, and a store that covers a window (R90 to R93). -/
theorem test_witness_harmonic_windows :
    let x : Sample := ⟨⟨5, 10000⟩, 1⟩
    (crossingAt (detecting .waiting true).harm.detector x).isSome = true ∧
    crossingAt (detecting .waiting false).harm.detector x = none ∧ (-3 : Int) < 0 ∧ (0 : Int) ≤ 1 ∧
    crossingTime .r1600 ⟨⟨5, 0⟩, -3⟩ x = ⟨5, 7488⟩ ∧
    (harmWindow 3).cycles + 1 < 3 ∧ 2 ≤ (harmWindow 2).cycles + 1 ∧
    spanPassed (harmWindow 10) ⟨⟨210, 526 * 16⟩, 0⟩ = false ∧ spanPassed (harmWindow 10) ⟨⟨210, 527 * 16⟩, 0⟩ = true ∧
    frequencyKept (harmWindow 10) 200000 = true ∧ frequencyKept (harmWindow 10) 190476 = true ∧ frequencyKept (harmWindow 10) 190400 = false ∧
    frequencyKept (harmWindow 10) 0 = false ∧
    covers ⟨some .r1600, timed 0 .r1600 (List.replicate 29 1)⟩ 20000 ⟨0, 0⟩ ⟨20, 0⟩ = true ∧
    covers ⟨some .r1600, timed 0 .r1600 (List.replicate 28 1)⟩ 20000 ⟨0, 0⟩ ⟨20, 0⟩ = false ∧
    referenceEntry.role = .gridV ∧ referenceEntry.phase = .a ∧ (entryOf (vibRaw 0)).role ≠ .gridV ∧
    (harmWindow 10).rate ≠ .r3200 := by decide +kernel

/-- A crossing opens a window in WAITING, and counts a cycle of an open one (R91). -/
theorem test_crossings_act :
    let x : Sample := ⟨⟨5, 10000⟩, 1⟩
    let after (f : Former) : Former := (refSample 0 .r1600 (detecting f true) x).harm.former
    after .waiting = .opened ⟨⟨5, 7488⟩, Settings.reset.cycles, Settings.reset.nominal, 0, .r1600, [x]⟩ ∧
    after (.opened (harmWindow 3)) = .opened { harmWindow 3 with cycles := 2, samples := [x] } ∧
    after .suspended = .suspended := by decide +kernel

theorem test_witness_ice :
    let s := { serviced with ice := upd serviced.ice 0 (fun r => { r with state := .iced, thawDue := true }) }
    accepts s dOrigin ∧ (s.ice.get 0).thawDue = true ∧ (s.ice.get 0).state = .iced ∧ (s.ice.get 1).state = .clear ∧
    (s.turbines.get 1).present = false := by
  unfold accepts
  decide +kernel

/-- As `ready`, turbine 1 present, GENERATING and of class 1, with a curve of 1,450 kW, its ice record in a state. -/
def reporting (r : IceRec) : State :=
  let s := updTurbine ready 0 (fun x => { x with present := true, cls := 1, rated := 2000, oper := .generating })
  { s with
    active := { s.active with curves := Vector.replicate 4 (Vector.replicate 25 1450) },
    ice := put s.ice 0 r }

/-- Reports: one that qualifies, one that the gate or the bins shut out, one of an unused bin, a block before its end and at it;
block ends at each evidence and trial; and a hold that begins (R115 to R124). -/
theorem test_witness_ReportsAreMeasuredAndJudged :
    let p : Report := ⟨.generating, 1020, 75, -20⟩
    let s := reporting IceRec.reset
    qualifies s 0 p = some 296 ∧ qualifies s 0 { p with temp := 400 } = none ∧
    qualifies s 0 { p with wind := 24 } = none ∧ qualifies s 0 { p with wind := 275 } = none ∧
    qualifies ready 0 p = none ∧ (p.wind + 5) / 10 = 8 ∧ ((24 + 5) / 10 < 3) ∧ 27 < (275 + 5) / 10 ∧
    (ready.active.curves.get 1).get 5 = 0 ∧ (s.turbines.get 0).cls = 1 ∧
    IceRec.reset.blockCount + 1 < Settings.reset.blockSize ∧
    Settings.reset.blockSize ≤ ({ IceRec.reset with blockCount := Settings.reset.blockSize - 1 }).blockCount + 1 ∧
    1 ≤ Settings.reset.confirm ∧ evidenceAfter Settings.reset 1000 0 = 1 ∧ evidenceAfter Settings.reset 0 1 = 0 ∧
    evidenceAfter Settings.reset 1000 Settings.reset.confirm = Settings.reset.confirm ∧ (1 : Nat) ≠ Settings.reset.confirm ∧
    Settings.reset.onDeficit * 10 ≤ 1000 ∧ ¬ (Settings.reset.onDeficit * 10 ≤ 0) ∧
    Settings.reset.trialBlocks ≤ (Settings.reset.trialBlocks - 1) + 1 ∧ 0 + 1 < Settings.reset.trialBlocks ∧
    ({ Settings.reset with holdOnIce := true }).holdOnIce = true := by decide +kernel

/-- One block of full deficit takes a turbine with K = 1 from CLEAR through SUSPECT to ICED, with both findings (R120). -/
theorem test_one_block_ices :
    let st := { Settings.reset with confirm := 1 }
    (blockEnd st 1000 IceRec.reset).1.state = .iced ∧
    (blockEnd st 1000 IceRec.reset).2.map (fun f => f.1) = [.iceSuspect, .iceConfirmed] ∧
    (blockEnd Settings.reset 1000 { IceRec.reset with state := .thawing }).1.state = .iced ∧
    (blockEnd Settings.reset 0 { IceRec.reset with state := .thawing, trial := Settings.reset.trialBlocks - 1 }).1.state = .clear := by
  decide +kernel

/-- Reports and operating states: a stream of a turbine, a plausible power and one that is not, each pair of states that a clause
of the change of state takes, and a block with a report and one without (R25 to R29, R118). -/
theorem test_witness_operating_states :
    let e := entryOf { vibRaw 0 with kind := 3, role := 5 }
    let held (k : Nat) := reporting { IceRec.reset with blockCount := k }
    (e.role = .opstat ∧ e.source = tnum 0) ∧ plausible 2000 2500 = true ∧ plausible 2000 2501 = false ∧
    ((held 0).turbines.get 0).oper = .generating ∧ (ready.turbines.get 0).oper = .unknown ∧
    ((updTurbine ready 0 (fun r => { r with oper := .faulted })).turbines.get 0).oper = .faulted ∧
    0 < ((held 1).ice.get 0).blockCount ∧ ¬ 0 < ((held 0).ice.get 0).blockCount ∧
    (setOper ready 0 .parked).turbines.get 0 = { ready.turbines.get 0 with oper := .parked } := by decide +kernel

theorem test_witness_TickMovesEveryCount : ready.standing = .active ∧ nothingDue ready ∧ commitWaits ready ∧
    State.reset.standing = .restoring := by
  refine ⟨rfl, ⟨rfl, rfl, by decide +kernel, ?_, ?_, ?_, by decide +kernel⟩, test_witness_commitWaits, rfl⟩
  · intro i
    simp [ready, State.powerOn, Slot.reset]
  · intro t
    simp [ready, State.powerOn, TurbineRec.reset, SpeedRec.reset, IceRec.reset, AdviceUnit.reset, Usage.reset, TimeSub.reset]
  · intro p h
    cases h

/-- As `ready`, with a clock. -/
def clocked (c : Clock) : State := { ready with clock := c }

theorem test_witness_clocks :
    let c : Clock := ⟨.running, 65535, 23, 59, 59, 8, 0, 0, false, false, false⟩
    tenthsOfDay c < 863999 ∧ tenthsOfDay { c with tenth := 9 } = 863999 ∧ ({ c with day := 65534 } : Clock).day < 65535 ∧
    ({ c with tenth := 9, rolloverDue := true } : Clock).rolloverDue = true ∧
    accepts (clocked c) dOrigin ∧ (clocked c).clock.rolloverDue = false ∧ accepts (clocked { c with state := .held }) dOrigin ∧
    ready.clock.state = .unset ∧ (clocked { c with checkpointDue := true }).clock.checkpointDue = true := by
  unfold accepts
  decide +kernel

/-- A rollover waits at SET CLOCK and HOLD CLOCK, on the last day and before it (entry 8). -/
theorem test_witness_waiting_rollover :
    let c : Clock := ⟨.running, 65534, 23, 59, 59, 9, 0, 0, false, true, true⟩
    accepts (clocked { c with rolloverDue := true }) dOrigin ∧ ({ c with rolloverDue := true }).rolloverDue = true ∧
    c.state = .running ∧ c.day < 65535 ∧ ¬ ({ c with day := 65535 }).day < 65535 := by
  unfold accepts
  decide +kernel

theorem test_witness_CarryRaisesTheMainCounter :
    let s := { ready with usage := upd ready.usage 0 (fun u => { u with ice := { u.ice with due := 1 } }) }
    0 < (timeSub (s.usage.get 0) .ice).due ∧ mainAt s 0 (timeBasis .ice) < 4294967295 := by decide +kernel

theorem test_witness_SetCounterWrites :
    [0, 1, 2, 3, 4].map counterOf = [some .run, some .krev, some .starts, some .ice, some .curtailed] ∧
    counterOf 5 = none ∧ 4294967295 ≤ 4294967295 := by decide

theorem test_witness_LoadItemLoads :
    rawItem.wf = true ∧ firstBadItemParam 95 rawItem = none ∧ rawItem.turbine = tnum 0 ∧ basisOf rawItem.basis = some .run ∧
    (serviced.turbines.get 0).present = true := by decide +kernel

/-- Evaluations and rises: a state that changes and one that does not, a DAYS item under an UNSET clock, a rise that lowers the
due point, one that does not, one of a SPENT link, and a change to GOOD (R142, R145, R146). -/
theorem test_witness_evaluations :
    let l : Link := ⟨31, true, 30, .armed⟩
    itemStateAt runItem 0 = runItem.state ∧ itemStateAt runItem 450 ≠ runItem.state ∧ ready.clock.state = .unset ∧
    reachesLink l.alarm .alarm = true ∧ reachesLink l.alarm .alert = false ∧ reachesLink false .alert = true ∧
    reachesLink l.alarm .good = false ∧ min runItem.duePoint (min (0 + l.pullIn) 4294967295) ≠ runItem.duePoint ∧
    min runItem.duePoint (min (470 + l.pullIn) 4294967295) = runItem.duePoint ∧ ({ l with state := .spent }).state ≠ .armed ∧
    ({ runItem with link := some l }).link = some l := by decide +kernel

/-- As `serviced`, the clock in a state on day 100, an item of basis DAYS with a link of ALERT in slot 95, and the linked grade of
turbine 1 for set 31. -/
def onDay (clock : ClockState) (l : LinkState) (g : Grade) : State :=
  { serviced with
    clock := { serviced.clock with state := clock, day := 100 },
    items := put serviced.items 95 (some { runItem with basis := .days, link := some ⟨31, false, 30, l⟩ }),
    vib := { serviced.vib with linked := upd serviced.vib.linked 0 (fun x => put x 31 g) } }

/-- LOAD ITEM of basis DAYS under an UNSET clock, its ranges at both ends, and a day change's links (R142, R143, R146). -/
theorem test_witness_days_items :
    let days := { rawItem with basis := 5 }
    (days.wf = true ∧ firstBadItemParam 95 days = none ∧ basisOf days.basis = some .days ∧ days.current = 0 ∧
      ready.clock.state = .unset ∧ (ready.turbines.get 0).present = false ∧ (serviced.turbines.get 0).present = true ∧
      firstBadItemParam 0 { days with current := 1 } = none) ∧
    ([firstBadItemParam 96 rawItem, firstBadItemParam 0 { rawItem with turbine := 25 }, firstBadItemParam 0 { rawItem with turbine := 0 },
      firstBadItemParam 0 { rawItem with interval := 1000000001 }, firstBadItemParam 0 { rawItem with lead := 501 }].all
      (fun x => x.isSome)) = true ∧
    firstBadItemParam 0 { rawItem with interval := 1000000000, lead := 1000000000, margin := 1000000000 } = none ∧
    firstBadItemParam 0 { rawItem with linkPresent := 1, link := some ⟨31, 2, 1000000000⟩ } = none ∧
    ((onDay .running .owed .alert).items.get 95).map (fun it => it.link.map (fun l => l.state)) = some (some .owed) ∧
    (((onDay .running .owed .alert).vib.linked.get 0).get 31 = .alert ∧ ((onDay .running .owed .good).vib.linked.get 0).get 31 = .good) ∧
    min 500 (min ((onDay .running .owed .alert).clock.day + 30) 4294967295) ≠ 500 ∧
    min 130 (min ((onDay .running .owed .alert).clock.day + 30) 4294967295) = 130 ∧
    (onDay .running .owed .alert).items.get 0 = none := by decide +kernel

/-- A day change pulls an OWED item in where its grade stands, and arms the link where it does not (R146). -/
theorem test_day_change_settles :
    let after (g : Grade) := ((dayChangeItem (onDay .running .owed g) 95).items.get 95).map
      (fun it => (it.duePoint, it.link.map (fun l => l.state), it.state))
    after .alarm = some (130, some .spent, .coming) ∧ after .good = some (500, some .armed, .waiting) := by decide +kernel

theorem test_witness_SignOffRestartsTheInterval :
    let s := { serviced with items := put (put serviced.items 0 (some runItem)) 95 (some { runItem with basis := .days }) }
    accepts s dOrigin ∧ s.items.get 0 = some runItem ∧ (s.turbines.get runItem.turbine).service = true ∧
    runItem.basis ≠ .days ∧ s.clock.state = .unset ∧ s.items.get 95 = some { runItem with basis := .days } ∧
    s.items.get 1 = none := by
  unfold accepts
  decide +kernel

/-- As `ready`, with a store state and the interval timer counted out. -/
def storeIn (x : StoreState) : State := { ready with store := { ready.store with state := x, timer := some 0 } }

theorem test_witness_store :
    accepts (storeIn .absent) dOrigin ∧ accepts (storeIn .idle) dOrigin ∧ accepts (storeIn .faulted) dOrigin ∧
    accepts (storeIn (.writing 120 .header)) dOrigin ∧ (storeIn .idle).store.timer = some 0 ∧
    (storeIn (.writing 119 .header)).store.state = .writing 119 .header ∧
    (storeIn (.writing 120 .header)).store.pending = false := by
  unfold accepts
  decide +kernel

/-- The ends of a write: with and without a pending write, with the fault-raised flag set and not, the unit waiting on this write,
on the pending one, or on none (R152 to R154). -/
theorem test_witness_write_ends :
    let mid (pending raised : Bool) (cmd : UnitState) : State :=
      { storeIn (.writing 120 .header) with
        store := { (storeIn (.writing 120 .header)).store with pending := pending, faultRaised := raised }, cmd := cmd }
    ∀ p r : Bool, ∀ c ∈ [UnitState.save dOrigin true, .save dOrigin false, .ready],
      (mid p r c).standing = .active ∧ (mid p r c).store.state = .writing 120 .header ∧ (mid p r c).store.pending = p ∧
      (mid p r c).store.faultRaised = r ∧ (mid p r c).cmd = c := by decide +kernel

theorem test_witness_FindingsAreTaken :
    let f := findingOf ready .portUp none .none []
    let g := findingOf ready .adviceChanged none .none []
    maskOn { FindingUnit.reset with masks := put FindingUnit.reset.masks 32 false } f.kind = false ∧
    maskOn FindingUnit.reset f.kind = true ∧ coalescing f.kind = false ∧ severity f.kind = .notice ∧
    severity g.kind = .info ∧ (List.replicate 63 f).length < 64 ∧ 64 ≤ (List.replicate 64 f).length ∧
    coalescing .streamGap = true ∧ severity .gridCondition = .alarm ∧ severity .storeFault = .alert ∧
    severity .findingsLost = .notice ∧ 0 < ({ FindingUnit.reset with lost := 1 } : FindingUnit).lost ∧
    maskOn FindingUnit.reset .findingsLost = true := by decide +kernel

/-- A full queue of 64 records split at its oldest INFO or NOTICE record, a FINDINGS_LOST one with its count, between ALERT and
NOTICE records; and a queue split at a record of the finding's kind and subject (R160, R161; entry 16). -/
theorem test_witness_eviction :
    let alert := findingOf ready .storeFault none .none []
    let notice := findingOf ready .portUp none .none []
    let g := findingOf ready .findingsLost none .none [vNat 5]
    let pre := List.replicate 40 alert
    let post := List.replicate 23 notice
    let fu : FindingUnit := { FindingUnit.reset with queue := pre ++ g :: post, lost := 2 }
    let f := findingOf ready .gridCondition (some 0) .none []
    let gap := findingOf ready .streamGap (some 1) (.slot 0) [vNat 1]
    64 ≤ fu.queue.length ∧ (∀ x ∈ pre, severity x.kind = .alert ∨ severity x.kind = .alarm) ∧ severity g.kind = .notice ∧
    severity f.kind = .alarm ∧ maskOn fu f.kind = true ∧ coalescing f.kind = false ∧ lostCarried g = 5 ∧
    (takeFinding (stampOf ready.clock) fu f).lost = 8 ∧ (takeFinding (stampOf ready.clock) fu f).queue.length = 64 ∧
    g.kind = .findingsLost ∧ g.values = [vNat 5] ∧ notice.kind ≠ .findingsLost ∧
    (coalescing gap.kind = true ∧ (∀ x ∈ pre, ¬ (x.kind = gap.kind ∧ x.turbine = gap.turbine ∧ x.subject = gap.subject))) := by
  decide +kernel

theorem test_witness_SetFindingMaskMasks :
    maskOn ready.findings .started = true ∧ maskOn ready.findings .streamSilent ≠ false ∧ ready.advice.active ≠ true := by
  decide +kernel

/-- A queue that holds records of the kind masked and of another, one that holds none, and the mask of FINDINGS_LOST OFF (R163). -/
theorem test_witness_mask_cases :
    let fu : FindingUnit := { FindingUnit.reset with
      queue := [findingOf ready .portUp none .none [], findingOf ready .storeFault none .none []] }
    let off : FindingUnit := { fu with masks := put (put fu.masks (kindIndex .findingsLost) false) (kindIndex .portUp) false }
    (∃ f ∈ fu.queue, f.kind = .portUp) ∧ (∀ f ∈ fu.queue, f.kind ≠ .portDown) ∧ maskOn fu .portUp ≠ false ∧
    maskOn off .findingsLost ≠ true ∧ maskOn off .portUp ≠ true ∧ FindingKind.portUp ≠ .findingsLost ∧
    accepts { ready with findings := fu } dOrigin ∧ accepts { ready with findings := off } dOrigin := by
  unfold accepts
  decide +kernel

/-- A turbine requested in mode ACTIVE has a change of advice, one that is not requested has none (R167, R168). -/
theorem test_witness_change_of_advice :
    let s := { ready with
      advice := { ready.advice with active := true },
      harm := { ready.harm with grid := { ready.harm.grid with requests := [5] } } }
    (5 : Tid) ∈ s.harm.grid.requests ∧ (s.advice.recs.get 5).advice = .none ∧ (s.advice.recs.get 6).advice = .none ∧
    (s.advice.recs.get 6).limit = 100 ∧ (6 : Tid) ∉ s.harm.grid.requests ∧ Advice.curtail ≠ .none := by decide +kernel

theorem test_witness_refresh_and_restart :
    let s := updAdvice ready 23 (fun r => { r with refresh := some 0 })
    (s.advice.recs.get 23).refresh = some 0 ∧ s.standing = .active ∧ (s.advice.recs.get 23).owed = false ∧
    (∀ x ∈ s.portU.localQ, x.what ≠ .advice 23) ∧ (adviceFrame s 23).what = .advice 23 ∧ (adviceFrame s 22).what ≠ .advice 23 ∧
    16 ≤ (List.replicate 16 (adviceFrame s 22)).length ∧
    ({ ready with cmd := .restart true }).cmd = .restart true := by decide +kernel

end Sys2Proof.Tests
end

section
/-! PROOF. HOLD STREAM (R14): what the command does past the Command Unit's checks, by the state of the slot it names. -/

namespace Sys2Proof.Machine

/-- What is done for a slot named by its own number is done for that slot. -/
@[simp] theorem forSlot_val (s : State) (o : Origin) (code : Nat) (i : SlotId) (f : SlotId → State) :
    forSlot s o code i.val f = f i := by
  unfold forSlot
  rw [placeOf_val]

/-- HOLD STREAM is the management command with code 33 (R192). -/
theorem exec_holdStream (o : Origin) (k : Nat) (s : State) :
    exec (.holdStream o k) s = command o 33 (doHoldStream o k) s := by
  rfl

/-- An accepted HOLD STREAM of a slot of the table ends in what R14 does to that slot. -/
theorem exec_holdStream_accepted {s : State} {o : Origin} (h : accepts s o) (i : SlotId) :
    exec (.holdStream o i.val) s = .next (settle (holdStreamOf o s i)) := by
  rw [exec_holdStream, command_accepted h, doHoldStream, forSlot_val]

/-! ## The slot held -/

/-- Holding a slot that was not LIVE writes the slot and tells no block. -/
theorem holdSlot_of_not_live {s : State} {i : SlotId} (h : (s.streams.slots.get i).state ≠ .live) (e : StreamEntry) :
    holdSlot s i e =
      setSlot s i { s.streams.slots.get i with state := .held, silence := none, expected := none } := by
  simp only [holdSlot, endIfLive, if_neg h, updSlot]

/-- Holding a LIVE slot writes the slot and then tells its block ENDED with cause HELD. -/
theorem holdSlot_of_live {s : State} {i : SlotId} (h : (s.streams.slots.get i).state = .live) (e : StreamEntry) :
    holdSlot s i e =
      tellEnded (setSlot s i { s.streams.slots.get i with state := .held, silence := none, expected := none }) i e
        .held := by
  simp only [holdSlot, endIfLive, if_pos h, updSlot]

/-! ## HOLD STREAM by slot state -/

/-- A slot with an entry in IDLE, LIVE or SILENT is held, and the reply is DONE. -/
theorem holdStreamOf_of_holdable {s : State} {i : SlotId} {e : StreamEntry}
    (h : (s.streams.slots.get i).state = .idle ∨ (s.streams.slots.get i).state = .live ∨
      (s.streams.slots.get i).state = .silent) (he : entryAt s i = some e) (o : Origin) :
    holdStreamOf o s i = replyDone (holdSlot s i e) o 33 [] := by
  unfold holdStreamOf
  obtain hs | hs | hs := h <;> rw [hs, he]

/-- A slot already HELD stays as it is, and the reply is DONE. -/
theorem holdStreamOf_of_held {s : State} {i : SlotId} (h : (s.streams.slots.get i).state = .held) (o : Origin) :
    holdStreamOf o s i = replyDone s o 33 [] := by
  unfold holdStreamOf
  rw [h]

/-- An EMPTY or FAULTY slot refuses the command with the slot parameter as detail. -/
theorem holdStreamOf_of_empty_or_faulty {s : State} {i : SlotId}
    (h : (s.streams.slots.get i).state = .empty ∨ (s.streams.slots.get i).state = .faulty) (o : Origin) :
    holdStreamOf o s i = replyRefused s o 33 .badParameter 1 := by
  unfold holdStreamOf
  obtain hs | hs := h <;> rw [hs] <;> rfl

/-- Settles O29, by the state of the slot that HOLD STREAM names. -/
theorem holdStreamHolds : Obligations.HoldStreamHolds := by
  intro o s i hacc
  unfold answersDone answersRefused
  rw [exec_holdStream_accepted hacc]
  refine ⟨fun e hs he => ?idleOrSilent, fun e hs he => ?live, fun hs => ?held, fun hs => ?emptyOrFaulty⟩
  case idleOrSilent =>
    have hnot : (s.streams.slots.get i).state ≠ .live := by
      obtain hs | hs := hs <;> simp [hs]
    rw [holdStreamOf_of_holdable (hs.imp_right .inr) he, holdSlot_of_not_live hnot]
  case live => rw [holdStreamOf_of_holdable (.inr (.inl hs)) he, holdSlot_of_live hs]
  case held => rw [holdStreamOf_of_held hs]
  case emptyOrFaulty => rw [holdStreamOf_of_empty_or_faulty hs]

end Sys2Proof.Machine
end

section
/-! PROOF. RELEASE CLOCK (R132): what the command does past the Command Unit's checks, by the state of the clock. -/

namespace Sys2Proof.Machine

/-- RELEASE CLOCK is the management command with code 47 (R192). -/
theorem exec_releaseClock (o : Origin) (s : State) :
    exec (.releaseClock o) s = command o 47 (doReleaseClock o) s := by
  rfl

/-- An accepted RELEASE CLOCK ends in what R132 does to the clock. -/
theorem exec_releaseClock_accepted {s : State} {o : Origin} (h : accepts s o) :
    exec (.releaseClock o) s = .next (settle (doReleaseClock o s)) := by
  rw [exec_releaseClock, command_accepted h]

/-! ## The clock advanced by its held ticks -/

/-- The clock released runs. -/
@[simp] theorem releasedClock_state (c : Clock) : (releasedClock c).state = .running := rfl

/-- The held ticks are used up. -/
@[simp] theorem releasedClock_heldTicks (c : Clock) : (releasedClock c).heldTicks = 0 := rfl

/-- The days that the held ticks pass are added to the day number, held at its top. -/
@[simp] theorem releasedClock_day (c : Clock) :
    (releasedClock c).day = min (c.day + (tenthsOfDay c + c.heldTicks) / 864000) 65535 := rfl

/-- A checkpoint moment passed by the advance is not marked. -/
@[simp] theorem releasedClock_checkpointDue (c : Clock) : (releasedClock c).checkpointDue = c.checkpointDue := rfl

/-- The four fields of the time of day are the digits of the tenths past midnight in the bases of R129's carries. -/
theorem tenthsOfDay_releasedClock (c : Clock) :
    tenthsOfDay (releasedClock c) = (tenthsOfDay c + c.heldTicks) % 864000 := by
  simp only [releasedClock]
  generalize tenthsOfDay c + c.heldTicks = total
  unfold tenthsOfDay
  dsimp only
  omega

/-- Each field of the time of day is in its range (R128). -/
theorem releasedClock_inRange (c : Clock) :
    (releasedClock c).hour ≤ 23 ∧ (releasedClock c).minute ≤ 59 ∧ (releasedClock c).second ≤ 59 ∧
      (releasedClock c).tenth ≤ 9 := by
  simp only [releasedClock]
  omega

/-! ## The state with its clock released -/

/-- A day change told to the Calendar leaves the clock. -/
@[simp] theorem dayChange_clock (s : State) : (dayChange s).clock = s.clock := by
  obtain ⟨items, findings, q, h⟩ := dayChange_only s
  rw [h]

/-- The Calendar is told of a day change just where the advance changes the day number. -/
theorem releaseClockOn_eq (s : State) :
    releaseClockOn s =
      if (releasedClock s.clock).day = s.clock.day then { s with clock := releasedClock s.clock }
      else dayChange { s with clock := releasedClock s.clock } := by
  rfl

/-- With or without a day change, the clock ends as advanced by its held ticks. -/
@[simp] theorem releaseClockOn_clock (s : State) : (releaseClockOn s).clock = releasedClock s.clock := by
  rw [releaseClockOn_eq]
  split
  · rfl
  · rw [dayChange_clock]

/-! ## RELEASE CLOCK by clock state -/

/-- A HELD clock is released, and the reply is DONE. -/
theorem doReleaseClock_of_held {s : State} (h : s.clock.state = .held) (o : Origin) :
    doReleaseClock o s = replyDone (releaseClockOn s) o 47 [] := by
  simp only [doReleaseClock, h]

/-- A RUNNING clock is left, and the reply is DONE. -/
theorem doReleaseClock_of_running {s : State} (h : s.clock.state = .running) (o : Origin) :
    doReleaseClock o s = replyDone s o 47 [] := by
  simp only [doReleaseClock, h]

/-- An UNSET clock refuses the command. -/
theorem doReleaseClock_of_unset {s : State} (h : s.clock.state = .unset) (o : Origin) :
    doReleaseClock o s = replyRefused s o 47 .clockUnset 0 := by
  simp only [doReleaseClock, h]

/-- Settles O49, by the state of the clock; a HELD clock ends in `releaseClockOn`. -/
theorem releaseClockMakesUpTheHold : Obligations.ReleaseClockMakesUpTheHold := by
  intro o s hacc
  unfold answersDone answersRefused
  rw [exec_releaseClock_accepted hacc]
  refine ⟨fun hs => ?held, fun hs => ?running, fun hs => ?unset⟩
  case held =>
    obtain ⟨hhour, hminute, hsecond, htenth⟩ := releasedClock_inRange s.clock
    refine ⟨releaseClockOn s, by rw [doReleaseClock_of_held hs], ?_⟩
    rw [releaseClockOn_clock]
    exact ⟨releasedClock_state _, releasedClock_heldTicks _, releasedClock_day _, tenthsOfDay_releasedClock _,
      hhour, hminute, hsecond, htenth, releasedClock_checkpointDue _, releaseClockOn_eq s⟩
  case running => rw [doReleaseClock_of_running hs]
  case unset => rw [doReleaseClock_of_unset hs]

end Sys2Proof.Machine
end

section
/-! PROOF. DISCARD STAGE (R185): the Staging Area made equal to the active copies, what the staged-differs flags say of it, and
what a later commit still changes. -/

namespace Sys2Proof.Machine

/-- DISCARD STAGE is the management command with code 22 (R192). -/
theorem exec_discardStage (o : Origin) (s : State) :
    exec (.discardStage o) s = command o 22 (doDiscardStage o) s := by
  rfl

/-- An accepted DISCARD STAGE stages the active copies and replies DONE. -/
theorem exec_discardStage_accepted {s : State} {o : Origin} (h : accepts s o) :
    exec (.discardStage o) s = .next (settle (replyDone (setStaged s (stageOfActive s)) o 22 [])) := by
  rw [exec_discardStage, command_accepted h, doDiscardStage]

/-! ## The Staging Area copied from the active tables -/

/-- The copy stages in every slot the slot's active entry. -/
@[simp] theorem stageOfActive_streams_get (s : State) (i : SlotId) :
    (stageOfActive s).streams.get i = (s.streams.slots.get i).entry := by
  rw [stageOfActive, get_mapTab]

/-! ## Staged against active -/

/-- A slot's staged entry does not differ just where it is the active entry. -/
theorem slotDiffers_eq_false_iff (s : State) (i : SlotId) :
    slotDiffers s i = false ↔ s.staged.streams.get i = (s.streams.slots.get i).entry := by
  simp [slotDiffers]

/-- The five staged-differs flags are all NO just where each staged copy equals its active copy (R183). -/
theorem stagedDiffers_all_no_iff (s : State) :
    stagedDiffers s = [false, false, false, false, false] ↔
      (∀ i, s.staged.streams.get i = (s.streams.slots.get i).entry) ∧ s.staged.bands = s.active.bands ∧
        s.staged.limits = s.active.limits ∧ s.staged.curves = s.active.curves ∧ s.staged.settings = s.active.settings := by
  simp [stagedDiffers, allSlots, slotDiffers_eq_false_iff]

/-- A FAULTY slot with an entry staged counts as changed, whether or not the entry differs from its active one (R5). -/
theorem slotChanged_of_faulty_of_staged {s : State} {i : SlotId} {e : StreamEntry}
    (hf : (s.streams.slots.get i).state = .faulty) (he : s.staged.streams.get i = some e) : slotChanged s i = true := by
  simp [slotChanged, stagedAt, hf, he]

/-- Settles O25: the state replied from has the active copies staged, so no flag is YES, and a FAULTY slot's entry is staged
again. -/
theorem discardStageCopiesTheActive : Obligations.DiscardStageCopiesTheActive := by
  intro o s hacc
  have hcopied : ∀ i, (setStaged s (stageOfActive s)).staged.streams.get i = (s.streams.slots.get i).entry :=
    stageOfActive_streams_get s
  have hflags : stagedDiffers (setStaged s (stageOfActive s)) = [false, false, false, false, false] :=
    (stagedDiffers_all_no_iff _).2 ⟨hcopied, rfl, rfl, rfl, rfl⟩
  refine ⟨setStaged s (stageOfActive s), exec_discardStage_accepted hacc, rfl, hcopied, rfl, rfl, rfl, rfl, hflags, ?faulty⟩
  case faulty =>
    intro i e hf he
    exact slotChanged_of_faulty_of_staged hf ((hcopied i).trans he)

end Sys2Proof.Machine
end

section
/-! PROOF. What a notice, a result or a change of advice can do to the part: a relation closed under the writes that such an
operation is made of, said once for every operation, from which the invariants of a step follow by induction. -/

namespace Sys2Proof.Machine

/-- The second state differs from the first in the blocks' own records at most: no port, no finding, no record waiting for the
engine, and nothing that commands alone write. -/
def OnlyBlocks (s t : State) : Prop :=
  ∃ streams turbines speeds vib harm ice usage items advice,
    t = { s with streams := streams, turbines := turbines, speeds := speeds, vib := vib, harm := harm, ice := ice,
                 usage := usage, items := items, advice := advice }

/-- What the blocks do to the part at a notice, one write after another. -/
inductive Moves : State → State → Prop where
  | refl (s : State) : Moves s s
  | trans {s t u : State} (h : Moves s t) (k : Moves t u) : Moves s u
  | blocks {s t : State} (h : OnlyBlocks s t) : Moves s t
  | raise (s : State) (k : FindingKind) (t : Option Nat) (j : Subject) (vs : List Word32) : Moves s (raise s k t j vs)
  | offerAdvice (s : State) (t : Tid) : Moves s (offerAdvice s t)
  | offerTransit (s : State) (p : Port) (f : Frame) : Moves s (offerTransit s p f)
  | engineCounts (s : State) (v h : ClassCounts) (n : Nat) :
      Moves s { s with engine := { s.engine with vibCounts := v, harmCounts := h, omitted := n } }
  | queueVib (s : State) (r : VibRecord) : Moves s (queueVib s r)
  | queueHarm (s : State) (r : HarmRecord) : Moves s (queueHarm s r)

/-- A fold of operations that each move the part moves it. -/
theorem Moves.foldl {α : Type} {f : State → α → State} (h : ∀ s a, Moves s (f s a)) (l : List α) (s : State) :
    Moves s (l.foldl f s) := by
  induction l generalizing s with
  | nil => exact .refl s
  | cons a l ih => exact (h s a).trans (ih (f s a))

/-- A write after a move. -/
theorem Moves.write {s t u : State} (h : Moves s t) (k : OnlyBlocks t u) : Moves s u := h.trans (.blocks k)

/-- A finding raised after a move. -/
theorem Moves.raised {s u : State} (h : Moves s u) (k : FindingKind) (t : Option Nat) (j : Subject) (vs : List Word32) :
    Moves s (Machine.raise u k t j vs) := h.trans (.raise u k t j vs)

/-- A choice between two operations that move the part moves it. -/
theorem Moves.ite {s t u : State} {c : Prop} [Decidable c] (h : Moves s t) (k : Moves s u) : Moves s (if c then t else u) := by
  split
  · exact h
  · exact k

/-! ## One write each -/

theorem setVib_moves (s : State) (i : SlotId) (r : Option VibRec) : Moves s (setVib s i r) :=
  .blocks ⟨_, _, _, _, _, _, _, _, _, rfl⟩

theorem updVib_moves (s : State) (i : SlotId) (f : VibRec → VibRec) : Moves s (updVib s i f) := setVib_moves s i _

theorem setSlot_moves (s : State) (i : SlotId) (x : Slot) : Moves s (setSlot s i x) :=
  .blocks ⟨_, _, _, _, _, _, _, _, _, rfl⟩

theorem updSlot_moves (s : State) (i : SlotId) (f : Slot → Slot) : Moves s (updSlot s i f) := setSlot_moves s i _

theorem setHarm_moves (s : State) (h : HarmWatch) : Moves s (setHarm s h) := .blocks ⟨_, _, _, _, _, _, _, _, _, rfl⟩

theorem setGrid_moves (s : State) (g : GridRec) : Moves s (setGrid s g) := .blocks ⟨_, _, _, _, _, _, _, _, _, rfl⟩

theorem updTurbine_moves (s : State) (t : Tid) (f : TurbineRec → TurbineRec) : Moves s (updTurbine s t f) :=
  .blocks ⟨_, _, _, _, _, _, _, _, _, rfl⟩

theorem updSpeed_moves (s : State) (t : Tid) (f : SpeedRec → SpeedRec) : Moves s (updSpeed s t f) :=
  .blocks ⟨_, _, _, _, _, _, _, _, _, rfl⟩

theorem updIce_moves (s : State) (t : Tid) (f : IceRec → IceRec) : Moves s (updIce s t f) :=
  .blocks ⟨_, _, _, _, _, _, _, _, _, rfl⟩

theorem updAdvice_moves (s : State) (t : Tid) (f : AdviceRec → AdviceRec) : Moves s (updAdvice s t f) :=
  .blocks ⟨_, _, _, _, _, _, _, _, _, rfl⟩

theorem setGate_moves (s : State) (t : Tid) (c : TimeCounter) (b : Bool) : Moves s (setGate s t c b) :=
  .blocks ⟨_, _, _, _, _, _, _, _, _, rfl⟩

theorem discardBlock_moves (c : BlockCause) (s : State) (t : Tid) : Moves s (discardBlock c s t) :=
  .blocks ⟨_, _, _, _, _, _, _, _, _, rfl⟩

theorem putItem_moves (s : State) (i : ItemId) (x : Option Item) : Moves s { s with items := put s.items i x } :=
  .blocks ⟨_, _, _, _, _, _, _, _, _, rfl⟩

theorem updUsage_moves (s : State) (t : Tid) (f : Usage → Usage) : Moves s { s with usage := upd s.usage t f } :=
  .blocks ⟨_, _, _, _, _, _, _, _, _, rfl⟩

/-! ## The Service Calendar and the Usage Counters -/

theorem enterItemState_moves (s : State) (i : ItemId) (it : Item) (v : Nat) (st : ItemState) :
    Moves s (enterItemState s i it v st) := by
  unfold enterItemState
  dsimp only
  split
  · exact putItem_moves ..
  · exact (putItem_moves ..).raised ..

theorem evaluateItem_moves (s : State) (i : ItemId) : Moves s (evaluateItem s i) := by
  unfold evaluateItem
  split
  · exact .refl s
  · exact .ite (.ite (.refl s) (enterItemState_moves ..)) (.refl s)

theorem counterAdvance_moves (s : State) (t : Tid) (b : Basis) : Moves s (counterAdvance s t b) :=
  .foldl evaluateItem_moves _ _

theorem pullIn_moves (s : State) (i : ItemId) (it : Item) (l : Link) (v : Nat) (g : Grade) :
    Moves s (pullIn s i it l v g) := by
  unfold pullIn
  exact .ite (putItem_moves ..) (((putItem_moves ..).raised ..).trans (evaluateItem_moves ..))

theorem linkedChangeItem_moves (t : Tid) (b : SetId) (old new : Grade) (s : State) (i : ItemId) :
    Moves s (linkedChangeItem t b old new s i) := by
  unfold linkedChangeItem
  split
  · exact .refl s
  · split
    · exact .refl s
    · refine .ite (.ite ?rise (.ite (putItem_moves ..) (.refl s))) (.refl s)
      case rise =>
        split
        · exact .ite (putItem_moves ..) (pullIn_moves ..)
        · exact .refl s
        · exact .refl s

theorem linkedChange_moves (s : State) (t : Tid) (b : SetId) (old new : Grade) : Moves s (linkedChange s t b old new) :=
  .foldl (linkedChangeItem_moves t b old new) _ _

theorem settleOwed_moves (s : State) (i : ItemId) (it : Item) (l : Link) : Moves s (settleOwed s i it l) := by
  unfold settleOwed
  exact .ite (pullIn_moves ..) (putItem_moves ..)

theorem dayChangeItem_moves (s : State) (i : ItemId) : Moves s (dayChangeItem s i) := by
  unfold dayChangeItem
  split
  · exact .refl s
  · refine .ite ?days (.refl s)
    case days =>
      split
      · exact .ite ((settleOwed_moves ..).trans (evaluateItem_moves ..)) (evaluateItem_moves ..)
      · exact evaluateItem_moves ..

theorem dayChange_moves (s : State) : Moves s (dayChange s) := .foldl dayChangeItem_moves _ _

theorem advanceMain_moves (s : State) (t : Tid) (b : Basis) : Moves s (advanceMain s t b) := by
  unfold advanceMain writeMain
  exact .ite ((updUsage_moves ..).trans (counterAdvance_moves ..)) (.refl s)

theorem takeCarry_moves (s : State) (t : Tid) (c : TimeCounter) : Moves s (takeCarry s t c) := by
  unfold takeCarry
  exact .ite ((updUsage_moves ..).trans (advanceMain_moves ..)) (.refl s)

theorem countRevolution_moves (s : State) (t : Tid) : Moves s (countRevolution s t) := by
  unfold countRevolution
  exact .ite ((updUsage_moves ..).trans (advanceMain_moves ..)) (updUsage_moves ..)

/-! ## Vibration windows -/

theorem abandonWindow_moves (c : AbandonCause) (s : State) (i : SlotId) : Moves s (abandonWindow c s i) := by
  unfold abandonWindow
  split
  · exact .refl s
  · exact .ite ((updVib_moves ..).raised ..) (updVib_moves ..)

theorem abandonAutomatic_moves (c : AbandonCause) (s : State) (i : SlotId) : Moves s (abandonAutomatic c s i) := by
  unfold abandonAutomatic
  split
  · exact .refl s
  · exact .ite (.refl s) (abandonWindow_moves ..)

theorem abandonTest_moves (c : AbandonCause) (s : State) (i : SlotId) : Moves s (abandonTest c s i) := by
  unfold abandonTest
  split
  · exact .refl s
  · exact .ite (abandonWindow_moves ..) (.refl s)

theorem cancelTest_moves (c : AbandonCause) (s : State) (i : SlotId) : Moves s (cancelTest c s i) := by
  unfold cancelTest
  split
  · exact .refl s
  · exact .ite ((updVib_moves ..).raised ..) (.refl s)

theorem trackingLostAt_moves (s : State) (i : SlotId) : Moves s (trackingLostAt s i) :=
  (abandonWindow_moves ..).trans (cancelTest_moves ..)

theorem serviceEndedAt_moves (s : State) (i : SlotId) : Moves s (serviceEndedAt s i) :=
  (abandonTest_moves ..).trans (cancelTest_moves ..)

theorem vibTrackingLost_moves (s : State) (t : Tid) : Moves s (vibTrackingLost s t) := .foldl trackingLostAt_moves _ _

theorem vibSlip_moves (s : State) (t : Tid) : Moves s (vibSlip s t) := .foldl (abandonWindow_moves _) _ _

theorem vibStep_moves (s : State) (t : Tid) : Moves s (vibStep s t) := .foldl (abandonWindow_moves _) _ _

theorem vibBlanking_moves (s : State) (t : Tid) : Moves s (vibBlanking s t) := .foldl (abandonWindow_moves _) _ _

theorem vibNotGenerating_moves (s : State) (t : Tid) : Moves s (vibNotGenerating s t) := .foldl (abandonAutomatic_moves _) _ _

theorem vibServiceBegun_moves (s : State) (t : Tid) : Moves s (vibServiceBegun s t) := .foldl (abandonAutomatic_moves _) _ _

theorem vibServiceEnded_moves (s : State) (t : Tid) : Moves s (vibServiceEnded s t) := .foldl serviceEndedAt_moves _ _

theorem requestBlanking_moves (s : State) (t : Tid) : Moves s (requestBlanking s t) :=
  .trans (.blocks ⟨_, _, _, _, _, _, _, _, _, rfl⟩) (vibBlanking_moves ..)

theorem newSeries_moves (s : State) (i : SlotId) : Moves s (newSeries s i) := by
  unfold newSeries
  split
  · exact updVib_moves ..
  · exact .refl s

theorem vibStart_moves (s : State) (t : Tid) : Moves s (vibStart s t) := .foldl newSeries_moves _ _

theorem openingCheck_moves (t : Tid) (b : Time) (s : State) (i : SlotId) : Moves s (openingCheck t b s i) := by
  unfold openingCheck
  split
  · exact .ite (.ite (setVib_moves ..) (.ite (setVib_moves ..) (.refl s))) (.refl s)
  · exact .refl s

theorem closeWindow_moves (s : State) (t : Tid) (i : SlotId) (w : VibWindow) (c : Time) (rate : RateCode) :
    Moves s (closeWindow s t i w c rate) := by
  unfold closeWindow
  have hqueued := fun r => (updVib_moves s i (fun r => { r with window := none, queued := bump r.queued })).trans (.queueVib _ r)
  exact .ite (hqueued _) ((hqueued _).trans (openingCheck_moves ..))

theorem giveSamples_moves (s : State) (i : SlotId) (w : VibWindow) (rate : RateCode) (new : List Sample) :
    Moves s (giveSamples s i w rate new) := by
  unfold giveSamples
  exact .ite (abandonWindow_moves ..) (.ite ((abandonWindow_moves ..).raised ..) (updVib_moves ..))

theorem dataToWindow_moves (s : State) (t : Tid) (i : SlotId) (w : VibWindow) (stamp : Nat) (rate : RateCode) (xs : List Int) :
    Moves s (dataToWindow s t i w stamp rate xs) := by
  unfold dataToWindow
  dsimp only
  split
  · exact giveSamples_moves ..
  · exact .ite (closeWindow_moves ..) (giveSamples_moves ..)

theorem vibData_moves (s : State) (t : Tid) (i : SlotId) (stamp : Nat) (rate : RateCode) (xs : List Int) :
    Moves s (vibData s t i stamp rate xs) := by
  unfold vibData
  dsimp only
  split
  · exact updVib_moves ..
  · exact (updVib_moves ..).trans (dataToWindow_moves ..)

theorem vibGap_moves (s : State) (i : SlotId) : Moves s (vibGap s i) := (updVib_moves ..).trans (abandonWindow_moves ..)

theorem vibEnded_moves (s : State) (i : SlotId) (c : EndCause) : Moves s (vibEnded s i c) := by
  unfold vibEnded
  exact .ite ((updVib_moves ..).trans (updVib_moves ..))
    (((updVib_moves ..).trans (abandonWindow_moves ..)).trans (cancelTest_moves ..))

theorem countWindow_moves (t : Tid) (b : Time) (s : State) (i : SlotId) (w : VibWindow) : Moves s (countWindow t b s i w) := by
  unfold countWindow
  split
  · exact .refl s
  · refine .ite (updVib_moves ..) ?target
    case target =>
      dsimp only
      split
      · exact closeWindow_moves ..
      · exact updVib_moves ..

theorem revolutionAt_moves (t : Tid) (b : Time) (isStep : Bool) (s : State) (i : SlotId) :
    Moves s (revolutionAt t b isStep s i) := by
  unfold revolutionAt
  split
  · exact countWindow_moves ..
  · exact .ite (.refl s) (openingCheck_moves ..)

theorem vibRevolution_moves (s : State) (t : Tid) (b : Time) (isStep : Bool) : Moves s (vibRevolution s t b isStep) :=
  .foldl (revolutionAt_moves t b isStep) _ _

theorem vibBoundary_moves (s : State) (t : Tid) (b : Time) : Moves s (vibBoundary s t b) := .foldl (openingCheck_moves t b) _ _

/-! ## Grades and results of job VIB -/

theorem formLinked_moves (t : Tid) (sl : List SlotId) (s : State) (b : SetId) : Moves s (formLinked t sl s b) := by
  unfold formLinked
  exact .ite (.refl s) (.trans (.blocks ⟨_, _, _, _, _, _, _, _, _, rfl⟩) (linkedChange_moves ..))

theorem formGrades_moves (s : State) (t : Tid) : Moves s (formGrades s t) :=
  .trans (.blocks ⟨_, _, _, _, _, _, _, _, _, rfl⟩) (.foldl (formLinked_moves t _) _ _)

theorem resetForSet_moves (immediate : Bool) (s : State) (i : SlotId) : Moves s (resetForSet immediate s i) := by
  unfold resetForSet
  have hend : Moves s (if immediate then cancelTest .commit (abandonWindow .commit s i) i else s) :=
    .ite ((abandonWindow_moves ..).trans (cancelTest_moves ..)) (.refl s)
  dsimp only
  split
  · exact hend.trans (updVib_moves ..)
  · exact hend

theorem raiseBandFindings_moves (i : SlotId) (turbine : Option Nat) (n : Nat) (fss : List (List BandFinding)) (s : State) :
    Moves s (raiseBandFindings i turbine n fss s) := by
  induction fss generalizing n s with
  | nil => exact .refl s
  | cons fs rest ih =>
    unfold raiseBandFindings
    refine Moves.trans ?band (ih _ _)
    case band => exact .foldl (fun s f => .raise s f.1 turbine (.slotBand i n) f.2) fs s

theorem summaryStep_moves (s : State) (i : SlotId) (set : BandSet) : Moves s (summaryStep s i set) := by
  unfold summaryStep
  refine .ite (.refl s) ?counted
  case counted =>
    split
    · exact .refl s
    · exact .ite (updVib_moves ..) (.ite (updVib_moves ..) ((updVib_moves ..).raised ..))

theorem gradeWindow_moves (s : State) (t : Tid) (i : SlotId) (set : BandSet) (speed hz : Nat) (levels : List Nat) :
    Moves s (gradeWindow s t i set speed hz levels) := by
  unfold gradeWindow
  split
  · exact .refl s
  · exact (((setVib_moves ..).trans (raiseBandFindings_moves ..)).trans (formGrades_moves ..)).trans (summaryStep_moves ..)

theorem vibResult_moves (s : State) (r : VibRecord) : Moves s (vibResult s r) := by
  unfold vibResult
  split
  · exact .refl s
  · refine .ite ?test (gradeWindow_moves ..)
    case test => exact (updVib_moves ..).raised ..

theorem vibDiscarded_moves (s : State) (r : VibRecord) : Moves s (vibDiscarded s r) := by
  unfold vibDiscarded
  have hcount : Moves s
      (if (s.streams.slots.get r.slot).inst = r.inst then
        updVib s r.slot (fun v =>
          { v with discarded := bump v.discarded, lastTest := if r.test then some (.discarded, none) else v.lastTest })
      else s) := .ite (updVib_moves ..) (.refl s)
  exact .ite (hcount.raised ..) hcount

theorem harmDiscarded_moves (s : State) : Moves s (harmDiscarded s) := setHarm_moves s _

/-! ## Advice -/

theorem curtailedGate_moves (s : State) (t : Tid) (old new : Advice) : Moves s (curtailedGate s t old new) := by
  unfold curtailedGate
  exact .ite (setGate_moves ..) (.ite (setGate_moves ..) (.refl s))

theorem changeAdvice_moves (s : State) (t : Tid) (a : Advice) (l : Nat) : Moves s (changeAdvice s t a l) := by
  unfold changeAdvice
  have hgate := (updAdvice_moves s t (fun r => { r with advice := a, limit := l })).trans
    (curtailedGate_moves _ t (s.advice.recs.get t).advice a)
  have hblank := (hgate.trans (discardBlock_moves .advice _ t)).trans (requestBlanking_moves _ t)
  exact ((hblank.trans (.offerAdvice _ t)).trans (updAdvice_moves ..)).raised ..

theorem computeAdvice_moves (s : State) (t : Tid) : Moves s (computeAdvice s t) := by
  unfold computeAdvice
  exact .ite (.refl s) (changeAdvice_moves ..)

theorem computeAllAdvice_moves (s : State) : Moves s (computeAllAdvice s) := .foldl computeAdvice_moves _ _

theorem refreshAdvice_moves (s : State) (t : Tid) : Moves s (refreshAdvice s t) :=
  (Moves.offerAdvice s t).trans (updAdvice_moves ..)

/-! ## The Harmonic Watch -/

theorem withdraw_moves (s : State) (t : Tid) : Moves s (withdraw s t) := by
  unfold withdraw
  exact .ite ((setGrid_moves ..).trans (computeAdvice_moves ..)) (.refl s)

theorem requestCurtail_moves (s : State) (t : Tid) : Moves s (requestCurtail s t) :=
  (setGrid_moves ..).trans (computeAdvice_moves ..)

theorem harmLive_moves (s : State) (i : SlotId) (e : StreamEntry) : Moves s (harmLive s i e) := by
  unfold harmLive
  refine .ite ?reference (setHarm_moves ..)
  case reference =>
    split
    · exact setHarm_moves ..
    · exact .refl s
    · exact .refl s

theorem harmGap_moves (s : State) (i : SlotId) (e : StreamEntry) : Moves s (harmGap s i e) := by
  unfold harmGap
  exact .ite (setHarm_moves ..) (setHarm_moves ..)

theorem harmEnded_moves (s : State) (i : SlotId) (e : StreamEntry) : Moves s (harmEnded s i e) := by
  unfold harmEnded
  exact .ite (setHarm_moves ..) (setHarm_moves ..)

theorem openHarm_moves (s : State) (i : SlotId) (b : Time) (rate : RateCode) (xs : List Sample) :
    Moves s (openHarm s i b rate xs) := by
  unfold openHarm
  exact .ite (setHarm_moves ..) (setHarm_moves ..)

theorem closeHarm_moves (s : State) (i : SlotId) (w : HarmWindow) (c : Time) (held : List Sample) :
    Moves s (closeHarm s i w c held) := by
  unfold closeHarm
  refine .ite ?kept ((setHarm_moves ..).trans (openHarm_moves ..))
  case kept => exact (((setHarm_moves ..).trans (.queueHarm ..)).trans (setHarm_moves ..)).trans (openHarm_moves ..)

theorem extendHarm_moves (s : State) (w : HarmWindow) (x : Sample) : Moves s (extendHarm s w x) := by
  unfold extendHarm
  exact .ite (setHarm_moves ..) (setHarm_moves ..)

theorem refSample_moves (i : SlotId) (rate : RateCode) (s : State) (x : Sample) : Moves s (refSample i rate s x) := by
  unfold refSample
  have hdetector := setHarm_moves s { s.harm with detector := detectorAfter s.harm.detector x }
  dsimp only
  split
  · exact hdetector.trans (openHarm_moves ..)
  · exact .ite (hdetector.trans (extendHarm_moves ..)) (hdetector.trans (closeHarm_moves ..))
  · exact hdetector.trans (extendHarm_moves ..)
  · exact hdetector
  · exact hdetector

theorem harmData_moves (s : State) (i : SlotId) (e : StreamEntry) (stamp : Nat) (rate : RateCode) (xs : List Int) :
    Moves s (harmData s i e stamp rate xs) := by
  unfold harmData
  exact .ite ((setHarm_moves ..).trans (.foldl (refSample_moves i rate) _ _)) (setHarm_moves ..)

theorem blankPresent_moves (s : State) : Moves s (blankPresent s) := .foldl requestBlanking_moves _ _

theorem enterCondition_moves (s : State) : Moves s (enterCondition s) := by
  unfold enterCondition
  dsimp only
  split
  · exact (((setGrid_moves ..).raised ..).trans (blankPresent_moves _)).trans (requestCurtail_moves ..)
  · exact ((setGrid_moves ..).raised ..).trans (blankPresent_moves _)

theorem escalate_moves (s : State) : Moves s (escalate s) := by
  unfold escalate
  refine .ite ?room (setGrid_moves ..)
  case room =>
    split
    · exact ((setGrid_moves ..).trans (requestCurtail_moves ..)).raised ..
    · exact setGrid_moves ..

theorem releaseGrid_moves (s : State) (c : ReleaseCause) : Moves s (releaseGrid s c) :=
  ((setGrid_moves ..).trans (.foldl withdraw_moves _ _)).raised ..

theorem exceedInCondition_moves (s : State) : Moves s (exceedInCondition s) := by
  unfold exceedInCondition
  exact .ite (escalate_moves s) (setGrid_moves ..)

theorem cleanInCondition_moves (s : State) : Moves s (cleanInCondition s) := by
  unfold cleanInCondition
  exact .ite (releaseGrid_moves ..) (.ite (releaseGrid_moves ..) (.refl s))

theorem gridStep_moves (s : State) (v : Verdict) (openMs : Nat) : Moves s (gridStep s v openMs) := by
  unfold gridStep
  dsimp only
  split
  · exact .ite ((setGrid_moves ..).trans (enterCondition_moves _)) (setGrid_moves ..)
  · exact setGrid_moves ..
  · exact .ite ((setGrid_moves ..).trans (enterCondition_moves _)) (setGrid_moves ..)
  · exact setGrid_moves ..
  · exact (setGrid_moves ..).trans (exceedInCondition_moves _)
  · exact (setGrid_moves ..).trans (cleanInCondition_moves _)

theorem gridSummaryStep_moves (s : State) (rs : List (Nat × Compared)) : Moves s (gridSummaryStep s rs) := by
  unfold gridSummaryStep
  exact .ite (.refl s) (.ite (setHarm_moves ..) ((setHarm_moves ..).raised ..))

theorem useMagnitudes_moves (s : State) (m : StreamMags) (rest : List StreamMags) (fund openMs : Nat) :
    Moves s (useMagnitudes s m rest fund openMs) :=
  ((setHarm_moves ..).trans (gridStep_moves ..)).trans (gridSummaryStep_moves ..)

theorem harmResult_moves (s : State) (r : HarmRecord) : Moves s (harmResult s r) :=
  (Moves.engineCounts s _ _ _).trans (useMagnitudes_moves ..)

theorem trimRequests_moves (s : State) : Moves s (trimRequests s) := .foldl withdraw_moves _ _

/-! ## The Icing Watch -/

theorem iceGate_moves (s : State) (t : Tid) (old new : IceState) : Moves s (iceGate s t old new) := by
  unfold iceGate
  exact .ite (.refl s) (setGate_moves ..)

theorem tellHold_moves (before : Bool) (s : State) (t : Tid) : Moves s (tellHold before s t) := by
  unfold tellHold
  exact .ite (.refl s) (.ite ((computeAdvice_moves ..).trans (withdraw_moves ..)) (computeAdvice_moves ..))

theorem writeIce_moves (s : State) (t : Tid) (r : IceRec) : Moves s (writeIce s t r) :=
  .trans (.blocks ⟨_, _, _, _, _, _, _, _, _, rfl⟩) (iceGate_moves ..)

theorem iceTransition_moves (s : State) (t : Tid) (r : IceRec) (fs : List (FindingKind × List Word32)) :
    Moves s (iceTransition s t r fs) := by
  unfold iceTransition
  refine Moves.trans ((writeIce_moves s t r).trans ?findings) (tellHold_moves ..)
  case findings => exact .foldl (fun s f => .raise s f.1 (some (tnum t)) .none f.2) fs _

theorem takeIntoBlock_moves (s : State) (t : Tid) (d : Nat) : Moves s (takeIntoBlock s t d) := by
  unfold takeIntoBlock
  exact .ite (iceTransition_moves ..) (.blocks ⟨_, _, _, _, _, _, _, _, _, rfl⟩)

theorem iceReport_moves (s : State) (t : Tid) (p : Report) : Moves s (iceReport s t p) := by
  unfold iceReport
  dsimp only
  split
  · exact (updIce_moves ..).trans (takeIntoBlock_moves ..)
  · exact (updIce_moves ..).trans (updIce_moves ..)

theorem iceLive_moves (s : State) (t : Tid) : Moves s (iceLive s t) := updIce_moves ..

theorem iceEnded_moves (s : State) (t : Tid) : Moves s (iceEnded s t) := (updIce_moves ..).trans (discardBlock_moves ..)

theorem thawReached_moves (s : State) (t : Tid) : Moves s (thawReached s t) := iceTransition_moves ..

theorem declareIced_moves (s : State) (t : Tid) : Moves s (declareIced s t) :=
  (discardBlock_moves ..).trans (iceTransition_moves ..)

theorem declareCleared_moves (s : State) (t : Tid) : Moves s (declareCleared s t) :=
  (discardBlock_moves ..).trans (iceTransition_moves ..)

/-! ## The Turbine Table -/

theorem startTurbine_moves (s : State) (t : Tid) : Moves s (startTurbine s t) :=
  ((advanceMain_moves ..).trans (vibStart_moves ..)).trans (requestBlanking_moves ..)

theorem operNotices_moves (s : State) (t : Tid) (old new : OperState) : Moves s (operNotices s t old new) := by
  unfold operNotices
  exact .ite (setGate_moves ..)
    (.ite (((setGate_moves ..).trans (vibNotGenerating_moves ..)).trans (discardBlock_moves ..)) (.refl s))

theorem setOper_moves (s : State) (t : Tid) (new : OperState) : Moves s (setOper s t new) := by
  unfold setOper
  refine .ite (.refl s) ?changed
  case changed =>
    exact ((updTurbine_moves ..).trans (.ite (startTurbine_moves ..) (.refl _))).trans (operNotices_moves ..)

theorem operReport_moves (s : State) (t : Tid) (p : Report) : Moves s (operReport s t p) :=
  (updTurbine_moves ..).trans (setOper_moves ..)

theorem operEnded_moves (s : State) (t : Tid) : Moves s (operEnded s t) := setOper_moves ..

theorem removeTurbine_moves (s : State) (t : Tid) : Moves s (removeTurbine s t) :=
  ((((updTurbine_moves ..).trans (setOper_moves ..)).trans (updTurbine_moves ..)).trans (withdraw_moves ..)).trans
    (setHarm_moves ..)

theorem configureTurbine_moves (s : State) (t : Tid) (cls rated : Nat) : Moves s (configureTurbine s t cls rated) := by
  unfold configureTurbine
  exact .ite ((updTurbine_moves ..).trans (discardBlock_moves ..)) (updTurbine_moves ..)

theorem loadConfiguration_moves (s : State) (t : Tid) (present : Bool) (cls rated : Nat) :
    Moves s (loadConfiguration s t present cls rated) := by
  unfold loadConfiguration
  exact .ite (configureTurbine_moves ..) (.ite (removeTurbine_moves ..) (.refl s))

theorem loadServiceLimit_moves (s : State) (t : Tid) (limit : Nat) : Moves s (loadServiceLimit s t limit) :=
  updTurbine_moves ..

theorem beginServiceOn_moves (s : State) (t : Tid) (limit : Nat) : Moves s (beginServiceOn s t limit) := by
  unfold beginServiceOn
  refine .ite (loadServiceLimit_moves ..) ?begun
  case begun =>
    have hon := (loadServiceLimit_moves s t limit).trans (updTurbine_moves _ t (fun r => { r with service := true }))
    exact (((hon.trans (vibServiceBegun_moves ..)).trans (withdraw_moves ..)).trans (discardBlock_moves ..)).trans
      (computeAdvice_moves ..)

theorem endServiceOn_moves (s : State) (t : Tid) : Moves s (endServiceOn s t) := by
  unfold endServiceOn
  exact .ite ((((updTurbine_moves ..).trans (vibServiceEnded_moves ..)).trans (computeAdvice_moves ..)).trans
    (requestBlanking_moves ..)) (.refl s)

theorem serviceOverrun_moves (s : State) (t : Tid) : Moves s (serviceOverrun s t) := by
  unfold serviceOverrun
  exact .ite (updTurbine_moves ..) ((updTurbine_moves ..).raised ..)

/-! ## The Speed Tracker -/

theorem becomeUnreliable_moves (s : State) (t : Tid) (count expected : Nat) : Moves s (becomeUnreliable s t count expected) :=
  ((updSpeed_moves ..).raised ..).trans (vibTrackingLost_moves ..)

theorem slipInTracking_moves (s : State) (t : Tid) (count expected : Nat) : Moves s (slipInTracking s t count expected) := by
  unfold slipInTracking
  have hslip := (updSpeed_moves s t (fun r => { r with consecSlips := r.consecSlips + 1 })).trans (vibSlip_moves _ t)
  exact .ite (hslip.trans (becomeUnreliable_moves ..)) hslip

theorem judgeAcquiring_moves (s : State) (t : Tid) (b ref : Time) (correct : Bool) :
    Moves s (judgeAcquiring s t b ref correct) := by
  unfold judgeAcquiring
  exact .ite ((updSpeed_moves ..).trans (vibBoundary_moves ..)) (updSpeed_moves ..)

theorem goodInTracking_moves (s : State) (t : Tid) (b ref : Time) : Moves s (goodInTracking s t b ref) := by
  unfold goodInTracking
  refine Moves.trans (Moves.trans (Moves.trans ?step (updSpeed_moves ..)) (vibRevolution_moves ..)) (countRevolution_moves ..)
  case step => exact .ite ((vibStep_moves ..).trans (requestBlanking_moves ..)) (.refl s)

theorem judgeUnreliable_moves (s : State) (t : Tid) (b ref : Time) (correct : Bool) :
    Moves s (judgeUnreliable s t b ref correct) := by
  unfold judgeUnreliable
  exact .ite
    (.ite ((((updSpeed_moves ..).trans (updSpeed_moves ..)).raised ..).trans (vibBoundary_moves ..)) (updSpeed_moves ..))
    (updSpeed_moves ..)

theorem judge_moves (s : State) (t : Tid) (b ref : Time) (count expected : Nat) : Moves s (judge s t b ref count expected) := by
  unfold judge
  dsimp only
  split
  · exact judgeAcquiring_moves ..
  · exact .ite (goodInTracking_moves ..) ((updSpeed_moves ..).trans (slipInTracking_moves ..))
  · exact judgeUnreliable_moves ..
  · exact .refl s
  · exact .refl s

theorem boundaryAt_moves (s : State) (t : Tid) (b : Time) (expected : Nat) : Moves s (boundaryAt s t b expected) := by
  unfold boundaryAt
  refine Moves.trans ?judged (updSpeed_moves ..)
  case judged =>
    split
    · exact judge_moves ..
    · exact .refl s

theorem missingMarker_moves (s : State) (t : Tid) (count expected : Nat) : Moves s (missingMarker s t count expected) := by
  unfold missingMarker
  dsimp only
  split
  · exact (updSpeed_moves ..).trans (slipInTracking_moves ..)
  · exact (updSpeed_moves ..).trans (updSpeed_moves ..)
  · exact updSpeed_moves ..
  · exact updSpeed_moves ..
  · exact updSpeed_moves ..

theorem takeMarker_moves (s : State) (t : Tid) (b : Time) (expected : Nat) : Moves s (takeMarker s t b expected) := by
  unfold takeMarker
  exact .ite (updSpeed_moves ..) ((updSpeed_moves ..).trans (boundaryAt_moves ..))

theorem actCounted_moves (s : State) (t : Tid) (e : StreamEntry) (b : Time) : Moves s (actCounted s t e b) := by
  unfold actCounted
  exact .ite (.ite (missingMarker_moves ..) (.refl s)) (.ite (boundaryAt_moves ..) (.refl s))

theorem takeCounted_moves (s : State) (t : Tid) (e : StreamEntry) (b : Time) : Moves s (takeCounted s t e b) := by
  unfold takeCounted
  exact .ite (updSpeed_moves ..) (.ite (updSpeed_moves ..) ((updSpeed_moves ..).trans (actCounted_moves ..)))

theorem takeEdge_moves (t : Tid) (e : StreamEntry) (stamp : Nat) (s : State) (x : EdgeRec) :
    Moves s (takeEdge t e stamp s x) := by
  unfold takeEdge
  split
  · exact takeMarker_moves ..
  · exact takeCounted_moves ..
  · exact .refl s

theorem speedData_moves (s : State) (t : Tid) (e : StreamEntry) (stamp : Nat) (xs : List EdgeRec) :
    Moves s (speedData s t e stamp xs) := .foldl (takeEdge_moves t e stamp) _ _

theorem tellLost_moves (was : SpeedState) (s : State) (t : Tid) : Moves s (tellLost was s t) := by
  unfold tellLost
  exact .ite (vibTrackingLost_moves ..) (.refl s)

theorem speedLive_moves (s : State) (t : Tid) : Moves s (speedLive s t) := by
  unfold speedLive
  exact .ite (updSpeed_moves ..) (.refl s)

theorem speedGap_moves (s : State) (t : Tid) : Moves s (speedGap s t) := by
  unfold speedGap
  exact .ite (.refl s) ((updSpeed_moves ..).trans (tellLost_moves ..))

theorem speedEnded_moves (s : State) (t : Tid) : Moves s (speedEnded s t) := (updSpeed_moves ..).trans (tellLost_moves ..)

theorem stopExpired_moves (s : State) (t : Tid) : Moves s (stopExpired s t) := (updSpeed_moves ..).trans (tellLost_moves ..)

/-! ## The Stream Classifier -/

theorem tellLive_moves (s : State) (i : SlotId) (e : StreamEntry) : Moves s (tellLive s i e) := by
  unfold tellLive
  split
  · exact speedLive_moves ..
  · exact iceLive_moves ..
  · exact harmLive_moves ..
  · exact harmLive_moves ..
  · exact harmLive_moves ..
  · exact .refl s

theorem tellGap_moves (s : State) (i : SlotId) (e : StreamEntry) : Moves s (tellGap s i e) := by
  unfold tellGap
  split
  · exact vibGap_moves ..
  · exact speedGap_moves ..
  · exact harmGap_moves ..
  · exact harmGap_moves ..
  · exact harmGap_moves ..
  · exact .refl s

theorem tellData_moves (s : State) (i : SlotId) (e : StreamEntry) (stamp : Nat) (d : FrameData) :
    Moves s (tellData s i e stamp d) := by
  unfold tellData
  split
  · exact vibData_moves ..
  · exact speedData_moves ..
  · exact (operReport_moves ..).trans (iceReport_moves ..)
  · exact harmData_moves ..
  · exact harmData_moves ..
  · exact harmData_moves ..
  · exact .refl s

theorem tellEnded_moves (s : State) (i : SlotId) (e : StreamEntry) (c : EndCause) : Moves s (tellEnded s i e c) := by
  unfold tellEnded
  split
  · exact vibEnded_moves ..
  · exact speedEnded_moves ..
  · exact (operEnded_moves ..).trans (iceEnded_moves ..)
  · exact harmEnded_moves ..
  · exact harmEnded_moves ..
  · exact harmEnded_moves ..
  · exact .refl s

theorem endIfLive_moves (was : StreamState) (s : State) (i : SlotId) (e : StreamEntry) (c : EndCause) :
    Moves s (endIfLive was s i e c) := by
  unfold endIfLive
  exact .ite (tellEnded_moves ..) (.refl s)

theorem disposeFrame_moves (s : State) (i : SlotId) (e : StreamEntry) (f : Frame) : Moves s (disposeFrame s i e f) := by
  unfold disposeFrame
  exact .ite ((updSlot_moves ..).trans (.offerTransit ..)) (updSlot_moves ..)

theorem byPolicy_moves (s : State) (f : Frame) : Moves s (byPolicy s f) := by
  unfold byPolicy
  split
  · exact .offerTransit ..
  · exact .refl s

theorem unknownFrame_moves (s : State) (f : Frame) : Moves s (unknownFrame s f) :=
  .trans (.blocks ⟨_, _, _, _, _, _, _, _, _, rfl⟩) (byPolicy_moves ..)

theorem mismatchedFrame_moves (s : State) (f : Frame) : Moves s (mismatchedFrame s f) :=
  .trans (.blocks ⟨_, _, _, _, _, _, _, _, _, rfl⟩) (byPolicy_moves ..)

theorem faultyFrame_moves (s : State) (i : SlotId) (e : StreamEntry) (f : Frame) (d : Option FrameData) :
    Moves s (faultyFrame s i e f d) := (updSlot_moves ..).trans (disposeFrame_moves ..)

theorem becomeFaulty_moves (s : State) (i : SlotId) (e : StreamEntry) (f : Frame) (d : Option FrameData)
    (why : FaultyReason) : Moves s (becomeFaulty s i e f d why) :=
  (((updSlot_moves ..).raised ..).trans (endIfLive_moves ..)).trans (faultyFrame_moves ..)

theorem handOn_moves (s : State) (i : SlotId) (e : StreamEntry) (f : Frame) (d : Option FrameData) :
    Moves s (handOn s i e f d) := by
  unfold handOn
  refine Moves.trans ?told (disposeFrame_moves ..)
  case told =>
    split
    · exact tellData_moves ..
    · exact tellGap_moves ..

theorem firstFrame_moves (s : State) (i : SlotId) (e : StreamEntry) (f : Frame) (d : Option FrameData) :
    Moves s (firstFrame s i e f d) := ((updSlot_moves ..).trans (tellLive_moves ..)).trans (handOn_moves ..)

theorem frameAfterSilence_moves (s : State) (i : SlotId) (e : StreamEntry) (f : Frame) (d : Option FrameData) :
    Moves s (frameAfterSilence s i e f d) :=
  (((updSlot_moves ..).raised ..).trans (tellLive_moves ..)).trans (handOn_moves ..)

theorem staleFrame_moves (s : State) (i : SlotId) (e : StreamEntry) (f : Frame) : Moves s (staleFrame s i e f) := by
  unfold staleFrame
  exact .ite ((updSlot_moves ..).trans (.offerTransit ..)) (updSlot_moves ..)

theorem liveFrame_moves (s : State) (i : SlotId) (e : StreamEntry) (f : Frame) (d : Option FrameData) :
    Moves s (liveFrame s i e f d) := by
  unfold liveFrame
  refine .ite ((updSlot_moves ..).trans (handOn_moves ..)) (.ite ?gap (staleFrame_moves ..))
  case gap => exact (((updSlot_moves ..).trans (tellGap_moves ..)).raised ..).trans (handOn_moves ..)

theorem heldFrame_moves (s : State) (i : SlotId) (f : Frame) (d : Option FrameData) : Moves s (heldFrame s i f d) :=
  (updSlot_moves ..).trans (.offerTransit ..)

theorem afterReference_moves {s good : State} (h : Moves s good) (i : SlotId) (e : StreamEntry) (f : Frame)
    (d : Option FrameData) : Moves s (afterReference s i e f d good) := by
  unfold afterReference
  split
  · exact becomeFaulty_moves ..
  · exact h

theorem streamFrame_moves (s : State) (i : SlotId) (e : StreamEntry) (f : Frame) : Moves s (streamFrame s i e f) := by
  unfold streamFrame
  dsimp only
  split
  · exact .refl s
  · exact afterReference_moves (firstFrame_moves ..) ..
  · exact afterReference_moves (liveFrame_moves ..) ..
  · exact afterReference_moves (frameAfterSilence_moves ..) ..
  · exact faultyFrame_moves ..
  · exact heldFrame_moves ..

theorem classify_moves (s : State) (f : Frame) : Moves s (classify s f) := by
  unfold classify
  dsimp only
  split
  · exact unknownFrame_moves ..
  · split
    · exact unknownFrame_moves ..
    · exact .ite (streamFrame_moves ..) (mismatchedFrame_moves ..)

theorem becomeSilent_moves (s : State) (i : SlotId) (e : StreamEntry) : Moves s (becomeSilent s i e) :=
  ((updSlot_moves ..).raised ..).trans (tellEnded_moves ..)

theorem holdSlot_moves (s : State) (i : SlotId) (e : StreamEntry) : Moves s (holdSlot s i e) :=
  (updSlot_moves ..).trans (endIfLive_moves ..)

/-! ## Changeovers and what a commit tells -/

theorem leaveOld_moves (s : State) (i : SlotId) : Moves s (leaveOld s i) := by
  unfold leaveOld
  split
  · exact endIfLive_moves ..
  · exact .refl s

theorem takeStaged_moves (s : State) (i : SlotId) : Moves s (takeStaged s i) := by
  unfold takeStaged
  have htaken := (updSlot_moves s i (fun x => slotTaking x (stagedAt s i))).trans (setVib_moves _ i (recordFor s (stagedAt s i)))
  exact .ite (htaken.trans (setHarm_moves ..)) htaken

theorem changeOver_moves (s : State) (g : List SlotId) : Moves s (changeOver s g) :=
  ((Moves.foldl leaveOld_moves _ _).trans (.foldl takeStaged_moves _ _)).trans (.foldl formGrades_moves _ _)

theorem bandsChanged_moves (s : State) (immediate : Bool) (slots : List SlotId) : Moves s (bandsChanged s immediate slots) :=
  (Moves.foldl (resetForSet_moves immediate) _ _).trans (.foldl formGrades_moves _ _)

theorem curvesChanged_moves (s : State) : Moves s (curvesChanged s) := .foldl (discardBlock_moves .curve) _ _

theorem settingsChanged_moves (s : State) (old : Settings) : Moves s (settingsChanged s old) := by
  unfold settingsChanged
  have hheld : Moves s (allTurbines.foldl (holdSettingAt old) (clampEvidence (trimRequests s))) :=
    ((trimRequests_moves s).write ⟨_, _, _, _, _, _, _, _, _, rfl⟩).trans (.foldl (fun _ _ => tellHold_moves ..) _ _)
  exact .ite hheld (hheld.trans (computeAllAdvice_moves _))

/-! ## Steps that wait for their command -/

theorem takeSilence_moves (s : State) (i : SlotId) : Moves s (takeSilence s i) := by
  unfold takeSilence
  split
  · exact becomeSilent_moves ..
  · exact .refl s

theorem takeServiceLimit_moves (s : State) (t : Tid) : Moves s (takeServiceLimit s t) := by
  unfold takeServiceLimit
  exact .ite (serviceOverrun_moves ..) (.refl s)

theorem takeBlanking_moves (s : State) (t : Tid) : Moves s (takeBlanking s t) := by
  unfold takeBlanking
  exact .ite (updTurbine_moves ..) (.refl s)

theorem takeStop_moves (s : State) (t : Tid) : Moves s (takeStop s t) := by
  unfold takeStop
  exact .ite (stopExpired_moves ..) (.refl s)

theorem takeThaw_moves (s : State) (t : Tid) : Moves s (takeThaw s t) := by
  unfold takeThaw
  exact .ite (thawReached_moves ..) (.refl s)

theorem takeRefresh_moves (s : State) (t : Tid) : Moves s (takeRefresh s t) := by
  unfold takeRefresh
  exact .ite (refreshAdvice_moves ..) (.refl s)

theorem takeCarries_moves (s : State) (t : Tid) : Moves s (takeCarries s t) :=
  ((takeCarry_moves ..).trans (takeCarry_moves ..)).trans (takeCarry_moves ..)

theorem endAtRestart_moves (s : State) (i : SlotId) : Moves s (endAtRestart s i) := by
  unfold endAtRestart
  split
  · exact endIfLive_moves ..
  · exact .refl s

/-! ## What a move leaves unchanged -/

/-- The parts that no notice writes: they are as they were. -/
structure Beside (s t : State) : Prop where
  standing : t.standing = s.standing
  node : t.node = s.node
  umgt : t.umgt = s.umgt
  replySeq : t.replySeq = s.replySeq
  active : t.active = s.active
  staged : t.staged = s.staged
  clock : t.clock = s.clock
  store : t.store = s.store
  image : t.image = s.image
  cmd : t.cmd = s.cmd
  pending : t.pending = s.pending

theorem Beside.refl (s : State) : Beside s s := ⟨rfl, rfl, rfl, rfl, rfl, rfl, rfl, rfl, rfl, rfl, rfl⟩

theorem Beside.trans {s t u : State} (h : Beside s t) (k : Beside t u) : Beside s u :=
  ⟨k.standing.trans h.standing, k.node.trans h.node, k.umgt.trans h.umgt, k.replySeq.trans h.replySeq,
    k.active.trans h.active, k.staged.trans h.staged, k.clock.trans h.clock, k.store.trans h.store,
    k.image.trans h.image, k.cmd.trans h.cmd, k.pending.trans h.pending⟩

/-- A discarded vibration record writes the Vibration Watch and raises. -/
theorem vibDiscarded_beside (s : State) (r : VibRecord) : Beside s (vibDiscarded s r) := by
  obtain ⟨_, _, _, h⟩ := vibDiscarded_only s r
  rw [h]
  exact ⟨rfl, rfl, rfl, rfl, rfl, rfl, rfl, rfl, rfl, rfl, rfl⟩

theorem startVib_beside (s : State) (r : VibRecord) (rest : List VibRecord) : Beside s (startVib s r rest) := by
  unfold startVib
  dsimp only
  split
  · exact ⟨rfl, rfl, rfl, rfl, rfl, rfl, rfl, rfl, rfl, rfl, rfl⟩
  · refine .trans ?_ (vibDiscarded_beside _ r)
    exact ⟨rfl, rfl, rfl, rfl, rfl, rfl, rfl, rfl, rfl, rfl, rfl⟩

theorem startHarm_beside (s : State) (r : HarmRecord) (rest : List HarmRecord) : Beside s (startHarm s r rest) := by
  unfold startHarm
  dsimp only
  split <;> exact ⟨rfl, rfl, rfl, rfl, rfl, rfl, rfl, rfl, rfl, rfl, rfl⟩

theorem engineOnce_beside (s : State) : Beside s (engineOnce s) := by
  unfold engineOnce
  split
  · split
    · exact startHarm_beside ..
    · exact startVib_beside ..
  · exact startHarm_beside ..
  · exact startVib_beside ..
  · exact .refl s

theorem engineLoop_beside (k : Nat) (s : State) : Beside s (engineLoop k s) := by
  induction k generalizing s with
  | zero => exact .refl s
  | succ k ih =>
    unfold engineLoop
    split
    · exact .refl s
    · exact (engineOnce_beside s).trans (ih _)

theorem engineLook_beside (s : State) : Beside s (engineLook s) := engineLoop_beside _ s

theorem queueVib_beside (s : State) (r : VibRecord) : Beside s (queueVib s r) := by
  unfold queueVib
  dsimp only
  split
  · refine .trans ?_ (engineLook_beside _)
    exact ⟨rfl, rfl, rfl, rfl, rfl, rfl, rfl, rfl, rfl, rfl, rfl⟩
  · refine .trans ?_ (vibDiscarded_beside _ r)
    exact ⟨rfl, rfl, rfl, rfl, rfl, rfl, rfl, rfl, rfl, rfl, rfl⟩

theorem queueHarm_beside (s : State) (r : HarmRecord) : Beside s (queueHarm s r) := by
  unfold queueHarm
  dsimp only
  split
  · refine .trans ?_ (engineLook_beside _)
    exact ⟨rfl, rfl, rfl, rfl, rfl, rfl, rfl, rfl, rfl, rfl, rfl⟩
  · exact ⟨rfl, rfl, rfl, rfl, rfl, rfl, rfl, rfl, rfl, rfl, rfl⟩

theorem offerTransit_beside (s : State) (p : Port) (f : Frame) : Beside s (offerTransit s p f) := by
  unfold offerTransit
  dsimp only
  split <;> exact ⟨rfl, rfl, rfl, rfl, rfl, rfl, rfl, rfl, rfl, rfl, rfl⟩

/-- A notice leaves what commands alone write. -/
theorem Moves.beside {s t : State} (h : Moves s t) : Beside s t := by
  induction h with
  | refl s => exact .refl s
  | trans _ _ h k => exact h.trans k
  | blocks h =>
    obtain ⟨_, _, _, _, _, _, _, _, _, rfl⟩ := h
    exact ⟨rfl, rfl, rfl, rfl, rfl, rfl, rfl, rfl, rfl, rfl, rfl⟩
  | raise => exact ⟨rfl, rfl, rfl, rfl, rfl, rfl, rfl, rfl, rfl, rfl, rfl⟩
  | offerAdvice => exact ⟨rfl, rfl, rfl, rfl, rfl, rfl, rfl, rfl, rfl, rfl, rfl⟩
  | offerTransit => exact offerTransit_beside ..
  | engineCounts => exact ⟨rfl, rfl, rfl, rfl, rfl, rfl, rfl, rfl, rfl, rfl, rfl⟩
  | queueVib => exact queueVib_beside ..
  | queueHarm => exact queueHarm_beside ..

end Sys2Proof.Machine
end

section
/-! PROOF. What a command can do to the part, said once for every command, and with it the invariants of a step: the queue of
commands (entry 1), the capacities (R54, R178, section 10.2), the IDLE engine (R56), ATTN (R166) and a waiting commit (R188). -/

namespace Sys2Proof.Machine

/-- The second state differs from the first in what commands alone write at most: standing, tables, clock, store and image, and
the Command Unit. -/
def OnlyOwn (s t : State) : Prop :=
  ∃ standing active staged clock store image cmd,
    t = { s with standing := standing, active := active, staged := staged, clock := clock, store := store, image := image,
                 cmd := cmd }

/-- What commands do to the part, one write after another. -/
inductive Does : State → State → Prop where
  | trans {s t u : State} (h : Does s t) (k : Does t u) : Does s u
  | moves {s t : State} (h : Moves s t) : Does s t
  | own {s t : State} (h : OnlyOwn s t) : Does s t
  | replyAs (s : State) (w : LocalKind) (o : Origin) (code : Nat) (x : Option (Reason × Nat)) (rs : List Byte) :
      Does s (replyAs s w o code x rs)
  | findingLook (s : State) : Does s (findingLook s)
  | placeOwedOne (s : State) (t : Tid) : Does s (placeOwedOne s t)
  | port (s : State) (p : Port) (r : PortRec) (hl : r.localQ.length ≤ (portOf s p).localQ.length)
      (ht : r.transit.length ≤ (portOf s p).transit.length) : Does s (setPort s p r)
  | findings (s : State) (fu : FindingUnit) (h : s.findings.queue.length ≤ findingCap → fu.queue.length ≤ findingCap) :
      Does s { s with findings := fu }
  | engineIdle (s : State) : Does s (engineIdle s)
  | engineEmpty (s : State) : Does s { s with engine := .reset }
  | powerOn (s : State) (st : Standing) (n : Nat) (m u d : Bool) (im : Image) :
      Does s (State.powerOn st n m u d im s.pending)

theorem Does.refl (s : State) : Does s s := .moves (.refl s)

/-- A fold of operations that commands are made of. -/
theorem Does.foldl {α : Type} {f : State → α → State} (h : ∀ s a, Does s (f s a)) (l : List α) (s : State) :
    Does s (l.foldl f s) := by
  induction l generalizing s with
  | nil => exact .refl s
  | cons a l ih => exact (h s a).trans (ih (f s a))

/-- A choice between two operations that commands are made of. -/
theorem Does.ite {s t u : State} {c : Prop} [Decidable c] (h : Does s t) (k : Does s u) : Does s (if c then t else u) := by
  split
  · exact h
  · exact k

/-- A notice told after other writes. -/
theorem Does.then_moves {s t u : State} (h : Does s t) (k : Moves t u) : Does s u := h.trans (.moves k)

theorem setCmd_does (s : State) (c : UnitState) : Does s { s with cmd := c } := .own ⟨_, _, _, _, _, _, _, rfl⟩

theorem setClock_does (s : State) (c : Clock) : Does s { s with clock := c } := .own ⟨_, _, _, _, _, _, _, rfl⟩

theorem setStaged_does (s : State) (x : Staged) : Does s (setStaged s x) := .own ⟨_, _, _, _, _, _, _, rfl⟩

theorem setTables_does (s : State) (a : Active) (x : Staged) : Does s { s with active := a, staged := x } :=
  .own ⟨_, _, _, _, _, _, _, rfl⟩

/-! ## Replies -/

theorem replyDone_does (s : State) (o : Origin) (code : Nat) (rs : List Byte) : Does s (replyDone s o code rs) :=
  .replyAs ..

theorem replyRefused_does (s : State) (o : Origin) (code : Nat) (r : Reason) (d : Nat) :
    Does s (replyRefused s o code r d) := .replyAs ..

theorem badParam_does (s : State) (o : Origin) (code k : Nat) : Does s (badParam s o code k) := replyRefused_does ..

theorem badEntry_does (s : State) (o : Origin) (code k : Nat) : Does s (badEntry s o code k) := replyRefused_does ..

/-- A notice told and the reply DONE. -/
theorem Moves.replied {s t : State} (h : Moves s t) (o : Origin) (code : Nat) (rs : List Byte) :
    Does s (replyDone t o code rs) := (Does.moves h).trans (replyDone_does ..)

/-! ## The end of a step -/

theorem commitReply_does (s : State) (o : Origin) (changed forced : Nat) (flag : Bool) :
    Does s (commitReply s o changed forced flag) := replyDone_does ..

theorem endCommit_does (s : State) : Does s (endCommit s) := by
  unfold endCommit
  split
  · exact .ite ((setCmd_does ..).trans (commitReply_does ..)) (.refl s)
  · exact .refl s
  · exact .refl s
  · exact .refl s

theorem settleLoop_does (k : Nat) (s : State) : Does s (settleLoop k s) := by
  induction k generalizing s with
  | zero => exact .refl s
  | succ k ih =>
    unfold settleLoop
    split
    · split
      · exact ((setCmd_does ..).then_moves (changeOver_moves ..)).trans (ih _)
      · exact .refl s
    · exact .refl s
    · exact .refl s
    · exact .refl s

theorem settleCommit_does (s : State) : Does s (settleCommit s) := (settleLoop_does ..).trans (endCommit_does _)

theorem formAttn_does (s : State) : Does s (formAttn s) := .findings s _ (fun h => h)

theorem settle_does (s : State) : Does s (settle s) := (settleCommit_does s).trans (formAttn_does _)

/-! ## Commits -/

theorem limitsChanged_moves (s : State) : Moves s (limitsChanged s) := setGrid_moves ..

theorem applyTables_does (s : State) (immediate : Bool) (changed : List SlotId) :
    Does s (applyTables s immediate changed) := by
  unfold applyTables
  have hactive : Does s { s with
      active := activeOfStaged s, streams := { s.streams with gen := raisedGen (!changed.isEmpty) s.streams.gen } } :=
    Does.trans (.own ⟨_, activeOfStaged s, _, _, _, _, _, rfl⟩) (.moves (.blocks ⟨_, _, _, _, _, _, _, _, _, rfl⟩))
  have hbands := hactive.then_moves
    (bandsChanged_moves _ immediate (slotsReset s (allSets.filter (setDiffers s)) changed))
  have hlimits := fun x => Moves.ite (c := s.staged.limits = s.active.limits) (.refl x) (limitsChanged_moves x)
  have hcurves := fun x => Moves.ite (c := s.staged.curves = s.active.curves) (.refl x) (curvesChanged_moves x)
  exact ((hbands.then_moves (hlimits _)).then_moves (hcurves _)).then_moves (settingsChanged_moves ..)

theorem commitNow_does (s : State) (o : Origin) : Does s (commitNow s o) :=
  ((applyTables_does s true _).then_moves (.foldl (fun x i => changeOver_moves x [i]) _ _)).trans (commitReply_does ..)

theorem commitWaiting_does (s : State) (o : Origin) (ticks : Nat) : Does s (commitWaiting s o ticks) :=
  (applyTables_does s false _).trans (setCmd_does ..)

theorem forceCommit_does (s : State) (p : PendingCommit) : Does s (forceCommit s p) :=
  ((setCmd_does ..).then_moves (changeOver_moves ..)).trans (commitReply_does ..)

theorem commitChecked_does (o : Origin) (immediate : Bool) (ticks : Nat) (s : State) :
    Does s (commitChecked o immediate ticks s) := by
  unfold commitChecked
  split
  · exact replyRefused_does ..
  · exact .ite (commitNow_does ..) (commitWaiting_does ..)

/-! ## The store -/

theorem startWrite_does (s : State) : Does s (startWrite s) := .own ⟨_, _, _, _, _, _, _, rfl⟩

theorem requestCheckpoint_does (s : State) : Does s (requestCheckpoint s) := by
  unfold requestCheckpoint
  split
  · exact .refl s
  · exact startWrite_does s
  · exact startWrite_does s
  · exact .own ⟨_, _, _, _, _, _, _, rfl⟩

theorem afterWrite_does (s : State) (st : StoreState) : Does s (afterWrite s st) := by
  unfold afterWrite
  exact .ite (.own ⟨_, _, _, _, _, _, _, rfl⟩) (.own ⟨_, _, _, _, _, _, _, rfl⟩)

theorem endSave_does (s : State) (fault : Option Nat) : Does s (endSave s fault) := by
  unfold endSave
  split
  · split
    · exact (setCmd_does ..).trans (replyDone_does ..)
    · exact (setCmd_does ..).trans (replyRefused_does ..)
  · exact .refl s
  · exact .refl s
  · exact .refl s
  · exact .refl s

theorem writeCompleted_does (s : State) : Does s (writeCompleted s) := by
  unfold writeCompleted
  have hstore : Does s { s with store := { s.store with completed := bump s.store.completed, faultRaised := false } } :=
    .own ⟨_, _, _, _, _, _, _, rfl⟩
  exact ((hstore.trans (.ite (.moves (.raise ..)) (.refl _))).trans (endSave_does ..)).trans (afterWrite_does ..)

theorem writeFailed_does (s : State) (pos : Nat) : Does s (writeFailed s pos) := by
  unfold writeFailed
  have hstore : Does s { s with
      store := { s.store with failed := bump s.store.failed, failedPos := some pos, faultRaised := true } } :=
    .own ⟨_, _, _, _, _, _, _, rfl⟩
  exact ((hstore.trans (.ite (.refl _) (.moves (.raise ..)))).trans (endSave_does ..)).trans (afterWrite_does ..)

theorem recordWritten_does (s : State) (r : WriteResult) : Does s (recordWritten s r) := by
  unfold recordWritten
  split
  · split
    · refine .ite (.own ⟨_, _, _, _, _, _, _, rfl⟩) (Does.trans ?image (writeCompleted_does _))
      case image => exact .own ⟨_, _, _, _, _, _, _, rfl⟩
    · refine Does.trans ?_ (writeFailed_does ..)
      exact .own ⟨_, _, _, _, _, _, _, rfl⟩
  · exact .refl s
  · exact .refl s
  · exact .refl s

/-! ## Clock, findings, advice mode -/

theorem takeRollover_does (s : State) : Does s (takeRollover s) := by
  unfold takeRollover
  exact .ite (.ite ((setClock_does ..).then_moves (dayChange_moves _)) (setClock_does ..)) (.refl s)

theorem setClockOn_does (s : State) (day hour minute second tenth mode : Nat) :
    Does s (setClockOn s day hour minute second tenth mode) := by
  unfold setClockOn
  have hset := (takeRollover_does s).trans
    (setClock_does _ (setClockTo (takeRollover s).clock day hour minute second tenth mode))
  exact .ite (hset.then_moves (dayChange_moves _)) hset

theorem holdClockOn_does (s : State) : Does s (holdClockOn s) := (takeRollover_does s).trans (setClock_does ..)

theorem releaseClockOn_does (s : State) : Does s (releaseClockOn s) := by
  unfold releaseClockOn
  exact .ite (setClock_does ..) ((setClock_does ..).then_moves (dayChange_moves _))

/-- A mask set keeps the Finding Queue within its capacity. -/
theorem maskedUnit_bound (st : Stamp) (fu : FindingUnit) (k : FindingKind) (on : Bool) (h : fu.queue.length ≤ findingCap) :
    (maskedUnit st fu k on).queue.length ≤ findingCap := by
  unfold maskedUnit
  dsimp only
  split
  · split
    · exact checkLost_bound _ _ h
    · exact h
  · split
    · exact checkLost_bound _ _ ((List.length_filter_le _ _).trans h)
    · exact h

theorem setMask_does (s : State) (k : FindingKind) (on : Bool) : Does s (setMask s k on) := by
  unfold setMask
  exact .ite (.refl s) ((Does.findings s _ (maskedUnit_bound _ _ _ _)).trans (.findingLook _))

theorem setAdviceMode_moves (s : State) (active : Bool) : Moves s (setAdviceMode s active) := by
  unfold setAdviceMode
  exact .ite (.refl s) (.trans (.blocks ⟨_, _, _, _, _, _, _, _, _, rfl⟩) (computeAllAdvice_moves _))

/-! ## The management commands -/

theorem forTurbine_does {s : State} {f : Tid → State} (h : ∀ t, Does s (f t)) (o : Origin) (code k : Nat) :
    Does s (forTurbine s o code k f) := by
  unfold forTurbine
  split
  · exact h _
  · exact badParam_does ..

theorem forSlot_does {s : State} {f : SlotId → State} (h : ∀ i, Does s (f i)) (o : Origin) (code k : Nat) :
    Does s (forSlot s o code k f) := by
  unfold forSlot
  split
  · exact h _
  · exact badParam_does ..

theorem forItem_does {s : State} {f : ItemId → State} (h : ∀ i, Does s (f i)) (o : Origin) (code k : Nat) :
    Does s (forItem s o code k f) := by
  unfold forItem
  split
  · exact h _
  · exact badParam_does ..

theorem readBandsOf_does (o : Origin) (s : State) (i : SlotId) : Does s (readBandsOf o s i) := by
  unfold readBandsOf
  split
  · split
    · exact replyDone_does ..
    · exact badParam_does ..
  · exact badParam_does ..

theorem doLoadStream_does (o : Origin) (es : List RawEntry) (s : State) : Does s (doLoadStream o es s) := by
  unfold doLoadStream
  refine .ite (badParam_does ..) ?checked
  case checked =>
    split
    · exact badEntry_does ..
    · exact (setStaged_does ..).trans (replyDone_does ..)

theorem doDropStream_does (o : Origin) (ks : List Nat) (s : State) : Does s (doDropStream o ks s) := by
  unfold doDropStream
  refine .ite (badParam_does ..) ?checked
  case checked =>
    split
    · exact badParam_does ..
    · exact (setStaged_does ..).trans (replyDone_does ..)

theorem doLoadBandset_does (o : Origin) (k : Nat) (st : RawSetSettings) (bs : List RawBand) (s : State) :
    Does s (doLoadBandset o k st bs s) := by
  unfold doLoadBandset
  split
  · exact badParam_does ..
  · refine .ite (badParam_does ..) (.ite (badEntry_does ..) ?checked)
    case checked =>
      split
      · exact badEntry_does ..
      · exact (setStaged_does ..).trans (replyDone_does ..)

theorem doLoadLimits_does (o : Origin) (ls : List RawLimit) (s : State) : Does s (doLoadLimits o ls s) := by
  unfold doLoadLimits
  refine .ite (badParam_does ..) ?checked
  case checked =>
    split
    · exact badEntry_does ..
    · exact (setStaged_does ..).trans (replyDone_does ..)

theorem doLoadCurve_does (o : Origin) (c : Nat) (bs : List Nat) (s : State) : Does s (doLoadCurve o c bs s) := by
  unfold doLoadCurve
  refine .ite (badParam_does ..) ?checked
  case checked =>
    split
    · exact badParam_does ..
    · split
      · exact badEntry_does ..
      · exact (setStaged_does ..).trans (replyDone_does ..)

theorem doLoadSettings_does (o : Origin) (ns : List Nat) (s : State) : Does s (doLoadSettings o ns s) := by
  unfold doLoadSettings
  refine .ite (badParam_does ..) ?checked
  case checked =>
    split
    · exact badEntry_does ..
    · exact (setStaged_does ..).trans (replyDone_does ..)

theorem doCommit_does (o : Origin) (m t : Nat) (s : State) : Does s (doCommit o m t s) := by
  unfold doCommit
  refine .ite (badParam_does ..) ?mode
  case mode =>
    split
    · exact badParam_does ..
    · exact commitChecked_does ..

theorem doLoadTurbine_does (o : Origin) (k p c r : Nat) (s : State) : Does s (doLoadTurbine o k p c r s) := by
  unfold doLoadTurbine
  refine forTurbine_does (fun t => ?_) ..
  split
  · exact badParam_does ..
  · exact .ite (badParam_does ..) (.ite (badParam_does ..) ((loadConfiguration_moves ..).replied ..))
  · exact (loadConfiguration_moves ..).replied ..

theorem holdStreamOf_does (o : Origin) (s : State) (i : SlotId) : Does s (holdStreamOf o s i) := by
  unfold holdStreamOf
  split
  · exact (holdSlot_moves ..).replied ..
  · exact (holdSlot_moves ..).replied ..
  · exact (holdSlot_moves ..).replied ..
  · exact replyDone_does ..
  · exact badParam_does ..

theorem resumeStreamOf_does (o : Origin) (s : State) (i : SlotId) : Does s (resumeStreamOf o s i) := by
  unfold resumeStreamOf
  split
  · exact badParam_does ..
  · exact (updSlot_moves ..).replied ..
  · exact replyDone_does ..
  · exact replyDone_does ..
  · exact replyDone_does ..
  · exact replyDone_does ..

theorem doBeginService_does (o : Origin) (k l : Nat) (s : State) : Does s (doBeginService o k l s) :=
  forTurbine_does (fun _ => .ite (badParam_does ..) (.ite (replyRefused_does ..) ((beginServiceOn_moves ..).replied ..))) ..

theorem triggerOn_does (o : Origin) (s : State) (t : Tid) (i : SlotId) : Does s (triggerOn o s t i) := by
  unfold triggerOn
  exact .ite (replyRefused_does ..) (.ite (replyRefused_does ..) (.ite (badParam_does ..) (.ite (badParam_does ..)
    (.ite (replyRefused_does ..) ((updVib_moves ..).replied ..)))))

theorem doTriggerWindow_does (o : Origin) (k i : Nat) (s : State) : Does s (doTriggerWindow o k i s) := by
  unfold doTriggerWindow
  refine forTurbine_does (fun t => ?_) ..
  split
  · exact badParam_does ..
  · exact triggerOn_does ..

theorem loadItemAt_does (o : Origin) (s : State) (i : ItemId) (t : Tid) (b : Basis) (r : RawItem) :
    Does s (loadItemAt o s i t b r) := by
  unfold loadItemAt
  exact .ite (replyRefused_does ..) (.ite (replyRefused_does ..)
    (((putItem_moves ..).trans (evaluateItem_moves ..)).replied ..))

theorem doLoadItem_does (o : Origin) (k : Nat) (r : RawItem) (s : State) : Does s (doLoadItem o k r s) := by
  unfold doLoadItem
  refine .ite (badParam_does ..) ?checked
  case checked =>
    split
    · exact loadItemAt_does ..
    · exact badParam_does ..
    · exact badParam_does ..

theorem signOffAt_does (o : Origin) (s : State) (i : ItemId) : Does s (signOffAt o s i) := by
  unfold signOffAt
  split
  · exact badParam_does ..
  · refine .ite (replyRefused_does ..) (.ite (replyRefused_does ..) ?signed)
    case signed =>
      exact ((Does.moves ((putItem_moves ..).trans (evaluateItem_moves ..))).trans (requestCheckpoint_does _)).trans
        (replyDone_does ..)

theorem setCounterOf_does (o : Origin) (s : State) (t : Tid) (b : Basis) (v : Nat) : Does s (setCounterOf o s t b v) := by
  unfold setCounterOf
  exact .ite (replyRefused_does ..) (.ite (replyRefused_does ..)
    (((updUsage_moves ..).trans (counterAdvance_moves ..)).replied ..))

theorem doSetCounter_does (o : Origin) (k c v : Nat) (s : State) : Does s (doSetCounter o k c v s) := by
  unfold doSetCounter
  refine forTurbine_does (fun t => ?_) ..
  split
  · exact badParam_does ..
  · exact .ite (badParam_does ..) (setCounterOf_does ..)

theorem doClearGrid_does (o : Origin) (s : State) : Does s (doClearGrid o s) := by
  unfold doClearGrid
  split
  · exact (releaseGrid_moves ..).replied ..
  · exact (setGrid_moves ..).replied ..
  · exact replyDone_does ..
  · exact replyDone_does ..

theorem doSetClock_does (o : Origin) (d h m sec t mode : Nat) (s : State) : Does s (doSetClock o d h m sec t mode s) := by
  unfold doSetClock
  split
  · exact badParam_does ..
  · exact (setClockOn_does ..).trans (replyDone_does ..)

theorem doHoldClock_does (o : Origin) (s : State) : Does s (doHoldClock o s) := by
  unfold doHoldClock
  split
  · exact replyRefused_does ..
  · exact (holdClockOn_does _).trans (replyDone_does ..)
  · exact replyDone_does ..

theorem doReleaseClock_does (o : Origin) (s : State) : Does s (doReleaseClock o s) := by
  unfold doReleaseClock
  split
  · exact replyRefused_does ..
  · exact (releaseClockOn_does _).trans (replyDone_does ..)
  · exact replyDone_does ..

theorem doSaveCounters_does (o : Origin) (s : State) : Does s (doSaveCounters o s) := by
  unfold doSaveCounters
  exact .ite (replyRefused_does ..) ((setCmd_does ..).trans (requestCheckpoint_does _))

theorem doSetFindingMask_does (o : Origin) (k v : Nat) (s : State) : Does s (doSetFindingMask o k v s) := by
  unfold doSetFindingMask
  split
  · exact badParam_does ..
  · split
    · exact badParam_does ..
    · exact (setMask_does ..).trans (replyDone_does ..)

/-- What the Command Unit does past its checks, for every command of R192. -/
theorem doCommand_does (c : Instr) (s : State) : Does s (doCommand c s) := by
  cases c <;> unfold doCommand
  case readStatus => exact replyDone_does ..
  case readStream => exact forSlot_does (fun _ => replyDone_does ..) ..
  case readTurbine => exact .ite (replyDone_does ..) (forTurbine_does (fun _ => replyDone_does ..) ..)
  case readSpeed => exact forTurbine_does (fun _ => replyDone_does ..) ..
  case readBands => exact forSlot_does (readBandsOf_does _ _) ..
  case readGrid => exact replyDone_does ..
  case readContributors => exact replyDone_does ..
  case readIce => exact forTurbine_does (fun _ => replyDone_does ..) ..
  case readItem => exact forItem_does (fun _ => replyDone_does ..) ..
  case readCounters => exact forTurbine_does (fun _ => replyDone_does ..) ..
  case loadStream => exact doLoadStream_does ..
  case dropStream => exact doDropStream_does ..
  case loadBandset => exact doLoadBandset_does ..
  case loadLimits => exact doLoadLimits_does ..
  case loadCurve => exact doLoadCurve_does ..
  case loadSettings => exact doLoadSettings_does ..
  case discardStage => exact (setStaged_does ..).trans (replyDone_does ..)
  case commit => exact doCommit_does ..
  case loadTurbine => exact doLoadTurbine_does ..
  case holdStream => exact forSlot_does (holdStreamOf_does _ _) ..
  case resumeStream => exact forSlot_does (resumeStreamOf_does _ _) ..
  case beginService => exact doBeginService_does ..
  case endService => exact forTurbine_does (fun _ => (endServiceOn_moves ..).replied ..) ..
  case triggerWindow => exact doTriggerWindow_does ..
  case loadItem => exact doLoadItem_does ..
  case clearItem => exact forItem_does (fun _ => (putItem_moves ..).replied ..) ..
  case signOff => exact forItem_does (signOffAt_does _ _) ..
  case setCounter => exact doSetCounter_does ..
  case declareIce =>
    exact forTurbine_does (fun _ => .ite (replyRefused_does ..) ((declareIced_moves ..).replied ..)) ..
  case declareClear =>
    exact forTurbine_does (fun _ => .ite (replyRefused_does ..) ((declareCleared_moves ..).replied ..)) ..
  case clearGrid => exact doClearGrid_does ..
  case setClock => exact doSetClock_does ..
  case holdClock => exact doHoldClock_does ..
  case releaseClock => exact doReleaseClock_does ..
  case saveCounters => exact doSaveCounters_does ..
  case setFindingMask => exact doSetFindingMask_does ..
  case adviceMode => exact .ite (badParam_does ..) ((setAdviceMode_moves ..).replied ..)
  case restart => exact (Does.replyAs ..).trans (setCmd_does ..)
  all_goals exact .refl s

theorem takeCommand_does {body : State → State} (h : ∀ s, Does s (body s)) (o : Origin) (code : Nat) (s : State) :
    Does s (takeCommand o code body s) := by
  unfold takeCommand
  exact .ite (replyRefused_does ..) (.ite (h s) (replyRefused_does ..))

theorem doParsed_does (o : Origin) (code : Nat) (x : Parsed) (s : State) : Does s (doParsed o code x s) := by
  cases x with
  | unknown => exact replyRefused_does ..
  | badLength => exact badParam_does ..
  | command c => exact doCommand_does c s

theorem commandPayload_does (p : Port) (body : List Byte) (s : State) : Does s (commandPayload p body s) := by
  unfold commandPayload
  exact .ite (takeCommand_does (fun _ => badParam_does ..) ..) (takeCommand_does (doParsed_does _ _ _) ..)

/-! ## Start-up, links and transmitters -/

/-- A port given a record with its queues no longer. -/
theorem updPort_does (s : State) (p : Port) (f : PortRec → PortRec) (hl : ∀ r, (f r).localQ = r.localQ)
    (ht : ∀ r, (f r).transit = r.transit) : Does s (updPort s p f) :=
  .port s p _ (by rw [hl]) (by rw [ht])

theorem lineLost_does (s : State) (p : Port) : Does s (lineLost s p) := by
  unfold lineLost
  have hsignal := updPort_does s p (fun r => { r with signal := false }) (fun _ => rfl) (fun _ => rfl)
  refine .ite ((hsignal.trans ?down).then_moves (.raise ..)) hsignal
  case down => exact updPort_does _ p _ (fun _ => rfl) (fun _ => rfl)

theorem lineBack_does (s : State) (p : Port) : Does s (lineBack s p) := by
  unfold lineBack
  have hsignal := updPort_does s p (fun r => { r with signal := true }) (fun _ => rfl) (fun _ => rfl)
  refine .ite ((hsignal.trans ?up).then_moves (.raise ..)) hsignal
  case up => exact updPort_does _ p _ (fun _ => rfl) (fun _ => rfl)

theorem takeLinkState_does (s : State) (p : Port) : Does s (takeLinkState s p) := by
  unfold takeLinkState
  exact .ite (updPort_does _ p _ (fun _ => rfl) (fun _ => rfl)) (.moves (.raise ..))

theorem fillRestored_does (s : State) (n : Nat) : Does s (fillRestored s n) := by
  unfold fillRestored
  exact .ite (.moves (.blocks ⟨_, _, _, _, _, _, _, _, _, rfl⟩)) (.moves (.blocks ⟨_, _, _, _, _, _, _, _, _, rfl⟩))

theorem storeAfterRestore_does (s : State) (n : Nat) : Does s (storeAfterRestore s n) := by
  unfold storeAfterRestore
  split <;> exact .own ⟨_, _, _, _, _, _, _, rfl⟩

theorem restoreFinding_moves (s : State) (im : Image) (n : Nat) : Moves s (restoreFinding s im n) := by
  unfold restoreFinding
  split
  · exact .raise ..
  · exact .raise ..
  · exact .raise ..
  · exact .refl s

theorem restored_does (s : State) (n : Nat) : Does s (restored s n) :=
  ((fillRestored_does s n).trans (storeAfterRestore_does _ n)).then_moves
    ((restoreFinding_moves _ _ _).trans (.foldl evaluateItem_moves _ _))

theorem restoreEnded_does (s : State) (n : Nat) : Does s (restoreEnded s n) := by
  unfold restoreEnded
  have hstarted : Does s (raiseStarted (restored s n) s.image n) := (restored_does s n).then_moves (.raise ..)
  have hlinks := (hstarted.trans (takeLinkState_does _ .u)).trans (takeLinkState_does _ .d)
  exact (hlinks.trans (.own ⟨.active, _, _, _, _, _, _, rfl⟩)).trans (.findingLook _)

theorem received_does (s : State) (p : Port) (bytes : List Byte) : Does s (received s p bytes) := by
  unfold received route
  refine .ite (.ite (commandPayload_does ..) (.ite (.moves (classify_moves ..)) (.moves (.offerTransit ..)))) ?bad
  case bad => exact updPort_does _ p _ (fun _ => rfl) (fun _ => rfl)

theorem localLeft_does (s : State) (p : Port) (what : LocalKind) : Does s (localLeft s p what) := by
  unfold localLeft
  have hgone : Does s (if what = .restartReply then { s with cmd := replyGone s.cmd } else s) :=
    .ite (setCmd_does ..) (.refl s)
  dsimp only
  split
  · exact hgone.trans (.findingLook _)
  · exact hgone.trans (.foldl .placeOwedOne _ _)

theorem sendLocal_does (s : State) (p : Port) (f : LocalFrame) (rest : List LocalFrame) (run : Nat)
    (h : (portOf s p).localQ = f :: rest) : Does s (sendLocal s p f rest run) := by
  refine Does.trans ?sent (localLeft_does ..)
  case sent => exact .port s p _ (by simp [h]) le_rfl

theorem sendTransit_does (s : State) (p : Port) (f : Frame) (rest : List Frame) (h : (portOf s p).transit = f :: rest) :
    Does s (sendTransit s p f rest) := .port s p _ le_rfl (by simp [h])

theorem choose_does (s : State) (p : Port) : Does s (choose s p) := by
  unfold choose
  dsimp only
  split
  · next hl _ => exact sendLocal_does _ _ _ _ _ hl
  · next hl ht => exact .ite (sendLocal_does _ _ _ _ _ hl) (sendTransit_does _ _ _ _ ht)
  · next _ ht => exact sendTransit_does _ _ _ _ ht
  · exact .refl s

/-! ## The tick, the engine and the restart -/

theorem takeCheckpointHour_does (s : State) : Does s (takeCheckpointHour s) := by
  unfold takeCheckpointHour
  exact .ite ((setClock_does ..).trans (requestCheckpoint_does _)) (.refl s)

theorem takeInterval_does (s : State) : Does s (takeInterval s) := by
  unfold takeInterval
  exact .ite ((requestCheckpoint_does s).trans (.own ⟨_, _, _, _, _, _, _, rfl⟩)) (.refl s)

theorem takeCommitTimeout_does (s : State) : Does s (takeCommitTimeout s) := by
  unfold takeCommitTimeout
  split
  · exact .ite (forceCommit_does ..) (.refl s)
  · exact .refl s
  · exact .refl s
  · exact .refl s

theorem blocksRestarted_does (s : State) : Does s (blocksRestarted s) := by
  have hblocks : Moves s { s with
      streams := streamsRestarted s.streams, speeds := Vector.replicate 24 .reset,
      vib := { s.vib with recs := Vector.replicate 192 none }, harm := .reset, ice := mapTab iceRestarted s.ice } :=
    .blocks ⟨_, _, _, _, _, _, _, _, _, rfl⟩
  have htables := fun x : State => setTables_does x (activeRestarted s.active) { Staged.reset with settings := s.active.settings }
  have hcleared := ((Does.moves hblocks).trans (htables _)).trans (.engineEmpty _)
  have hu := hcleared.trans (.port _ .u (portRestarted s.portU) le_rfl le_rfl)
  exact hu.trans (.port _ .d (portRestarted s.portD) le_rfl le_rfl)

theorem restartNow_does (s : State) : Does s (restartNow s) := by
  unfold restartNow
  have hdropped : Moves s (dropWindows s) := .blocks ⟨_, _, _, _, _, _, _, _, _, rfl⟩
  have hcleared := (Does.moves (hdropped.trans (.foldl endAtRestart_moves allSlots _))).trans (blocksRestarted_does _)
  exact (hcleared.then_moves ((Moves.foldl formGrades_moves _ _).trans (computeAllAdvice_moves _))).trans (setCmd_does ..)

theorem takeRestart_does (s : State) : Does s (takeRestart s) := by
  unfold takeRestart
  exact .ite (restartNow_does s) (.refl s)

theorem takeAndSettle_does {α : Type} {f : State → α → State} (h : ∀ s a, Moves s (f s a)) (s : State) (a : α) :
    Does s (takeAndSettle f s a) := (Does.moves (h s a)).trans (settleCommit_does _)

theorem takeDue_does (s : State) : Does s (takeDue s) := by
  unfold takeDue
  have hstore := ((takeRollover_does s).trans (takeCheckpointHour_does _)).trans (takeInterval_does _)
  have hsilence := hstore.trans (.foldl (takeAndSettle_does takeSilence_moves) allSlots _)
  have hlimit := hsilence.trans (.foldl (takeAndSettle_does takeServiceLimit_moves) allTurbines _)
  have hblanking := hlimit.trans (.foldl (takeAndSettle_does takeBlanking_moves) allTurbines _)
  have hstop := hblanking.trans (.foldl (takeAndSettle_does takeStop_moves) allTurbines _)
  have hthaw := hstop.trans (.foldl (takeAndSettle_does takeThaw_moves) allTurbines _)
  have hrefresh := hthaw.trans (.foldl (takeAndSettle_does takeRefresh_moves) allTurbines _)
  have hcarries := hrefresh.then_moves (.foldl takeCarries_moves allTurbines _)
  exact (hcarries.trans (takeCommitTimeout_does _)).trans (takeRestart_does _)

theorem countTick_does (s : State) : Does s (countTick s) := by
  have hblocks : Does s { s with
      streams := { s.streams with slots := mapTab tickSlot s.streams.slots }, turbines := mapTab tickTurbine s.turbines,
      speeds := mapTab tickSpeed s.speeds, ice := mapTab (tickThaw s.active.settings) s.ice,
      usage := mapTab tickUsage s.usage, advice := { s.advice with recs := mapTab tickAdvice s.advice.recs } } :=
    .moves (.blocks ⟨_, _, _, _, _, _, _, _, _, rfl⟩)
  exact hblocks.trans (.own ⟨_, _, _, tickClock s.active.settings.ckptHour s.clock,
    { s.store with timer := tickTimer s.store.timer }, _, tickUnit s.cmd, rfl⟩)

theorem ticked_does (s : State) : Does s (ticked s) := by
  unfold ticked
  split
  · exact .refl s
  · exact .refl s
  · exact setClock_does ..
  · exact (takeDue_does s).trans (countTick_does _)

theorem deliverVib_moves (s : State) (r : VibRecord) : Moves s (deliverVib s r) := by
  unfold deliverVib
  refine .ite (vibResult_moves ..) (.trans ?_ (vibDiscarded_moves ..))
  exact .engineCounts s _ s.engine.harmCounts s.engine.omitted

theorem deliverHarm_moves (s : State) (r : HarmRecord) : Moves s (deliverHarm s r) := by
  unfold deliverHarm
  refine .ite (harmResult_moves ..) (.trans ?_ (harmDiscarded_moves _))
  exact .engineCounts s s.engine.vibCounts _ s.engine.omitted

theorem analysisDone_does (s : State) : Does s (analysisDone s) := by
  unfold analysisDone
  split
  · exact (Does.moves (deliverVib_moves ..)).trans (.engineIdle _)
  · exact (Does.moves (deliverHarm_moves ..)).trans (.engineIdle _)
  · exact .refl s

/-! ## Every command -/

/-- A command of R192 is taken by the Command Unit of the port that receives it, under its code. -/
theorem exec_command_does {c : Instr} {o : Origin} {code : Nat} {body : State → State} (s : State)
    (he : exec c s = command o code body s) (h : ∀ s, Does s (body s)) :
    (∃ u, Does s u ∧ exec c s = .next (settle u)) ∨ exec c s = .next s := by
  rw [he]
  unfold command
  split
  · exact .inl ⟨_, takeCommand_does h o code s, rfl⟩
  · exact .inr rfl

/-- An event acts where its condition holds and leaves the part otherwise (entry 3). -/
theorem exec_event_does {c : Instr} {s u : State} {b : Bool} (he : exec c s = onlyWhen b s u) (h : Does s u) :
    (∃ u, Does s u ∧ exec c s = .next (settle u)) ∨ exec c s = .next s := by
  rw [he]
  unfold onlyWhen
  split
  · exact .inl ⟨u, h, rfl⟩
  · exact .inr rfl

/-- Every command either does what commands are made of and settles, or leaves the part as it is. -/
theorem exec_does (c : Instr) (s : State) :
    (∃ u, Does s u ∧ exec c s = .next (settle u)) ∨ exec c s = .next s := by
  have hcommand := doCommand_does c
  cases c
  case resetAssert => exact exec_event_does rfl (.powerOn ..)
  case resetRelease => exact exec_event_does rfl (.powerOn ..)
  case restoreComplete => exact exec_event_does rfl (restoreEnded_does ..)
  case linkDown p => exact .inl ⟨_, lineLost_does s p, rfl⟩
  case linkUp p => exact .inl ⟨_, lineBack_does s p, rfl⟩
  case receiveFrame => exact exec_event_does rfl (received_does ..)
  case analysisComplete => exact exec_event_does rfl (analysisDone_does _)
  case tick => exact .inl ⟨_, ticked_does s, rfl⟩
  case silenceExpiry => exact exec_event_does rfl (.moves (takeSilence_moves ..))
  case serviceLimitExpiry => exact exec_event_does rfl (.moves (takeServiceLimit_moves ..))
  case blankingExpiry => exact exec_event_does rfl (.moves (takeBlanking_moves ..))
  case stopExpiry => exact exec_event_does rfl (.moves (takeStop_moves ..))
  case thawDwellReached => exact exec_event_does rfl (.moves (takeThaw_moves ..))
  case refreshExpiry => exact exec_event_does rfl (.moves (takeRefresh_moves ..))
  case counterCarry => exact exec_event_does rfl (.moves (takeCarry_moves ..))
  case dayRollover => exact exec_event_does rfl (takeRollover_does _)
  case checkpointHour => exact exec_event_does rfl (takeCheckpointHour_does _)
  case checkpointIntervalExpiry => exact exec_event_does rfl (takeInterval_does _)
  case storeRecordWritten => exact exec_event_does rfl (recordWritten_does ..)
  case transmitStart => exact exec_event_does rfl (choose_does ..)
  case transmitComplete p => exact exec_event_does rfl (updPort_does s p _ (fun _ => rfl) (fun _ => rfl))
  case commitTimeout => exact exec_event_does rfl (takeCommitTimeout_does _)
  case restartExecute => exact exec_event_does rfl (takeRestart_does _)
  case powerLoss => exact exec_event_does rfl (.powerOn ..)
  all_goals exact exec_command_does s rfl hcommand

end Sys2Proof.Machine
end

section
/-! PROOF. The invariants of a step: what every command keeps, by induction on what commands are made of. -/

namespace Sys2Proof.Machine

/-- The part after a command of the queue, where the command did something (entry 1). -/
theorem exec_next_cases {c : Instr} {s t : State} (h : exec c s = .next t) : (∃ u, Does s u ∧ t = settle u) ∨ t = s := by
  obtain ⟨u, hu, he⟩ | he := exec_does c s
  · rw [he] at h
    exact .inl ⟨u, hu, (Host.Outcome.next.inj h).symm⟩
  · rw [he] at h
    exact .inr (Host.Outcome.next.inj h).symm

/-- What a command does, settled. -/
theorem exec_next_does {c : Instr} {s t : State} (h : exec c s = .next t) : Does s t := by
  obtain ⟨u, hu, rfl⟩ | rfl := exec_next_cases h
  · exact hu.trans (settle_does u)
  · exact .refl t

/-! ## A step -/

/-- With nothing waiting a step idles. -/
theorem step_of_empty {s : State} (h : s.pending = []) : step s = .next s := by
  unfold step
  rw [h]

/-- With a command waiting a step takes the one at the front. -/
theorem step_of_cons {s : State} {c : Instr} {rest : List Instr} (h : s.pending = c :: rest) :
    step s = exec c { s with pending := rest } := by
  unfold step
  rw [h]

/-- A property that does not read the queue holds after every step where it holds after every command. -/
theorem step_keeps {P : State → Prop} (hqueue : ∀ s rest, P s → P { s with pending := rest })
    (hexec : ∀ c s t, P s → exec c s = .next t → P t) (s t : State) (hs : P s) (h : step s = .next t) : P t := by
  cases hp : s.pending with
  | nil =>
    rw [step_of_empty hp] at h
    exact Host.Outcome.next.inj h ▸ hs
  | cons c rest =>
    rw [step_of_cons hp] at h
    exact hexec c _ t (hqueue s rest hs) h

/-! ## The queue of commands -/

/-- No command touches the queue of commands. -/
theorem Does.pending {s t : State} (h : Does s t) : t.pending = s.pending := by
  induction h with
  | trans _ _ h k => exact k.trans h
  | moves h => exact h.beside.pending
  | own h =>
    obtain ⟨_, _, _, _, _, _, _, rfl⟩ := h
    rfl
  | replyAs => rfl
  | findingLook => rfl
  | placeOwedOne s t =>
    unfold Machine.placeOwedOne
    split <;> rfl
  | port => rfl
  | findings => rfl
  | engineIdle => exact (engineLook_beside _).pending
  | engineEmpty => rfl
  | powerOn => rfl

/-! ## The capacities -/

/-- A property of both outcomes of a choice is one of the choice. -/
theorem ite_keeps {P : State → Prop} {c : Prop} [Decidable c] {t u : State} (h : P t) (k : P u) : P (if c then t else u) := by
  split
  · exact h
  · exact k

theorem vibDiscarded_queuesBounded (s : State) (r : VibRecord) (h : queuesBounded s) : queuesBounded (vibDiscarded s r) := by
  unfold vibDiscarded
  have hcount : queuesBounded
      (if (s.streams.slots.get r.slot).inst = r.inst then
        updVib s r.slot (fun v =>
          { v with discarded := bump v.discarded, lastTest := if r.test then some (.discarded, none) else v.lastTest })
      else s) := by
    split <;> exact h
  exact ite_keeps (raise_queuesBounded _ _ _ _ _ hcount) hcount

theorem engineOnce_queuesBounded (s : State) (h : queuesBounded s) : queuesBounded (engineOnce s) := by
  have hvib : ∀ r rest, queuesBounded (startVib s r rest) := by
    intro r rest
    unfold startVib
    dsimp only
    split
    · exact h
    · exact vibDiscarded_queuesBounded _ _ h
  have hharm : ∀ r rest, queuesBounded (startHarm s r rest) := by
    intro r rest
    unfold startHarm
    dsimp only
    split <;> exact h
  unfold engineOnce
  split
  · split
    · exact hharm ..
    · exact hvib ..
  · exact hharm ..
  · exact hvib ..
  · exact h

theorem engineLook_queuesBounded (s : State) (h : queuesBounded s) : queuesBounded (engineLook s) := by
  have hloop : ∀ k s, queuesBounded s → queuesBounded (engineLoop k s) := by
    intro k
    induction k with
    | zero => exact fun s h => h
    | succ k ih =>
      intro s h
      unfold engineLoop
      split
      · exact h
      · exact ih _ (engineOnce_queuesBounded s h)
  exact hloop _ s h

theorem queueVib_queuesBounded (s : State) (r : VibRecord) (h : queuesBounded s) : queuesBounded (queueVib s r) := by
  unfold queueVib
  dsimp only
  split
  · exact engineLook_queuesBounded _ h
  · exact vibDiscarded_queuesBounded _ _ (raise_queuesBounded _ _ _ _ _ h)

theorem queueHarm_queuesBounded (s : State) (r : HarmRecord) (h : queuesBounded s) : queuesBounded (queueHarm s r) := by
  unfold queueHarm
  dsimp only
  split
  · exact engineLook_queuesBounded _ h
  · exact raise_queuesBounded _ _ _ _ _ h

/-- A port's queues within their capacities (R178). -/
def PortBounded (p : Port) (r : PortRec) : Prop := r.localQ.length ≤ localCap ∧ r.transit.length ≤ transitCap p

/-- The capacities, port by port. -/
theorem queuesBounded_iff (s : State) :
    queuesBounded s ↔ s.findings.queue.length ≤ findingCap ∧ ∀ p, PortBounded p (portOf s p) := by
  constructor
  · rintro ⟨hf, hul, hdl, hut, hdt⟩
    refine ⟨hf, fun p => ?_⟩
    cases p
    · exact ⟨hul, hut⟩
    · exact ⟨hdl, hdt⟩
  · rintro ⟨hf, hp⟩
    exact ⟨hf, (hp .u).1, (hp .d).1, (hp .u).2, (hp .d).2⟩

/-- A port given a record within its capacities. -/
theorem setPort_queuesBounded {s : State} (h : queuesBounded s) {p : Port} {r : PortRec} (hr : PortBounded p r) :
    queuesBounded (setPort s p r) := by
  obtain ⟨hf, hul, hdl, hut, hdt⟩ := h
  cases p
  · exact ⟨hf, hr.1, hdl, hr.2, hdt⟩
  · exact ⟨hf, hul, hr.1, hut, hr.2⟩

theorem offerTransit_queuesBounded (s : State) (p : Port) (f : Frame) (h : queuesBounded s) :
    queuesBounded (offerTransit s p f) := by
  obtain ⟨hl, ht⟩ := ((queuesBounded_iff s).1 h).2 p
  unfold offerTransit
  dsimp only
  split
  · next hroom =>
    refine setPort_queuesBounded h ⟨hl, ?_⟩
    rw [List.length_append]
    exact hroom
  · exact raise_queuesBounded _ _ _ _ _ (setPort_queuesBounded h ⟨hl, ht⟩)

/-- A notice keeps every queue within its capacity. -/
theorem Moves.queuesBounded {s t : State} (h : Moves s t) (hs : queuesBounded s) : queuesBounded t := by
  induction h with
  | refl => exact hs
  | trans _ _ h k => exact k (h hs)
  | blocks h =>
    obtain ⟨_, _, _, _, _, _, _, _, _, rfl⟩ := h
    exact hs
  | raise => exact raise_queuesBounded _ _ _ _ _ hs
  | offerAdvice => exact offerAdvice_queuesBounded _ _ hs
  | offerTransit => exact offerTransit_queuesBounded _ _ _ hs
  | engineCounts => exact hs
  | queueVib => exact queueVib_queuesBounded _ _ hs
  | queueHarm => exact queueHarm_queuesBounded _ _ hs

/-- Every block at power-on has empty queues. -/
theorem powerOn_queuesBounded (st : Standing) (n : Nat) (m u d : Bool) (im : Image) (q : List Instr) :
    queuesBounded (State.powerOn st n m u d im q) :=
  ⟨Nat.zero_le _, Nat.zero_le _, Nat.zero_le _, Nat.zero_le _, Nat.zero_le _⟩

/-- A command keeps every queue within its capacity. -/
theorem Does.queuesBounded {s t : State} (h : Does s t) (hs : queuesBounded s) : queuesBounded t := by
  induction h with
  | trans _ _ h k => exact k (h hs)
  | moves h => exact h.queuesBounded hs
  | own h =>
    obtain ⟨_, _, _, _, _, _, _, rfl⟩ := h
    exact hs
  | replyAs => exact replyAs_queuesBounded _ _ _ _ _ _ hs
  | findingLook => exact findingLook_queuesBounded _ hs
  | placeOwedOne => exact placeOwedOne_queuesBounded _ _ hs
  | port s p r hl ht =>
    obtain ⟨hlocal, htransit⟩ := ((queuesBounded_iff s).1 hs).2 p
    exact setPort_queuesBounded hs ⟨hl.trans hlocal, ht.trans htransit⟩
  | findings s fu h =>
    obtain ⟨hf, hports⟩ := hs
    exact ⟨h hf, hports⟩
  | engineIdle => exact engineLook_queuesBounded _ hs
  | engineEmpty => exact hs
  | powerOn => exact powerOn_queuesBounded ..

/-! ## The engine -/

theorem engineSound_of_engine_eq {s t : State} (h : t.engine = s.engine) (hs : engineSound s) : engineSound t := by
  unfold engineSound
  rw [h]
  exact hs

theorem offerTransit_engine (s : State) (p : Port) (f : Frame) : (offerTransit s p f).engine = s.engine := by
  unfold offerTransit
  dsimp only
  split <;> rfl

/-- A notice keeps the engine sound. -/
theorem Moves.engineSound {s t : State} (h : Moves s t) (hs : engineSound s) : engineSound t := by
  induction h with
  | refl => exact hs
  | trans _ _ h k => exact k (h hs)
  | blocks h =>
    obtain ⟨_, _, _, _, _, _, _, _, _, rfl⟩ := h
    exact hs
  | raise => exact hs
  | offerAdvice => exact hs
  | offerTransit => exact engineSound_of_engine_eq (offerTransit_engine ..) hs
  | engineCounts => exact hs
  | queueVib => exact queueVib_sound _ _ hs
  | queueHarm => exact queueHarm_sound _ _ hs

/-- An engine with nothing in it is sound. -/
theorem engineSound_of_reset {s : State} (h : s.engine = .reset) : engineSound s := by
  unfold Machine.engineSound
  rw [h]
  exact ⟨Nat.zero_le _, Nat.zero_le _, fun _ => ⟨rfl, rfl⟩⟩

/-- A command keeps the engine sound. -/
theorem Does.engineSound {s t : State} (h : Does s t) (hs : engineSound s) : engineSound t := by
  induction h with
  | trans _ _ h k => exact k (h hs)
  | moves h => exact h.engineSound hs
  | own h =>
    obtain ⟨_, _, _, _, _, _, _, rfl⟩ := h
    exact hs
  | replyAs => exact hs
  | findingLook => exact hs
  | placeOwedOne s t =>
    unfold Machine.placeOwedOne
    split <;> exact hs
  | port => exact hs
  | findings => exact hs
  | engineIdle s =>
    obtain ⟨hv, hh, _⟩ := hs
    exact engineLook_sound _ hv hh
  | engineEmpty => exact engineSound_of_reset rfl
  | powerOn => exact engineSound_of_reset rfl

/-! ## A waiting commit -/

/-- A changeover leaves the Command Unit. -/
@[simp] theorem changeOver_cmd (s : State) (g : List SlotId) : (changeOver s g).cmd = s.cmd := (changeOver_moves s g).beside.cmd

/-- Where no waiting group is free, each has a member with a window. -/
theorem windows_of_firstFree_none {s : State} {gs : List (List SlotId)} (h : firstFree s gs = none) :
    ∀ g ∈ gs, g.any (slotHasWindow s) = true := by
  induction gs with
  | nil => simp
  | cons g gs ih =>
    unfold firstFree at h
    split at h
    · next hg =>
      cases hr : firstFree s gs with
      | none => exact List.forall_mem_cons.2 ⟨hg, ih hr⟩
      | some p => simp [hr] at h
    · simp at h

/-- A free group leaves the groups that wait by one. -/
theorem firstFree_length {s : State} {gs : List (List SlotId)} {g : List SlotId} {rest : List (List SlotId)}
    (h : firstFree s gs = some (g, rest)) : rest.length + 1 = gs.length := by
  induction gs generalizing g rest with
  | nil => simp [firstFree] at h
  | cons x gs ih =>
    unfold firstFree at h
    split at h
    · cases hr : firstFree s gs with
      | none => simp [hr] at h
      | some p =>
        obtain ⟨y, more⟩ := p
        simp only [hr, Option.some.injEq, Prod.mk.injEq] at h
        obtain ⟨rfl, rfl⟩ := h
        simp [← ih hr]
    · simp only [Option.some.injEq, Prod.mk.injEq] at h
      obtain ⟨_, rfl⟩ := h
      rfl

/-- With as many rounds as groups wait, the loop leaves groups with a window only (R188). -/
theorem settleLoop_windows (k : Nat) (s : State) (hk : (waitingGroups s).length ≤ k) (p : PendingCommit)
    (hp : (settleLoop k s).cmd = .commit p) : ∀ g ∈ p.groups, g.any (slotHasWindow (settleLoop k s)) = true := by
  induction k generalizing s with
  | zero =>
    have hcmd : s.cmd = .commit p := hp
    simp only [waitingGroups, hcmd, Nat.le_zero, List.length_eq_zero_iff] at hk
    simp [hk]
  | succ k ih =>
    unfold settleLoop at hp ⊢
    cases hc : s.cmd with
    | commit q =>
      simp only [hc] at hp ⊢
      cases hf : firstFree s q.groups with
      | none =>
        simp only [hf, hc, UnitState.commit.injEq] at hp ⊢
        exact hp ▸ windows_of_firstFree_none hf
      | some x =>
        obtain ⟨g, rest⟩ := x
        simp only [hf] at hp ⊢
        refine ih _ ?_ hp
        have hlen := firstFree_length hf
        simp only [waitingGroups, hc, changeOver_cmd] at hk ⊢
        omega
    | ready => simp [hc] at hp
    | save o b => simp [hc] at hp
    | restart g => simp [hc] at hp

/-- The end of a step leaves a waiting commit with groups, each with a member that has a window (R188). -/
theorem settle_commitWaits (s : State) : commitWaits (settle s) := by
  intro p hp
  have hwindows := settleLoop_windows (waitingGroups s).length s le_rfl
  have hend : endCommit (settleLoop (waitingGroups s).length s) = settleCommit s := rfl
  have hcmd : (settleCommit s).cmd = .commit p := hp
  generalize settleLoop (waitingGroups s).length s = u at hwindows hend
  rw [← hend] at hcmd
  unfold endCommit at hcmd hend
  cases hu : u.cmd with
  | commit q =>
    simp only [hu] at hcmd hend
    cases hq : q.groups.isEmpty with
    | true => simp [hq, commitReply, replyDone, replyAs] at hcmd
    | false =>
      simp only [hq, Bool.false_eq_true, if_false] at hcmd hend
      obtain rfl : q = p := by simpa [hu] using hcmd
      refine ⟨by simpa using hq, fun g hg => ?_⟩
      have hw := hwindows q hu g hg
      rw [hend] at hw
      exact hw
  | ready => simp [hu] at hcmd
  | save o b => simp [hu] at hcmd
  | restart g => simp [hu] at hcmd

/-! ## What is settled -/

/-- Settles O1. -/
theorem stepTakesTheFront : Obligations.StepTakesTheFront := fun _ _ _ h => step_of_cons h

/-- Settles O2, by induction on what a command does. -/
theorem queueIsTakenFromTheFrontOnly : Obligations.QueueIsTakenFromTheFrontOnly :=
  ⟨fun _ h => step_of_empty h, fun _ _ _ h => (exec_next_does h).pending⟩

/-- Settles O3: a command either acts and settles or leaves the part. -/
theorem everyCommandAnswers : Obligations.EveryCommandAnswers := by
  intro c s
  obtain ⟨u, _, h⟩ | h := exec_does c s
  · exact ⟨_, h⟩
  · exact ⟨_, h⟩

/-- ATTN has the value true just where one of its causes holds on an ACTIVE path (R166). -/
theorem attnValue_iff (s : State) :
    attnValue s = true ↔ s.standing = .active ∧
      ((∃ t, (s.turbines.get t).present = true ∧ (s.turbines.get t).service = false ∧ s.vib.grades.get t = .alarm) ∨
        s.harm.grid.state = .condition ∨ ∃ i it, s.items.get i = some it ∧ it.state = .overdue) := by
  have hvib : attnVib s = true ↔
      ∃ t, (s.turbines.get t).present = true ∧ (s.turbines.get t).service = false ∧ s.vib.grades.get t = .alarm := by
    simp [attnVib, and_assoc]
  have hitem : attnItem s = true ↔ ∃ i it, s.items.get i = some it ∧ it.state = .overdue := by
    unfold attnItem
    rw [List.any_eq_true]
    refine exists_congr fun i => ?_
    cases s.items.get i <;> simp
  simp [attnValue, attnGrid, hvib, hitem, or_assoc]

/-- Settles O4: a step either ends in a settled part, where ATTN has just been formed, or changes nothing that ATTN reads. -/
theorem everyStepFormsAttn : Obligations.EveryStepFormsAttn := by
  refine ⟨step_keeps (fun _ _ h => h) fun c s t hs h => ?_, attnValue_iff⟩
  obtain ⟨u, _, rfl⟩ | rfl := exec_next_cases h
  · exact settle_attnFormed u
  · exact hs

/-- Settles O6. -/
theorem everyStepBoundsTheQueues : Obligations.EveryStepBoundsTheQueues :=
  step_keeps (fun _ _ h => h) fun _ _ _ hs h => (exec_next_does h).queuesBounded hs

/-- Settles O7. -/
theorem everyStepKeepsTheEngineSound : Obligations.EveryStepKeepsTheEngineSound :=
  step_keeps (fun _ _ h => h) fun _ _ _ hs h => (exec_next_does h).engineSound hs

/-- Settles O8: a step either ends settled, or leaves a commit and the windows as they were. -/
theorem everyStepKeepsCommitsWaiting : Obligations.EveryStepKeepsCommitsWaiting := by
  refine step_keeps (fun _ _ h => h) fun c s t hs h => ?_
  obtain ⟨u, _, rfl⟩ | rfl := exec_next_cases h
  · exact settle_commitWaits u
  · exact hs

/-- Settles O5. -/
theorem invariantsHoldAtReset : Obligations.InvariantsHoldAtReset :=
  ⟨rfl, powerOn_queuesBounded .., engineSound_of_reset rfl, fun _ h => by cases h⟩

end Sys2Proof.Machine
end

section
/-! PROOF. Frames, replies and commands at the part's edge (R172 to R182): power-on and its loss, the link ports, the Command
Unit's checks, and what a management command comes to past them. -/

namespace Sys2Proof.Machine

/-! ## Commands past the checks -/

/-- An accepted command ends in what it does past the checks, settled. -/
theorem exec_of_accepts {c : Instr} {s : State} {o : Origin} {code : Nat} {body : State → State} (h : accepts s o)
    (he : exec c s = command o code body s) : exec c s = .next (settle (body s)) := by
  rw [he, command_accepted h]

/-- An accepted command that replies DONE. -/
theorem answersDone_of {c : Instr} {s u : State} {o : Origin} {code : Nat} {rs : List Byte} {body : State → State}
    (h : accepts s o) (he : exec c s = command o code body s) (hb : body s = replyDone u o code rs) :
    answersDone c s o code u rs := by
  unfold answersDone
  rw [exec_of_accepts h he, hb]

/-- An accepted command that replies REFUSED. -/
theorem answersRefused_of {c : Instr} {s : State} {o : Origin} {code d : Nat} {why : Reason} {body : State → State}
    (h : accepts s o) (he : exec c s = command o code body s) (hb : body s = replyRefused s o code why d) :
    answersRefused c s o code why d := by
  unfold answersRefused
  rw [exec_of_accepts h he, hb]

/-- What is done for a turbine named by its own number is done for that turbine. -/
@[simp] theorem forTurbine_tnum (s : State) (o : Origin) (code : Nat) (t : Tid) (f : Tid → State) :
    forTurbine s o code (tnum t) f = f t := by
  unfold forTurbine
  rw [turbineOf_tnum]

/-- A number that names no turbine is refused. -/
theorem forTurbine_out {k : Nat} (h : k = 0 ∨ 25 ≤ k) (s : State) (o : Origin) (code : Nat) (f : Tid → State) :
    forTurbine s o code k f = replyRefused s o code .badParameter 1 := by
  unfold forTurbine
  rw [turbineOf_none h, badParam]

/-- A number past the Stream Table is refused. -/
theorem forSlot_out {k : Nat} (h : 192 ≤ k) (s : State) (o : Origin) (code : Nat) (f : SlotId → State) :
    forSlot s o code k f = replyRefused s o code .badParameter 1 := by
  unfold forSlot
  rw [placeOf_none h, badParam]

/-- What is done for an item slot named by its own number is done for that slot. -/
@[simp] theorem forItem_val (s : State) (o : Origin) (code : Nat) (i : ItemId) (f : ItemId → State) :
    forItem s o code i.val f = f i := by
  unfold forItem
  rw [placeOf_val]

/-- A number past the item table is refused. -/
theorem forItem_out {k : Nat} (h : 96 ≤ k) (s : State) (o : Origin) (code : Nat) (f : ItemId → State) :
    forItem s o code k f = replyRefused s o code .badParameter 1 := by
  unfold forItem
  rw [placeOf_none h, badParam]

/-- An event whose condition holds acts and settles. -/
theorem exec_of_event {c : Instr} {s u : State} {b : Bool} (he : exec c s = onlyWhen b s u) (h : b = true) :
    exec c s = .next (settle u) := by
  rw [he, h]
  rfl

/-- The path of an ACTIVE part. -/
theorem pathActive_of {s : State} (h : s.standing = .active) : pathActive s = true := by
  simp [pathActive, h]

/-! ## Power-on and its loss (R172, R173) -/

/-- Settles O9: every table of the part at reset is a table of power-on values. -/
theorem powerOnValues : Obligations.PowerOnValues := by
  simp [Obligations.PowerOnValues, State.reset, State.powerOn, Slot.reset, TurbineRec.reset, SpeedRec.reset, Clock.reset,
    FindingUnit.reset, AdviceUnit.reset, Engine.reset, PortRec.reset]

/-- A part at power-on without an ACTIVE path is settled: no commit waits and ATTN is not asserted. -/
theorem settle_powerOn {st : Standing} (h : st ≠ .active) (n : Nat) (m u d : Bool) (im : Image) (q : List Instr) :
    settle (State.powerOn st n m u d im q) = State.powerOn st n m u d im q := by
  have hattn : attnValue (State.powerOn st n m u d im q) = false := by simp [attnValue, State.powerOn, h]
  rw [settle_eq_formAttn (fun p hp => by cases hp), formAttn_eq, hattn]
  rfl

/-- Settles O10. -/
theorem resetReleaseReadsTheStraps : Obligations.ResetReleaseReadsTheStraps := by
  intro strap umgt s hstrap hs
  have hrun : (!running s) = true := by
    obtain h | h := hs <;> simp [running, h]
  have hstart : startUp s strap umgt =
      State.powerOn .restoring (strap + 1) umgt s.portU.signal s.portD.signal s.image s.pending := by
    rw [startUp, Nat.mod_eq_of_lt hstrap]
  rw [exec_of_event (by rfl) hrun, hstart, settle_powerOn (by decide)]

/-- The image that an interrupted write of a record leaves: that record cut. -/
theorem imageInterrupted_of_writing {s : State} {p : Nat} {r : StoreRecord} (h : s.store.state = .writing p r)
    (torn : TornRecord) : imageInterrupted s torn = imageCut s.image r torn := by
  simp only [imageInterrupted, h]

/-- Without a write an interruption leaves the image. -/
theorem imageInterrupted_of_not_writing {s : State} (h : ∀ p r, s.store.state ≠ .writing p r) (torn : TornRecord) :
    imageInterrupted s torn = s.image := by
  unfold imageInterrupted
  split
  · next hw => exact absurd hw (h _ _)
  · rfl
  · rfl
  · rfl

/-- A record other than the header is left as its torn bytes leave it. -/
theorem imageCut_of_ne_header (im : Image) {r : StoreRecord} (h : r ≠ .header) (torn : TornRecord) :
    imageCut im r torn = imageTorn im r torn := by
  cases r with
  | header => exact absurd rfl h
  | block => rfl
  | item => rfl

/-- Settles O11: both falls are a power-on without an ACTIVE path, and the image is what the store's state says. -/
theorem fallLosesTheVolatileState : Obligations.FallLosesTheVolatileState := by
  intro torn s hs
  have hrun : running s = true := by
    obtain h | h := hs <;> simp [running, h]
  have hpower : (!decide (s.standing = .unpowered)) = true := by
    obtain h | h := hs <;> simp [h]
  refine ⟨?reset, ?power, fun p hw => ?header, fun p r hw hr => ?record, fun hn => imageInterrupted_of_not_writing hn torn⟩
  case reset => rw [exec_of_event (by rfl) hrun, fallTo, settle_powerOn (by decide)]
  case power => rw [exec_of_event (by rfl) hpower, fallTo, settle_powerOn (by decide)]
  case header => rw [imageInterrupted_of_writing hw, header_imageCut_header]
  case record => rw [imageInterrupted_of_writing hw, imageCut_of_ne_header _ hr]

/-! ## Ports (R174, R175, R178) -/

/-- Of two records given to a port the later stands. -/
@[simp] theorem setPort_setPort (s : State) (p : Port) (a b : PortRec) : setPort (setPort s p a) p b = setPort s p b := by
  cases p <;> rfl

/-- Settles O13. -/
theorem lineSignalMovesThePort : Obligations.LineSignalMovesThePort := by
  constructor
  · intro p s hs hu
    have hlost : exec (.linkDown p) s = .next (settle (lineLost s p)) := rfl
    simp [hlost, lineLost, updPort, hs, hu]
  · intro p s hs hu
    have hback : exec (.linkUp p) s = .next (settle (lineBack s p)) := rfl
    simp [hback, lineBack, updPort, hs, hu]

/-- A frame taken by a receiver is judged and settled. -/
theorem exec_receiveFrame {s : State} {p : Port} (h : receives s p = true) (bytes : List Byte) :
    exec (.receiveFrame p bytes) s = .next (settle (received s p bytes)) := exec_of_event rfl h

/-- Settles O14. -/
theorem badFrameIsOnlyCounted : Obligations.BadFrameIsOnlyCounted := by
  intro p bytes s hr hbad
  rw [exec_receiveFrame hr, received, hbad]
  rfl

/-- A frame offered where there is room is placed. -/
theorem offerTransit_of_room {s : State} {p : Port} (h : (portOf s p).transit.length < transitCap p) (f : Frame) :
    offerTransit s p f = setPort s p { portOf s p with transit := (portOf s p).transit ++ [f] } := by
  unfold offerTransit
  rw [if_pos h]

/-- A frame offered to a full queue is dropped, counted and told. -/
theorem offerTransit_of_full {s : State} {p : Port} (h : transitCap p ≤ (portOf s p).transit.length) (f : Frame) :
    offerTransit s p f = raise (setPort s p { portOf s p with overflow := bump (portOf s p).overflow }) .portOverflow none
      (.port p) [vNat (bump (portOf s p).overflow), vNat (headerOf f.bytes).source] := by
  unfold offerTransit
  rw [if_neg (Nat.not_lt.2 h)]

/-- Settles O15: such a frame is routed to the other side's transit queue. -/
theorem otherFramesPassUnchanged : Obligations.OtherFramesPassUnchanged := by
  intro p bytes s hr hgood hown hpass
  have hroute : received s p bytes = offerTransit s (otherPort p) { bytes := bytes } := by
    have hnot : ownCommand s { bytes := bytes } = false := by
      refine Bool.eq_false_iff.2 fun hc => hown ?_
      simp only [ownCommand, Bool.and_eq_true, decide_eq_true_eq] at hc
      exact hc
    have hsample : ¬ (p = .u ∧ sampleBearing (headerOf bytes).kind = true) := by
      rintro ⟨rfl, hk⟩
      simp only [sampleBearing, Bool.and_eq_true, decide_eq_true_eq] at hk
      obtain h | h | h := hpass
      · cases h
      · omega
      · omega
    rw [received, if_pos hgood, route, hnot, if_neg (by simp), if_neg hsample]
  rw [exec_receiveFrame hr, hroute]
  exact ⟨fun h => by rw [offerTransit_of_room h], fun h => by rw [offerTransit_of_full h, bump_eq]⟩

/-- Settles O18: the local queue of the command's port has a place, or it is full. -/
theorem repliesAreOfferedOrDropped : Obligations.RepliesAreOfferedOrDropped := by
  intro s what o code refusal results
  refine ⟨fun _ _ => rfl, rfl, rfl, ?payload, fun h => ?placed, fun h => ?dropped⟩
  case payload => cases refusal <;> rfl
  case placed => rw [replyAs, portWithReply, if_pos (show _ < localCap from h)]
  case dropped =>
    rw [replyAs, portWithReply, if_neg (show ¬ _ < localCap from Nat.not_lt.2 h)]
    rfl

/-! ## The Command Unit's checks (R177, R181) -/

/-- Settles O20. -/
theorem workingRefusesBusy : Obligations.WorkingRefusesBusy := by
  intro o s hs hu
  have hr : receives s o.port = true := by simp [receives, hs, hu]
  refine ⟨fun hport k body => ?wrong, fun hport hbusy => ?busy⟩
  case wrong =>
    obtain ⟨hp, hm⟩ := hport
    exact command_wrongPort hr (by simp [wrongPort, hp, hm]) k body
  case busy =>
    have hw : wrongPort s o = false := by
      obtain h | h := hport <;> simp [wrongPort, h]
    have hrefused := fun k body => command_busy hr hw hbusy k body
    exact ⟨hrefused, hrefused _ _, fun k => hrefused _ _⟩

/-- A command of the right length is the only command that its code and parameters give. -/
theorem sized_eq_command {ps : List Byte} {n : Nat} {c d : Instr} (h : sized ps n c = .command d) : c = d := by
  unfold sized at h
  split at h
  · exact Parsed.command.inj h
  · cases h

/-- What a code and parameters give as a command is taken under that code from the same origin (R192). -/
theorem exec_of_parse {o : Origin} {code : Nat} {ps : List Byte} {c : Instr} (h : parse o code ps = .command c) (s : State) :
    exec c s = command o code (doCommand c) s := by
  unfold parse at h
  split at h
  any_goals
    obtain rfl := sized_eq_command h
    rfl
  cases h

/-- A code in the table gives a command where its parameters have their length. -/
theorem parse_of_commandLength {code n : Nat} {ps : List Byte} (h : commandLength code ps = some n) (o : Origin) :
    ∃ c, parse o code ps = sized ps n c := by
  unfold commandLength at h
  split at h
  any_goals
    obtain rfl := Option.some.inj h
    exact ⟨_, rfl⟩
  cases h

/-- A code that is not in the table gives none. -/
theorem parse_unknown {code : Nat} (h : code = 0 ∨ (11 ≤ code ∧ code ≤ 15) ∨ (24 ≤ code ∧ code ≤ 31) ∨ 52 ≤ code)
    (o : Origin) (ps : List Byte) : parse o code ps = .unknown := by
  unfold parse
  split
  any_goals omega
  rfl

/-- A frame that is an own-node COMMAND is taken by the Command Unit. -/
theorem received_of_ownCommand {s : State} {bytes : List Byte} (hgood : frameGood bytes = true)
    (hkind : (headerOf bytes).kind = 8) (hnode : (headerOf bytes).source = s.node) (p : Port) :
    received s p bytes = commandPayload p (payloadOf bytes) s := by
  have hown : ownCommand s { bytes := bytes } = true := by simp [ownCommand, commandKind, hkind, hnode]
  rw [received, if_pos hgood, route, if_pos hown]

/-- A payload with code and tag is taken under its code. -/
theorem commandPayload_of_long {p : Port} {body : List Byte} (h : 2 ≤ body.length) (s : State) :
    commandPayload p body s = takeCommand ⟨p, byteAt body 1⟩ (byteAt body 0)
      (doParsed ⟨p, byteAt body 1⟩ (byteAt body 0) (parse ⟨p, byteAt body 1⟩ (byteAt body 0) (body.drop 2))) s := by
  unfold commandPayload
  rw [if_neg (by omega)]

/-- Settles O16: a COMMAND frame is judged by what its code and parameters give. -/
theorem commandFrameIsItsCommand : Obligations.CommandFrameIsItsCommand := by
  refine ⟨fun p bytes c s hgood hkind hnode hlong hparse => ?row, fun p bytes s hgood hkind hnode => ?checks⟩
  case row =>
    have hframe : exec (.receiveFrame p bytes) s = onlyWhen (receives s p) s (received s p bytes) := rfl
    rw [exec_of_parse hparse, hframe, received_of_ownCommand hgood hkind hnode, commandPayload_of_long hlong, hparse]
    rfl
  case checks =>
    have hframe : ∀ o : Origin, o.port = p → accepts s o → exec (.receiveFrame p bytes) s =
        .next (settle (commandPayload p (payloadOf bytes) s)) := by
      rintro o rfl hacc
      rw [exec_receiveFrame (accepts_receives hacc), received_of_ownCommand hgood hkind hnode]
    have htaken : ∀ (o : Origin) (code : Nat) (body : State → State), accepts s o → takeCommand o code body s = body s := by
      intro o code body hacc
      rw [takeCommand, accepts_rightPort hacc, if_neg (by simp), if_pos hacc.2.2.2]
    refine ⟨fun hshort hacc => ?short, fun hlong hacc => ⟨fun hcode => ?unknown, fun n hn hlen => ?length, fun n hn hlen => ?fits⟩⟩
    case short =>
      unfold answersRefused
      rw [hframe _ rfl hacc, commandPayload, if_pos hshort, htaken _ _ _ hacc, badParam]
    case unknown =>
      unfold answersRefused
      rw [hframe _ rfl hacc, commandPayload_of_long hlong, htaken _ _ _ hacc, parse_unknown hcode, doParsed]
    case length =>
      unfold answersRefused
      obtain ⟨c, hsized⟩ := parse_of_commandLength hn ⟨p, byteAt (payloadOf bytes) 1⟩
      rw [hframe _ rfl hacc, commandPayload_of_long hlong, htaken _ _ _ hacc, hsized, sized, if_neg hlen, doParsed, badParam]
    case fits =>
      obtain ⟨c, hsized⟩ := parse_of_commandLength hn ⟨p, byteAt (payloadOf bytes) 1⟩
      exact ⟨c, by rw [hsized, sized, if_pos hlen]⟩

/-! ## Slots and timers (R12, R15, R31, R35) -/

/-- Settles O30, by the state of the slot that RESUME STREAM names. -/
theorem resumeStreamResumes : Obligations.ResumeStreamResumes := by
  intro o s i hacc
  have hbody : doResumeStream o i.val s = resumeStreamOf o s i := by rw [doResumeStream, forSlot_val]
  refine ⟨fun hs => answersDone_of hacc rfl ?held, fun hs => answersDone_of hacc rfl ?stays,
    fun hs => answersRefused_of hacc rfl ?empty⟩
  case held => rw [hbody, resumeStreamOf, hs]; rfl
  case stays =>
    rw [hbody, resumeStreamOf]
    obtain hs | hs | hs | hs := hs <;> rw [hs]
  case empty => rw [hbody, resumeStreamOf, hs]; rfl

/-- Settles O31. -/
theorem silenceExpirySilences : Obligations.SilenceExpirySilences := by
  intro s i e hs hlive htimer he
  have hdue : takeSilence s i = becomeSilent s i e := by simp only [takeSilence, hlive, htimer, he]
  rw [exec_of_event (by rfl) (pathActive_of hs), hdue]
  rfl

/-- Settles O36: the limit timer acts by whether overrun was raised, the blanking timer only stops. -/
theorem turbineTimersExpire : Obligations.TurbineTimersExpire := by
  intro s t hs
  have hpath := pathActive_of hs
  refine ⟨fun hdue hover => ?raised, fun hdue hover => ?again, fun hdue => ?blanking⟩
  case raised =>
    rw [exec_of_event (by rfl) hpath, takeServiceLimit, if_pos hdue, serviceOverrun, hover]
    rfl
  case again =>
    rw [exec_of_event (by rfl) hpath, takeServiceLimit, if_pos hdue]
    simp only [serviceOverrun, hover, if_true, updTurbine, upd]
  case blanking =>
    rw [exec_of_event (by rfl) hpath, takeBlanking, if_pos hdue]
    rfl

end Sys2Proof.Machine
end

section
/-! PROOF. The Farm Clock and the Usage Counters (chapter 8): what a tick moves, midnight, carries, and the commands that write
the clock and a counter. -/

namespace Sys2Proof.Machine

/-! ## The time of day -/

/-- The four fields of a time of day in their ranges (R128). -/
def TimeInRange (c : Clock) : Prop := c.hour ≤ 23 ∧ c.minute ≤ 59 ∧ c.second ≤ 59 ∧ c.tenth ≤ 9

/-- The last tenth of a day is the one with the most tenths before it. -/
theorem lastTenth_iff {c : Clock} (h : TimeInRange c) : lastTenth c = true ↔ tenthsOfDay c = 863999 := by
  obtain ⟨hh, hm, hs, ht⟩ := h
  simp only [lastTenth, Bool.and_eq_true, decide_eq_true_eq, tenthsOfDay]
  omega

/-- A time of day short of the last tenth. -/
theorem lastTenth_eq_false {c : Clock} (h : TimeInRange c) (hlt : tenthsOfDay c < 863999) : lastTenth c = false := by
  rw [Bool.eq_false_iff]
  intro hl
  have := (lastTenth_iff h).mp hl
  omega

/-- The carries of R129 add one tenth. -/
theorem tenthsOfDay_nextTenth {c : Clock} (h : TimeInRange c) : tenthsOfDay (nextTenth c) = tenthsOfDay c + 1 := by
  obtain ⟨-, hm, hs, ht⟩ := h
  unfold nextTenth
  split_ifs <;> simp only [tenthsOfDay] <;> omega

/-- Short of the last tenth the carries of R129 keep every field in its range. -/
theorem nextTenth_inRange {c : Clock} (h : TimeInRange c) (hlt : tenthsOfDay c < 863999) : TimeInRange (nextTenth c) := by
  obtain ⟨hh, hm, hs, ht⟩ := h
  unfold tenthsOfDay at hlt
  unfold nextTenth TimeInRange
  split_ifs <;> dsimp only <;> omega

@[simp] theorem nextTenth_state (c : Clock) : (nextTenth c).state = c.state := by unfold nextTenth; split_ifs <;> rfl
@[simp] theorem nextTenth_day (c : Clock) : (nextTenth c).day = c.day := by unfold nextTenth; split_ifs <;> rfl
@[simp] theorem nextTenth_sinceStart (c : Clock) : (nextTenth c).sinceStart = c.sinceStart := by
  unfold nextTenth; split_ifs <;> rfl
@[simp] theorem nextTenth_rolloverDue (c : Clock) : (nextTenth c).rolloverDue = c.rolloverDue := by
  unfold nextTenth; split_ifs <;> rfl

/-- The checkpoint hour is reached at its first tenth (R133). -/
theorem atCheckpoint_iff {c : Clock} (h : TimeInRange c) (hour : Nat) :
    atCheckpoint hour c = true ↔ tenthsOfDay c = hour * 36000 := by
  obtain ⟨-, hm, hs, ht⟩ := h
  simp only [atCheckpoint, Bool.and_eq_true, decide_eq_true_eq, tenthsOfDay]
  omega

/-! ## The clock at a tick (R128, R129, R131) -/

/-- An UNSET clock counts the ticks since start-up alone. -/
theorem tickClock_of_unset {c : Clock} (h : c.state = .unset) (hour : Nat) :
    tickClock hour c = { c with sinceStart := min (c.sinceStart + 1) 4294967295 } := by
  simp only [tickClock, h, bump_eq]

/-- A HELD clock counts the ticks of its hold as well. -/
theorem tickClock_of_held {c : Clock} (h : c.state = .held) (hour : Nat) :
    tickClock hour c = { c with sinceStart := min (c.sinceStart + 1) 4294967295,
                                heldTicks := min (c.heldTicks + 1) 4294967295 } := by
  simp only [tickClock, h, bump_eq]

/-- A RUNNING clock advances. -/
theorem tickClock_of_running {c : Clock} (h : c.state = .running) (hour : Nat) :
    tickClock hour c = tickRunning hour { c with sinceStart := bump c.sinceStart } := by
  unfold tickClock
  split
  · next hs => exact absurd (hs.symm.trans h) (by decide)
  · rfl
  · next hs => exact absurd (hs.symm.trans h) (by decide)

/-- A RUNNING clock at the last tenth of the day marks the rollover. -/
theorem tickClock_of_lastTenth {c : Clock} (h : c.state = .running) (hr : TimeInRange c) (hl : tenthsOfDay c = 863999)
    (hour : Nat) : tickClock hour c =
      { c with sinceStart := min (c.sinceStart + 1) 4294967295, rolloverDue := true,
               midnightCheckpoint := decide (hour = 0) } := by
  have hlast : lastTenth { c with sinceStart := bump c.sinceStart } = true := (lastTenth_iff hr).mpr hl
  rw [tickClock_of_running h, tickRunning, if_pos hlast, bump_eq]

/-- A RUNNING clock short of midnight moves one tenth on. -/
theorem tickClock_of_not_lastTenth {c : Clock} (h : c.state = .running) (hr : TimeInRange c)
    (hlt : tenthsOfDay c < 863999) (hour : Nat) : tickClock hour c =
      { nextTenth { c with sinceStart := bump c.sinceStart } with
        checkpointDue := c.checkpointDue || atCheckpoint hour (nextTenth { c with sinceStart := bump c.sinceStart }) } := by
  have hlast : lastTenth { c with sinceStart := bump c.sinceStart } = false := lastTenth_eq_false hr hlt
  rw [tickClock_of_running h, tickRunning, if_neg (by simp [hlast])]

/-- What a RUNNING clock shows one tick on, short of midnight. -/
theorem tickClock_running_fields {c : Clock} (h : c.state = .running) (hr : TimeInRange c)
    (hlt : tenthsOfDay c < 863999) (hour : Nat) :
    tenthsOfDay (tickClock hour c) = tenthsOfDay c + 1 ∧ TimeInRange (tickClock hour c) ∧
      (tickClock hour c).day = c.day ∧ (tickClock hour c).state = .running ∧
      (tickClock hour c).rolloverDue = c.rolloverDue ∧
      ((tickClock hour c).checkpointDue = true ↔
        c.checkpointDue = true ∨ tenthsOfDay (tickClock hour c) = hour * 36000) := by
  have hr' : TimeInRange { c with sinceStart := bump c.sinceStart } := hr
  have htenths := tenthsOfDay_nextTenth hr'
  have hrange := nextTenth_inRange hr' hlt
  have hcp := atCheckpoint_iff hrange hour
  rw [tickClock_of_not_lastTenth h hr hlt]
  refine ⟨htenths, hrange, nextTenth_day _, (nextTenth_state _).trans h, nextTenth_rolloverDue _, ?_⟩
  exact (Bool.or_eq_true _ _ ▸ or_congr Iff.rfl hcp :)

/-- The ticks since start-up rise at every tick. -/
@[simp] theorem tickClock_sinceStart (hour : Nat) (c : Clock) :
    (tickClock hour c).sinceStart = min (c.sinceStart + 1) 4294967295 := by
  unfold tickClock
  dsimp only
  split
  · rfl
  · unfold tickRunning
    split
    · rfl
    · exact nextTenth_sinceStart _
  · rfl

/-! ## Midnight (R129, R133) -/

/-- Midnight passed on the clock of a state in which a rollover waits; the Calendar is told where the day changes. -/
theorem takeRollover_of_due {s : State} (h : s.clock.rolloverDue = true) : takeRollover s =
    if s.clock.day < 65535 then dayChange { s with clock := midnight s.clock } else { s with clock := midnight s.clock } := by
  unfold takeRollover
  rw [if_pos h]

/-- Without a rollover that waits nothing is taken. -/
theorem takeRollover_of_not_due {s : State} (h : s.clock.rolloverDue = false) : takeRollover s = s := by
  unfold takeRollover
  simp only [h, Bool.false_eq_true, if_false]

/-- A day change told to the Calendar or not: what differs is the item table, the Finding Unit and the Port D local queue. -/
theorem ite_dayChange_only (c : Prop) [Decidable c] (s : State) : OnlyItems s (if c then dayChange s else s) := by
  split
  · exact dayChange_only s
  · exact .refl s

/-- What only the items and the findings of a state differ in, is the state with those parts replaced. -/
theorem OnlyItems.eq_with {s t : State} (h : OnlyItems s t) :
    t = { s with items := t.items, findings := t.findings, portD := t.portD } := by
  obtain ⟨items, findings, q, rfl⟩ := h
  rfl

/-- The item table and the findings apart, the clock stands. -/
theorem OnlyItems.clock {s t : State} (h : OnlyItems s t) : t.clock = s.clock := by
  obtain ⟨items, findings, q, rfl⟩ := h
  rfl

/-- The item table and the findings apart, the usage counters stand. -/
theorem OnlyItems.usage {s t : State} (h : OnlyItems s t) : t.usage = s.usage := by
  obtain ⟨items, findings, q, rfl⟩ := h
  rfl

/-- Settles O46. -/
theorem clockAdvancesAndRollsOver : Obligations.ClockAdvancesAndRollsOver := by
  constructor
  · intro hour c hh hm hs ht
    have hr : TimeInRange c := ⟨hh, hm, hs, ht⟩
    refine ⟨fun hrun hlt => ?short, fun hrun hl => tickClock_of_lastTenth hrun hr hl hour,
      fun hheld => tickClock_of_held hheld hour, fun hunset => tickClock_of_unset hunset hour⟩
    obtain ⟨htenths, ⟨hh', hm', hs', ht'⟩, hday, -, -, -⟩ := tickClock_running_fields hrun hr hlt hour
    exact ⟨htenths, hday, hh', hm', hs', ht'⟩
  · intro s hs hdue
    have honly : OnlyItems { s with clock := midnight s.clock } (takeRollover s) := by
      rw [takeRollover_of_due hdue]
      exact ite_dayChange_only _ _
    have heq := honly.eq_with
    have hclock : (takeRollover s).clock = midnight s.clock := honly.clock
    refine ⟨takeRollover s, exec_of_event (by rfl) (pathActive_of hs), ?_⟩
    rw [hclock]
    refine ⟨rfl, by simp [tenthsOfDay, midnight], rfl, rfl, rfl, rfl, heq, fun hday => ?_, fun hday => ?_⟩
    · rw [takeRollover_of_due hdue, if_pos hday]
    · rw [takeRollover_of_due hdue, if_neg (Nat.not_lt.mpr hday)]

/-! ## Counts at a tick -/

/-- A timer that counts goes down by 1, and one that has counted out stays at 0. -/
theorem tickTimer_eq (t : Timer) : tickTimer t = t.map (fun n => n - 1) := by
  rcases t with _ | _ | n <;> rfl

/-- A sub-counter with its gate closed does not count. -/
theorem tickTimeSub_of_closed {x : TimeSub} (h : x.gate = false) : tickTimeSub x = x := by
  simp [tickTimeSub, h]

/-- The 3,600th tick of an open gate leaves a carry. -/
theorem tickTimeSub_of_full {x : TimeSub} (h : x.gate = true) (hx : x.ticks = 3599) :
    tickTimeSub x = { x with ticks := 0, due := x.due + 1 } := by
  simp [tickTimeSub, h, hx]

/-- Any other tick of an open gate is counted. -/
theorem tickTimeSub_of_open {x : TimeSub} (h : x.gate = true) (hx : x.ticks ≠ 3599) :
    tickTimeSub x = { x with ticks := x.ticks + 1 } := by
  have hne : x.ticks + 1 ≠ 3600 := by omega
  simp [tickTimeSub, h, hne]

/-- Each time counter of a turbine ticks on its own. -/
@[simp] theorem timeSub_tickUsage (u : Usage) (c : TimeCounter) : timeSub (tickUsage u) c = tickTimeSub (timeSub u c) := by
  cases c <;> rfl

/-- A tick of the ACTIVE part on which no step waits. -/
theorem ticked_of_nothingDue {s : State} (hs : s.standing = .active) (hd : nothingDue s) (hw : commitWaits s) :
    ticked s = countTick s := by
  unfold ticked
  simp only [hs]
  rw [takeDue_of_nothingDue hd hw]

/-- No carry waits where no step does. -/
theorem nothingDue_timeSub {s : State} (hd : nothingDue s) (t : Tid) (c : TimeCounter) :
    (timeSub (s.usage.get t) c).due = 0 := by
  obtain ⟨-, -, -, -, ht, -, -⟩ := hd
  obtain ⟨-, -, -, -, -, hrun, hice, hcurt⟩ := ht t
  cases c
  · exact hrun
  · exact hice
  · exact hcurt

/-- Settles O45: with no step waiting a tick is `countTick`, which moves each count on by itself. -/
theorem tickMovesEveryCount : Obligations.TickMovesEveryCount := by
  constructor
  · intro s hs hd hw
    obtain ⟨hroll, hck, -⟩ := id hd
    have htick : exec .tick s = .next (settle (countTick s)) := by
      rw [← ticked_of_nothingDue hs hd hw]
      rfl
    refine ⟨countTick s, htick, rfl, tickClock_sinceStart _ _, fun hc => ?unset, fun hc => ?held,
      fun hc hh hm hsec ht => ⟨fun hlt => ?short, fun hl => ?last⟩, fun i => ?slots, fun t => ?turbines, fun t => ?speeds,
      fun t => ⟨fun hi hl hw => ?warm, fun hn => ?notWarm⟩, fun t => ⟨?_, ?_, fun c => ⟨fun hg => ?closed, fun hg hx => ?opened,
        fun hg hx => ?carry⟩⟩, tickTimer_eq _, fun t => ?advice, fun p hp => ?commit, fun hp => ?noCommit⟩
    all_goals dsimp only [countTick]
    case unset => rw [tickClock_of_unset hc]
    case held => rw [tickClock_of_held hc]
    case short =>
      obtain ⟨htenths, -, hday, hstate, hdue, hpoint⟩ :=
        tickClock_running_fields hc ⟨hh, hm, hsec, ht⟩ hlt s.active.settings.ckptHour
      refine ⟨hstate, hday, htenths, hdue.trans hroll, hpoint.trans ?_⟩
      rw [hck]
      simp
    case last => rw [tickClock_of_lastTenth hc ⟨hh, hm, hsec, ht⟩ hl]
    case slots =>
      rw [get_mapTab]
      cases hx : (s.streams.slots.get i).state <;> simp [tickSlot, hx, tickTimer_eq]
    case turbines => rw [get_mapTab, tickTurbine, tickTimer_eq, tickTimer_eq]
    case speeds => rw [get_mapTab, tickSpeed, tickTimer_eq]
    case warm =>
      rw [get_mapTab, tickThaw, if_pos ⟨hi, hl, hw⟩]
      rfl
    case notWarm =>
      rw [get_mapTab, tickThaw, if_neg]
      rintro ⟨hi, hl, hw⟩
      simp [hi, hl, hw] at hn
    case closed => rw [get_mapTab, timeSub_tickUsage, tickTimeSub_of_closed hg]
    case opened => rw [get_mapTab, timeSub_tickUsage, tickTimeSub_of_open hg hx]
    case carry => rw [get_mapTab, timeSub_tickUsage, tickTimeSub_of_full hg hx, nothingDue_timeSub hd]
    case advice => rw [get_mapTab, tickAdvice, tickTimer_eq]
    case commit => rw [hp, tickUnit]
    case noCommit =>
      cases hcmd : s.cmd with
      | commit p => exact absurd hcmd (hp p)
      | ready => rfl
      | save o b => rfl
      | restart g => rfl
    all_goals rw [get_mapTab, tickUsage]
  · intro s hs
    have hstart : ticked s = { s with clock := { s.clock with sinceStart := min (s.clock.sinceStart + 1) 4294967295 } } := by
      unfold ticked
      simp only [hs, countStartUp, bump_eq]
    rw [← hstart]
    rfl

/-! ## Main counters (R135 to R139) -/

/-- Main counters with one of them written, read; DAYS names none. -/
theorem mainOf_setMain (m : MainCounters) (b c : Basis) (n : Nat) :
    mainOf (setMain m b n) c = if c = b ∧ b ≠ .days then n else mainOf m c := by
  cases b <;> cases c <;> rfl

/-- Of main counters with one written, the one written has its value. -/
theorem mainOf_setMain_same (m : MainCounters) {b : Basis} (hb : b ≠ .days) (n : Nat) : mainOf (setMain m b n) b = n := by
  rw [mainOf_setMain, if_pos ⟨rfl, hb⟩]

/-- Of main counters with one written, every other keeps its value. -/
theorem mainOf_setMain_of_ne (m : MainCounters) {b c : Basis} (h : c ≠ b) (n : Nat) :
    mainOf (setMain m b n) c = mainOf m c := by
  rw [mainOf_setMain, if_neg (fun hcb => h hcb.1)]

/-- A time counter's basis is no day number. -/
theorem timeBasis_ne_days (c : TimeCounter) : timeBasis c ≠ .days := by
  cases c <;> decide

/-- A time counter's sub-counter as it was replaced. -/
@[simp] theorem timeSub_setTimeSub_same (u : Usage) (c : TimeCounter) (x : TimeSub) : timeSub (setTimeSub u c x) c = x := by
  cases c <;> rfl

/-- Replacing a sub-counter leaves the main counters. -/
@[simp] theorem setTimeSub_main (u : Usage) (c : TimeCounter) (x : TimeSub) : (setTimeSub u c x).main = u.main := by
  cases c <;> rfl

/-- Writing a main counter leaves the sub-counters. -/
@[simp] theorem timeSub_with_main (u : Usage) (m : MainCounters) (c : TimeCounter) :
    timeSub { u with main := m } c = timeSub u c := by
  cases c <;> rfl

/-- What an advance of the Calendar leaves of the usage counters: all. -/
@[simp] theorem counterAdvance_usage (s : State) (t : Tid) (b : Basis) : (counterAdvance s t b).usage = s.usage :=
  (counterAdvance_only s t b).usage

/-- Below its top a main counter is written and the Calendar told. -/
theorem advanceMain_of_lt {s : State} {t : Tid} {b : Basis} (h : mainAt s t b < 4294967295) :
    advanceMain s t b = counterAdvance (writeMain s t b (mainAt s t b + 1)) t b := by
  unfold advanceMain
  rw [if_pos (show mainAt s t b < countTop from h)]

/-- Settles O47: the carry is taken off, the main counter written, and the Calendar told. -/
theorem carryRaisesTheMainCounter : Obligations.CarryRaisesTheMainCounter := by
  intro s t c hs hdue hlt
  let taken : State := { s with usage := upd s.usage t (fun u =>
    setTimeSub u c { timeSub u c with due := (timeSub u c).due - 1 }) }
  have hmain (b : Basis) : mainAt taken t b = mainAt s t b := by simp [taken, mainAt]
  have htake : takeCarry s t c =
      counterAdvance (writeMain taken t (timeBasis c) (mainAt s t (timeBasis c) + 1)) t (timeBasis c) := by
    rw [takeCarry, if_pos hdue, advanceMain_of_lt (s := taken) (by rw [hmain]; exact hlt), hmain]
  have honly := (counterAdvance_only (writeMain taken t (timeBasis c) (mainAt s t (timeBasis c) + 1)) t
    (timeBasis c)).eq_with
  refine ⟨takeCarry s t c, exec_of_event (by rfl) (pathActive_of hs), ?_⟩
  rw [htake]
  refine ⟨?value, ?sub, fun x hx => ?others, fun b hb => ?counters, ?_⟩
  case value => simp [mainAt, writeMain, mainOf_setMain_same _ (timeBasis_ne_days c)]
  case sub => simp [writeMain, taken]
  case others => simp [writeMain, taken, hx]
  case counters => simp [mainAt, writeMain, taken, mainOf_setMain_of_ne _ hb]
  · rw [counterAdvance_usage]
    exact honly

/-! ## SET COUNTER (R138) -/

/-- A counter written by SET COUNTER, as SET COUNTER's own write leaves the main counters. -/
@[simp] theorem writtenUsage_main (u : Usage) (b : Basis) (n : Nat) : (writtenUsage u b n).main = setMain u.main b n := by
  cases b <;> rfl

/-- A time counter's sub-counter starts again with the main counter written. -/
theorem timeSub_writtenUsage (u : Usage) (c : TimeCounter) (n : Nat) :
    timeSub (writtenUsage u (timeBasis c) n) c = { timeSub u c with ticks := 0 } := by
  cases c <;> rfl

/-- A code of R194 names no day number. -/
theorem counterOf_ne_days {k : Nat} {b : Basis} (h : counterOf k = some b) : b ≠ .days := by
  rintro rfl
  unfold counterOf at h
  split at h <;> cases h

/-- What SET COUNTER does past its parameter ranges. -/
theorem doSetCounter_of {o : Origin} {s : State} {t : Tid} {k value : Nat} {b : Basis} (hk : counterOf k = some b)
    (hv : value ≤ 4294967295) : doSetCounter o (tnum t) k value s = setCounterOf o s t b value := by
  rw [doSetCounter, forTurbine_tnum]
  simp only [hk]
  rw [if_neg (show ¬ countTop < value from Nat.not_lt.mpr hv)]

/-- Settles O50. -/
theorem setCounterWrites : Obligations.SetCounterWrites := by
  intro o s t k value b hacc hk hv
  have hdays := counterOf_ne_days hk
  refine ⟨fun hp hm => ?written, fun hp => ?notPresent, fun hp hm => ?notInService⟩
  case notPresent =>
    refine answersRefused_of hacc rfl ?_
    rw [doSetCounter_of hk hv, setCounterOf, if_pos hp]
  case notInService =>
    refine answersRefused_of hacc rfl ?_
    rw [doSetCounter_of hk hv, setCounterOf, if_neg (by simp [hp]), if_pos hm]
  case written =>
    let written : State := { s with usage := upd s.usage t (fun u => writtenUsage u b value) }
    have honly := (counterAdvance_only written t b).eq_with
    refine ⟨counterAdvance written t b, answersDone_of hacc rfl ?_, ?counted, fun c hc => ?counters, fun x hx => ?others,
      fun c hc => ?sub, fun hb => ?revs, ?_⟩
    · rw [doSetCounter_of hk hv, setCounterOf, if_neg (by simp [hp]), if_neg (by simp [hm])]
    case counted => simp [mainAt, written, mainOf_setMain_same _ hdays]
    case counters => simp [mainAt, written, mainOf_setMain_of_ne _ hc]
    case others => simp [written, hx]
    case sub =>
      subst hc
      simp [written, timeSub_writtenUsage]
    case revs =>
      subst hb
      simp [written, writtenUsage]
    · rw [counterAdvance_usage]
      exact honly

/-! ## SET CLOCK and HOLD CLOCK (R130, R131) -/

/-- What SET CLOCK does with every field in its range. -/
theorem doSetClock_of {day hour minute second tenth mode : Nat} (hd : day ≤ 65535) (hh : hour ≤ 23) (hm : minute ≤ 59)
    (hsec : second ≤ 59) (ht : tenth ≤ 9) (hmode : mode ≤ 1) (o : Origin) (s : State) :
    doSetClock o day hour minute second tenth mode s =
      replyDone (setClockOn s day hour minute second tenth mode) o 45 [] := by
  have hnone : firstBadClockField day hour minute second tenth mode = none := by
    simp only [firstBadClockField, Nat.not_lt.mpr hd, Nat.not_lt.mpr hh, Nat.not_lt.mpr hm, Nat.not_lt.mpr hsec,
      Nat.not_lt.mpr ht, Nat.not_lt.mpr hmode, if_false]
  rw [doSetClock, hnone]

/-- The clock that a taken rollover leaves. -/
theorem takeRollover_clock {s : State} (h : s.clock.rolloverDue = true) : (takeRollover s).clock = midnight s.clock := by
  rw [takeRollover_of_due h]
  exact (ite_dayChange_only _ _).clock

/-- A rollover is taken once. -/
theorem takeRollover_takeRollover (s : State) : takeRollover (takeRollover s) = takeRollover s := by
  cases h : s.clock.rolloverDue with
  | false => rw [takeRollover_of_not_due h, takeRollover_of_not_due h]
  | true =>
    refine takeRollover_of_not_due ?_
    rw [takeRollover_clock h]
    rfl

/-- A state that accepts commands accepts them with other items, findings and clock. -/
theorem OnlyItems.accepts {s t : State} {o : Origin} (h : OnlyItems s t) (ha : Machine.accepts s o) :
    Machine.accepts t o := by
  obtain ⟨items, findings, q, rfl⟩ := h
  obtain ⟨hs, hup, hport, hcmd⟩ := ha
  refine ⟨hs, ?_, hport, hcmd⟩
  cases hp : o.port <;> simpa [hp] using hup

/-- Settles O48: without a rollover that waits the commands write the clock; with one they do what they do after it. -/
theorem setAndHoldClock : Obligations.SetAndHoldClock := by
  refine ⟨fun o s day hour minute second tenth mode hacc hroll hd hh hm hsec ht hmode => ?set, fun o s hacc => ?hold,
    fun o s hacc hroll => ?rollover⟩
  case set =>
    have hbody := doSetClock_of hd hh hm hsec ht hmode o s
    have hon : setClockOn s day hour minute second tenth mode =
        if s.clock.state = .unset ∨ s.clock.day ≠ day then
          dayChange { s with clock := setClockTo s.clock day hour minute second tenth mode }
        else { s with clock := setClockTo s.clock day hour minute second tenth mode } := by
      unfold setClockOn
      rw [takeRollover_of_not_due hroll]
    have honly : OnlyItems { s with clock := setClockTo s.clock day hour minute second tenth mode }
        (setClockOn s day hour minute second tenth mode) := by
      rw [hon]
      exact ite_dayChange_only _ _
    have hclock := honly.clock
    refine ⟨_, answersDone_of hacc rfl hbody, hclock, ?_, fun hc => ?_, fun hu hday => ?_⟩
    · rw [hclock]
      exact honly.eq_with
    · rw [hclock, hon, if_pos hc]
    · rw [hclock, hon, if_neg (by simp [hu, hday])]
  case hold =>
    refine ⟨fun hrun hroll => answersDone_of hacc rfl ?_, fun hheld => answersDone_of hacc rfl ?_,
      fun hunset => answersRefused_of hacc rfl ?_⟩
    · simp only [doHoldClock, hrun, holdClockOn, takeRollover_of_not_due hroll]
    · simp only [doHoldClock, hheld]
    · simp only [doHoldClock, hunset]
  case rollover =>
    intro c0 s0
    have hs0 : s0 = takeRollover s := (takeRollover_of_due hroll).symm
    have hacc0 : accepts s0 o :=
      (ite_dayChange_only (s.clock.day < 65535) { s with clock := c0 }).accepts (s := { s with clock := c0 }) hacc
    have htwice : takeRollover s0 = takeRollover s := by rw [hs0, takeRollover_takeRollover]
    have hclock0 : s0.clock = c0 := by rw [hs0, takeRollover_clock hroll]; rfl
    refine ⟨hacc0, hclock0, fun day hour minute second tenth mode hd hh hm hsec ht hmode => ?_, fun hrun => ?_⟩
    · rw [exec_of_accepts hacc rfl, exec_of_accepts hacc0 rfl, doSetClock_of hd hh hm hsec ht hmode,
        doSetClock_of hd hh hm hsec ht hmode, setClockOn, setClockOn, htwice]
    · have hrun0 : s0.clock.state = .running := by rw [hclock0]; exact hrun
      rw [exec_of_accepts hacc rfl, exec_of_accepts hacc0 rfl]
      simp only [doHoldClock, hrun, hrun0, holdClockOn, htwice]

end Sys2Proof.Machine
end

section
/-! PROOF. The Service Calendar (chapter 9): what an evaluation, a pull-in and a day change do to one item, and the commands that
load, clear, read and sign off an item. -/

namespace Sys2Proof.Machine

/-! ## One item evaluated (R141, R142) -/

/-- An item that an evaluation does not reach: of basis DAYS under an UNSET clock. -/
abbrev Asleep (s : State) (it : Item) : Prop := it.basis = .days ∧ s.clock.state = .unset

/-- An item is evaluated exactly where it is not asleep. -/
theorem evaluable_iff (s : State) (it : Item) : evaluable s it = true ↔ ¬ Asleep s it := by
  simp [evaluable, Asleep, imp_iff_not_or]

/-- The state that an evaluation gives an item. -/
def stateNow (s : State) (it : Item) : ItemState := itemStateAt it (basisValue s it.turbine it.basis)

/-- An empty slot has nothing to evaluate. -/
theorem evaluateItem_of_none {s : State} {i : ItemId} (h : s.items.get i = none) : evaluateItem s i = s := by
  simp only [evaluateItem, h]

/-- An item that sleeps, or that is in the state its basis value gives, is left. -/
theorem evaluateItem_of_unchanged {s : State} {i : ItemId} {it : Item} (h : s.items.get i = some it)
    (hn : Asleep s it ∨ stateNow s it = it.state) : evaluateItem s i = s := by
  simp only [evaluateItem, h]
  split
  · next he =>
    have hstate := hn.resolve_left ((evaluable_iff s it).mp he)
    exact if_pos hstate
  · rfl

/-- An item that is awake and in another state enters the one that its basis value gives. -/
theorem evaluateItem_of_changed {s : State} {i : ItemId} {it : Item} (h : s.items.get i = some it)
    (ha : ¬ Asleep s it) (hn : stateNow s it ≠ it.state) :
    evaluateItem s i = enterItemState s i it (basisValue s it.turbine it.basis) (stateNow s it) := by
  simp only [evaluateItem, h]
  rw [if_pos ((evaluable_iff s it).mpr ha)]
  exact if_neg hn

/-- An item that enters a state is written with that state. -/
theorem enterItemState_items (s : State) (i : ItemId) (it : Item) (v : Nat) (st : ItemState) :
    (enterItemState s i it v st).items = put s.items i (some { it with state := st }) := by
  cases st <;> rfl

/-- An item that enters a state raises the finding of that state; WAITING has none. -/
theorem enterItemState_eq (s : State) (i : ItemId) (it : Item) (v : Nat) (st : ItemState) :
    let u : State := { s with items := put s.items i (some { it with state := st }) }
    let found (k : FindingKind) := raise u k (some (tnum it.turbine)) (.item i)
      [vNat it.label, vNat (basisCode it.basis), vNat v, vNat it.duePoint,
        vNat (min (it.duePoint + it.margin) 4294967295)]
    enterItemState s i it v st =
      match st with
      | .waiting => u
      | .coming => found .itemComing
      | .due => found .itemDue
      | .overdue => found .itemOverdue := by
  cases st <;> rfl

/-- What stands in the slot after an evaluation. -/
theorem evaluateItem_get {s : State} {i : ItemId} {it : Item} (h : s.items.get i = some it) :
    (evaluateItem s i).items.get i =
      some { it with state := if Asleep s it then it.state else stateNow s it } := by
  by_cases ha : Asleep s it
  · rw [evaluateItem_of_unchanged h (.inl ha), h, if_pos ha]
  · rw [if_neg ha]
    by_cases hn : stateNow s it = it.state
    · rw [evaluateItem_of_unchanged h (.inr hn), h, hn]
    · rw [evaluateItem_of_changed h ha hn, enterItemState_items, get_put, if_pos rfl]

/-- An evaluation leaves the other slots. -/
theorem evaluateItem_get_of_ne (s : State) {i j : ItemId} (h : j ≠ i) :
    (evaluateItem s i).items.get j = s.items.get j := by
  unfold evaluateItem
  split
  · rfl
  · dsimp only
    split
    · split
      · rfl
      · rw [enterItemState_items, get_put, if_neg h]
    · rfl

/-- The thresholds of R141 from the top down. -/
theorem itemStateAt_cases (it : Item) (v : Nat) :
    (v < it.duePoint - it.lead → itemStateAt it v = .waiting) ∧
      (it.duePoint - it.lead ≤ v → v < it.duePoint → itemStateAt it v = .coming) ∧
      (it.duePoint ≤ v → v < min (it.duePoint + it.margin) 4294967295 → itemStateAt it v = .due) ∧
      (it.duePoint ≤ v → min (it.duePoint + it.margin) 4294967295 ≤ v → itemStateAt it v = .overdue) := by
  have hcoming : comingThreshold it = it.duePoint - it.lead := rfl
  have hover : overdueThreshold it = min (it.duePoint + it.margin) 4294967295 := rfl
  unfold itemStateAt
  rw [hcoming, hover]
  refine ⟨fun h => if_pos h, fun h k => ?_, fun h k => ?_, fun h k => ?_⟩
  · rw [if_neg (by omega), if_pos k]
  · rw [if_neg (by omega), if_neg (by omega), if_pos k]
  · rw [if_neg (by omega), if_neg (by omega), if_neg (by omega)]

/-! ## Links (R145, R146) -/

/-- A grade reaches a link: ALARM any, ALERT one of link grade ALERT. -/
theorem reachesLink_iff (alarm : Bool) (g : Grade) :
    reachesLink alarm g = true ↔ g = .alarm ∨ (g = .alert ∧ alarm = false) := by
  cases g <;> simp [reachesLink]

/-- The item of a slot with its due point and its link's state replaced. -/
def withLink (s : State) (i : ItemId) (it : Item) (l : Link) (due : Nat) (st : LinkState) : State :=
  { s with items := put s.items i (some { it with duePoint := due, link := some { l with state := st } }) }

/-- A pull-in that leaves the due point spends the link and no more. -/
theorem pullIn_of_same {s : State} {i : ItemId} {it : Item} {l : Link} {v : Nat} {g : Grade}
    (h : min it.duePoint (min (v + l.pullIn) 4294967295) = it.duePoint) :
    pullIn s i it l v g = withLink s i it l (min it.duePoint (min (v + l.pullIn) 4294967295)) .spent := by
  exact if_pos h

/-- A pull-in that moves the due point raises ITEM_PULLED_IN and evaluates the item. -/
theorem pullIn_of_moved {s : State} {i : ItemId} {it : Item} {l : Link} {v : Nat} {g : Grade}
    (h : min it.duePoint (min (v + l.pullIn) 4294967295) ≠ it.duePoint) :
    pullIn s i it l v g = evaluateItem
      (raise (withLink s i it l (min it.duePoint (min (v + l.pullIn) 4294967295)) .spent) .itemPulledIn
        (some (tnum it.turbine)) (.item i)
        [vNat it.label, vNat it.duePoint, vNat (min it.duePoint (min (v + l.pullIn) 4294967295)), vNat l.bandSet.val,
          vNat (gradeCode g)]) i := by
  exact if_neg h

/-- A change of a linked grade reaches the item of its turbine and band set. -/
theorem linkedChangeItem_of {s : State} {i : ItemId} {it : Item} {l : Link} {t : Tid} {b : SetId} (old new : Grade)
    (hi : s.items.get i = some it) (hl : it.link = some l) (ht : it.turbine = t) (hb : l.bandSet = b) :
    linkedChangeItem t b old new s i =
      if reachesLink l.alarm new = true ∧ reachesLink l.alarm old = false then
        match l.state with
        | .armed =>
          if it.basis = .days ∧ s.clock.state = .unset then withLink s i it l it.duePoint .owed
          else pullIn s i it l (basisValue s it.turbine it.basis) new
        | .spent => s
        | .owed => s
      else if new = .good then withLink s i it l it.duePoint .armed
      else s := by
  simp only [linkedChangeItem, hi, hl]
  rw [if_pos ⟨ht, hb⟩]
  rfl

/-- A day change acts on DAYS items alone. -/
theorem dayChangeItem_of_ne_days {s : State} {i : ItemId} {it : Item} (h : s.items.get i = some it)
    (hb : it.basis ≠ .days) : dayChangeItem s i = s := by
  simp only [dayChangeItem, h]
  exact if_neg hb

/-- A day change evaluates a DAYS item that is owed no link. -/
theorem dayChangeItem_of_not_owed {s : State} {i : ItemId} {it : Item} (h : s.items.get i = some it)
    (hb : it.basis = .days) (hl : ∀ l, it.link = some l → l.state ≠ .owed) : dayChangeItem s i = evaluateItem s i := by
  simp only [dayChangeItem, h]
  rw [if_pos hb]
  split
  · next l hlink => exact if_neg (hl l hlink)
  · rfl

/-- A day change settles the owed link of a DAYS item first. -/
theorem dayChangeItem_of_owed {s : State} {i : ItemId} {it : Item} {l : Link} (h : s.items.get i = some it)
    (hb : it.basis = .days) (hl : it.link = some l) (ho : l.state = .owed) :
    dayChangeItem s i = evaluateItem (settleOwed s i it l) i := by
  simp only [dayChangeItem, h, hl]
  rw [if_pos hb, if_pos ho]

/-! ## The parameters of LOAD ITEM (R143) -/

/-- A check that refuses passes where its condition does not hold and the checks after it pass. -/
theorem ite_some_eq_none_iff {c : Prop} [Decidable c] {k : Nat} {x : Option Nat} :
    (if c then some k else x) = none ↔ ¬ c ∧ x = none := by
  by_cases h : c <;> simp [h]

/-- The numbers that name a turbine. -/
theorem turbineOf_isNone (k : Nat) : ¬ (turbineOf k).isNone = true ↔ 1 ≤ k ∧ k ≤ 24 := by
  unfold turbineOf placeOf
  split_ifs <;> simp <;> omega

/-- The codes that name a basis. -/
theorem basisOf_isNone (k : Nat) : ¬ (basisOf k).isNone = true ↔ k ≤ 5 := by
  match k with
  | 0 | 1 | 2 | 3 | 4 | 5 => simp [basisOf]
  | n + 6 => simp [basisOf]

/-- The codes of a flag. -/
theorem flagOf_isNone (k : Nat) : ¬ (flagOf k).isNone = true ↔ k ≤ 1 := by
  match k with
  | 0 | 1 => simp [flagOf]
  | n + 2 => simp [flagOf]

/-- The codes of a link grade. -/
theorem linkGradeOf_isNone (k : Nat) : ¬ (linkGradeOf k).isNone = true ↔ k = 2 ∨ k = 3 := by
  match k with
  | 0 | 1 | 2 | 3 => simp [linkGradeOf]
  | n + 4 => simp [linkGradeOf]

/-- The item parameters that pass are those in their ranges. -/
theorem firstBadItemParam_eq_none_iff (slot : Nat) (r : RawItem) : firstBadItemParam slot r = none ↔
    slot < 96 ∧ 1 ≤ r.turbine ∧ r.turbine ≤ 24 ∧ r.label ≤ 65535 ∧ r.basis ≤ 5 ∧ 1 ≤ r.interval ∧
      r.interval ≤ 1000000000 ∧ r.lead ≤ r.interval ∧ r.margin ≤ 1000000000 ∧ r.current ≤ 1 ∧ r.linkPresent ≤ 1 ∧
      (∀ l, r.link = some l → l.bandSet ≤ 31 ∧ (l.grade = 2 ∨ l.grade = 3) ∧ l.pullIn ≤ 1000000000) := by
  have hinterval : ¬ inRange 1 1000000000 r.interval = false ↔ 1 ≤ r.interval ∧ r.interval ≤ 1000000000 := by
    simp [inRange]
  unfold firstBadItemParam
  simp only [ite_some_eq_none_iff, turbineOf_isNone, basisOf_isNone, flagOf_isNone, hinterval, Nat.not_lt, Nat.not_le,
    and_assoc]
  cases hl : r.link with
  | none => simp
  | some l =>
    simp only [ite_some_eq_none_iff, linkGradeOf_isNone, Nat.not_lt, and_true, Option.some.injEq, forall_eq']

/-- LOAD ITEM with link bytes that fit and a parameter out of range names it. -/
theorem doLoadItem_of_bad {o : Origin} {slot k : Nat} {r : RawItem} (hf : linkBytesFit r = true)
    (h : firstBadItemParam slot r = some k) (s : State) :
    doLoadItem o slot r s = replyRefused s o 38 .badParameter k := by
  unfold doLoadItem
  rw [if_neg (by simp [hf]), h]
  rfl

/-- LOAD ITEM with every parameter in its range. -/
theorem doLoadItem_of_good {o : Origin} {r : RawItem} {i : ItemId} {t : Tid} {b : Basis} (hf : linkBytesFit r = true)
    (h : firstBadItemParam i.val r = none) (ht : r.turbine = tnum t) (hb : basisOf r.basis = some b) (s : State) :
    doLoadItem o i.val r s = loadItemAt o s i t b r := by
  unfold doLoadItem
  rw [if_neg (by simp [hf]), h, placeOf_val, ht, turbineOf_tnum, hb]

/-- Bytes that a command can carry hold the link where its present byte says so. -/
theorem linkBytesFit_of_wf {r : RawItem} (h : r.wf = true) : linkBytesFit r = true := by
  simp only [RawItem.wf, Bool.and_eq_true] at h
  obtain ⟨⟨-, hlink⟩, -⟩ := h
  exact hlink

/-- The slots of a turbine's items of a basis, in ascending order. -/
theorem counterAdvance_slots (s : State) (t : Tid) (b : Basis) : ∃ slots : List ItemId, slots.Pairwise (· < ·) ∧
    (∀ i, i ∈ slots ↔ ∃ it, s.items.get i = some it ∧ it.turbine = t ∧ it.basis = b) ∧
    counterAdvance s t b = slots.foldl evaluateItem s := by
  refine ⟨allItems.filter (itemMatches s t b), (List.pairwise_lt_finRange 96).filter _, fun i => ?_, rfl⟩
  rw [List.mem_filter, itemMatches]
  cases s.items.get i <;> simp

/-- Settles O51. -/
theorem loadItemLoads : Obligations.LoadItemLoads := by
  refine ⟨fun o s i t b r hacc hwf hgood ht hb hp hset => ?load, fun o s slot t b r hacc hwf => ?refused,
    firstBadItemParam_eq_none_iff, fun s t => ⟨rfl, rfl, rfl, rfl, rfl, rfl⟩, counterAdvance_slots, fun s i => ?dayChange,
    itemStateAt_cases, fun s i it hi => ?evaluate, fun s t b old new i it l hi hl ht hb => ?linked⟩
  case load =>
    intro last
    let it := newItem t b r (basisValue s t b)
    let put1 : State := { s with items := put s.items i (some it) }
    have hit : put1.items.get i = some it := by simp [put1]
    have hget := evaluateItem_get hit
    refine ⟨evaluateItem put1 i, _, answersDone_of hacc rfl ?_, hget, rfl, rfl, rfl, rfl, rfl, rfl, rfl, rfl, rfl, rfl, ?_,
      fun j hj => ?_, ?_⟩
    · rw [doLoadItem_of_good (linkBytesFit_of_wf hwf) hgood ht hb, loadItemAt, if_neg (by simp [hp]), if_neg hset]
    · rfl
    · rw [evaluateItem_get_of_ne _ hj]
      simp [put1, hj]
    · exact (evaluateItem_only put1 i).eq_with
  case refused =>
    refine ⟨fun k hk => answersRefused_of hacc rfl (doLoadItem_of_bad (linkBytesFit_of_wf hwf) hk s),
      fun hgood ht hb => ?_⟩
    obtain ⟨i, rfl⟩ : ∃ i : ItemId, slot = i.val := ⟨⟨slot, ((firstBadItemParam_eq_none_iff slot r).mp hgood).1⟩, rfl⟩
    have hbody := doLoadItem_of_good (o := o) (linkBytesFit_of_wf hwf) hgood ht hb s
    refine ⟨fun hp => answersRefused_of hacc rfl ?_, fun hp hdays hcur hunset => answersRefused_of hacc rfl ?_⟩
    · rw [hbody, loadItemAt, if_pos hp]
    · rw [hbody, loadItemAt, if_neg (by simp [hp]), if_pos ⟨hdays, hcur, hunset⟩]
  case dayChange =>
    refine ⟨rfl, fun _ _ _ _ => rfl, fun hi => by simp only [dayChangeItem, hi], fun it hi =>
      ⟨dayChangeItem_of_ne_days hi, dayChangeItem_of_not_owed hi, fun l hb hl ho => ?_⟩⟩
    intro g reaches due u
    have hreach : reachesLink l.alarm g = true ↔ reaches := reachesLink_iff l.alarm g
    rw [dayChangeItem_of_owed hi hb hl ho]
    refine ⟨fun hn => ?_, fun hr hd => ?_, fun hr hd => ?_⟩
    · exact congrArg (evaluateItem · i) (if_neg (fun h => hn (hreach.mp h)))
    · have hsettle : settleOwed s i it l = pullIn s i it l s.clock.day g := if_pos (hreach.mpr hr)
      rw [hsettle, pullIn_of_same hd]
      rfl
    · have hsettle : settleOwed s i it l = pullIn s i it l s.clock.day g := if_pos (hreach.mpr hr)
      rw [hsettle, pullIn_of_moved hd]
      rfl
  case evaluate =>
    intro v now asleep u found
    refine ⟨evaluateItem_of_unchanged hi, fun ha hn => ?_⟩
    rw [evaluateItem_of_changed hi ha hn]
    exact enterItemState_eq s i it v now
  case linked =>
    intro reaches rise asleep due u c
    have hreach (g : Grade) : reachesLink l.alarm g = true ↔ reaches g := reachesLink_iff l.alarm g
    have hrise : (reachesLink l.alarm new = true ∧ reachesLink l.alarm old = false) ↔ rise := by
      rw [hreach, ← Bool.not_eq_true, hreach]
    have hc := linkedChangeItem_of old new hi hl ht hb
    subst ht hb
    refine ⟨fun hr hs => ?_, fun hr hs ha => ?_, fun hr hs ha hd => ?_, fun hr hs ha hd => ?_, fun hr hg => ?_, fun hr hg => ?_⟩
    · refine hc.trans ((if_pos (hrise.mpr hr)).trans ?_)
      cases hst : l.state with
      | armed => exact absurd hst hs
      | spent => rfl
      | owed => rfl
    · refine hc.trans ((if_pos (hrise.mpr hr)).trans ?_)
      rw [hs]
      exact if_pos ha
    · refine hc.trans ((if_pos (hrise.mpr hr)).trans ?_)
      rw [hs]
      exact (if_neg ha).trans (pullIn_of_same hd)
    · refine hc.trans ((if_pos (hrise.mpr hr)).trans ?_)
      rw [hs]
      exact (if_neg ha).trans (pullIn_of_moved hd)
    · exact hc.trans ((if_neg (mt hrise.mp hr)).trans (if_pos hg))
    · exact hc.trans ((if_neg (mt hrise.mp hr)).trans (if_neg hg))

end Sys2Proof.Machine
end

section
/-! PROOF. The item commands and the store (chapter 9): CLEAR ITEM, READ ITEM and SIGN OFF, the requests for a checkpoint, and the
end of a record's write. -/

namespace Sys2Proof.Machine

/-! ## CLEAR ITEM and READ ITEM (R144) -/

/-- Settles O52. -/
theorem clearAndReadItem : Obligations.ClearAndReadItem := by
  intro o s hacc
  refine ⟨fun i => ⟨?clear, ?read, fun hi => ?empty, fun it hi => ?item⟩, fun k hk => ⟨?clearOut, ?readOut⟩⟩
  case clear => exact answersDone_of hacc rfl (forItem_val _ _ _ _ _)
  case read => exact answersDone_of hacc rfl (forItem_val _ _ _ _ _)
  case empty =>
    simp only [itemBytes, hi]
    rfl
  case item =>
    simp only [itemBytes, hi]
    rfl
  case clearOut => exact answersRefused_of hacc rfl (forItem_out hk _ _ _ _)
  case readOut => exact answersRefused_of hacc rfl (forItem_out hk _ _ _ _)

/-! ## Checkpoints (R150 to R152) -/

/-- A requested checkpoint writes the store and a waiting SAVE COUNTERS. -/
theorem requestCheckpoint_eq_with (s : State) :
    requestCheckpoint s = { s with store := (requestCheckpoint s).store, cmd := (requestCheckpoint s).cmd } := by
  unfold requestCheckpoint
  split <;> rfl

/-- A store that is ABSENT is requested nothing. -/
theorem requestCheckpoint_of_absent {s : State} (h : s.store.state = .absent) : requestCheckpoint s = s := by
  simp only [requestCheckpoint, h]

/-- A store that does not write begins a write at record 0. -/
theorem requestCheckpoint_of_resting {s : State} (h : s.store.state = .idle ∨ s.store.state = .faulted) :
    requestCheckpoint s = { s with
      store := { s.store with state := .writing 0 .header, started := min (s.store.started + 1) 4294967295 },
      cmd := saveStarted s.cmd } := by
  obtain h | h := h <;> simp only [requestCheckpoint, h] <;> rfl

/-- A store that writes has one more write pending. -/
theorem requestCheckpoint_of_writing {s : State} {k : Nat} {r : StoreRecord} (h : s.store.state = .writing k r) :
    requestCheckpoint s = { s with store := { s.store with pending := true } } := by
  simp only [requestCheckpoint, h]

/-- A request leaves the interval timer. -/
theorem requestCheckpoint_timer (s : State) : (requestCheckpoint s).store.timer = s.store.timer := by
  unfold requestCheckpoint
  split <;> rfl

/-- Settles O54. -/
theorem checkpointsAreRequested : Obligations.CheckpointsAreRequested := by
  intro s hs
  constructor
  · intro hdue
    let told : State := { s with clock := { s.clock with checkpointDue := false } }
    have htake : takeCheckpointHour s = requestCheckpoint told := if_pos hdue
    have hexec : exec .checkpointHour s = .next (settle (requestCheckpoint told)) := by
      rw [← htake]
      exact exec_of_event (by rfl) (pathActive_of hs)
    have heq := requestCheckpoint_eq_with told
    have hclock : (requestCheckpoint told).clock = told.clock := by rw [heq]
    refine ⟨requestCheckpoint told, hexec, hclock, requestCheckpoint_timer told, ?_, fun hr => ?_, fun k r hw => ?_,
      fun ha => ?_⟩
    · rw [hclock]
      exact heq
    · rw [requestCheckpoint_of_resting (s := told) hr]
      exact ⟨rfl, rfl⟩
    · rw [requestCheckpoint_of_writing (s := told) hw]
      exact ⟨rfl, rfl⟩
    · rw [requestCheckpoint_of_absent (s := told) ha]
      exact ⟨rfl, rfl⟩
  · intro hdue
    let u : State := { requestCheckpoint s with store := { (requestCheckpoint s).store with
      timer := loadTimer (s.active.settings.ckptInterval * 36000) } }
    have htake : takeInterval s = u := if_pos hdue
    have hexec : exec .checkpointIntervalExpiry s = .next (settle u) := by
      rw [← htake]
      exact exec_of_event (by rfl) (pathActive_of hs)
    have heq : u = { s with store := u.store, cmd := u.cmd } := by
      dsimp only [u]
      rw [requestCheckpoint_eq_with s]
    refine ⟨u, hexec, rfl, heq, fun hr => ?_, fun k r hw => ?_⟩
    · dsimp only [u]
      rw [requestCheckpoint_of_resting hr]
    · dsimp only [u]
      rw [requestCheckpoint_of_writing hw]
      exact ⟨rfl, hw⟩

/-- Settles O56: SAVE COUNTERS requests a checkpoint for itself. -/
theorem saveCountersWaitsOnAWrite : Obligations.SaveCountersWaitsOnAWrite := by
  intro o s hacc
  have hexec : exec (.saveCounters o) s = .next (settle (doSaveCounters o s)) := exec_of_accepts hacc rfl
  refine ⟨fun ha => ?absent, fun hr => ?resting, fun k r hw => ?writing⟩
  case absent =>
    refine answersRefused_of hacc rfl ?_
    rw [doSaveCounters, if_pos ha]
    rfl
  case resting =>
    have hne : s.store.state ≠ .absent := by obtain h | h := hr <;> simp [h]
    rw [hexec, doSaveCounters, if_neg hne, requestCheckpoint_of_resting (s := { s with cmd := .save o false }) hr]
    rfl
  case writing =>
    have hne : s.store.state ≠ .absent := by simp [hw]
    rw [hexec, doSaveCounters, if_neg hne, requestCheckpoint_of_writing (s := { s with cmd := .save o false }) hw]

/-! ## SIGN OFF (R147) -/

/-- A sign-off arms a link where the linked grade does not reach it, and spends it otherwise. -/
theorem signOffLink_state (g : Grade) (l : Link) :
    ((signOffLink g l).state = .armed ↔ g = .good ∨ (g = .alert ∧ l.alarm = true)) ∧
      ((signOffLink g l).state ≠ .armed → (signOffLink g l).state = .spent) := by
  unfold signOffLink
  split_ifs with h <;> simp [h]

/-- Settles O53. -/
theorem signOffRestartsTheInterval : Obligations.SignOffRestartsTheInterval := by
  intro o s i it hacc hi
  refine ⟨fun hm hclock => ?signed, fun hm => ?notInService, fun hm hb hu => ?unset⟩
  case notInService =>
    refine answersRefused_of hacc rfl ?_
    rw [doSignOff, forItem_val]
    simp only [signOffAt, hi]
    exact if_pos hm
  case unset =>
    refine answersRefused_of hacc rfl ?_
    rw [doSignOff, forItem_val]
    simp only [signOffAt, hi]
    rw [if_neg (by simp [hm]), if_pos ⟨hb, hu⟩]
  case signed =>
    let it1 := signedOff s it (basisValue s it.turbine it.basis)
    let s1 : State := { s with items := put s.items i (some it1) }
    let s2 := evaluateItem s1 i
    have hasleep : ¬ (it.basis = .days ∧ s.clock.state = .unset) := by
      rintro ⟨hb, hu⟩
      exact hclock.elim (· hb) (· hu)
    have hbody : doSignOff o i.val s = replyDone (requestCheckpoint s2) o 40 [] := by
      rw [doSignOff, forItem_val]
      simp only [signOffAt, hi]
      rw [if_neg (by simp [hm]), if_neg hasleep]
    have heq := requestCheckpoint_eq_with s2
    have honly : OnlyItems s1 s2 := evaluateItem_only s1 i
    have hitems : (requestCheckpoint s2).items = s2.items := by rw [heq]
    have hstore : s2.store = s.store := by
      obtain ⟨_, _, _, h⟩ := honly
      rw [h]
    have hget := evaluateItem_get (s := s1) (i := i) (it := it1) (by simp [s1])
    refine ⟨requestCheckpoint s2, _, answersDone_of hacc rfl hbody, (congrArg (·.get i) hitems).trans hget, rfl, rfl, rfl,
      fun l hl => ⟨signOffLink (itemLinkedGrade s it) l, ?_, signOffLink_state _ l⟩, fun j hj => ?_, ?_, ?_, fun hidle => ?_,
      fun ha => ?_⟩
    · change it.link.map _ = _
      rw [hl]
      rfl
    · rw [hitems, evaluateItem_get_of_ne _ hj]
      simp [s1, hj]
    · rw [heq]
      exact honly.usage
    · rw [heq]
      exact honly.clock
    · rw [requestCheckpoint_of_resting (.inl (by rw [hstore, hidle]))]
      exact ⟨_, rfl⟩
    · rw [requestCheckpoint_of_absent (by rw [hstore, ha]), hstore]

/-! ## The end of a record's write (R151 to R154) -/

/-- A verified record before the last leads to the next. -/
theorem recordWritten_of_before_last {s : State} {pos : Nat} {r : StoreRecord} (h : s.store.state = .writing pos r)
    (hp : pos < 120) : recordWritten s .verified = { s with
      image := imageWith s.image r,
      store := { s.store with state := .writing (pos + 1) (readRecord s (pos + 1)) } } := by
  simp only [recordWritten, h]
  exact if_pos hp

/-- A verified last record completes the write. -/
theorem recordWritten_of_last {s : State} {r : StoreRecord} (h : s.store.state = .writing 120 r) :
    recordWritten s .verified = writeCompleted { s with image := imageWith s.image r } := by
  simp only [recordWritten, h]
  exact if_neg (by decide)

/-- A record that does not verify ends the write. -/
theorem recordWritten_of_failed {s : State} {pos : Nat} {r : StoreRecord} (h : s.store.state = .writing pos r)
    (left : TornRecord) :
    recordWritten s (.failed left) = writeFailed { s with image := imageTorn s.image r left } pos := by
  simp only [recordWritten, h]

/-- The end of a SAVE COUNTERS offers a reply and makes the unit READY. -/
theorem endSave_only (s : State) (fault : Option Nat) : ∃ pu pd n c,
    endSave s fault = { s with portU := pu, portD := pd, replySeq := n, cmd := c } := by
  unfold endSave
  split
  · split <;> exact ⟨_, _, _, _, rfl⟩
  all_goals exact ⟨_, _, _, _, rfl⟩

/-- A SAVE COUNTERS that waits on the ended write is over with it. -/
theorem endSave_cmd {s : State} {o : Origin} (h : s.cmd = .save o true) (fault : Option Nat) :
    (endSave s fault).cmd = .ready := by
  simp only [endSave, h]
  cases fault <;> rfl

/-- A unit that waits on no ended write is left. -/
theorem endSave_of_not_waiting {s : State} (h : ∀ o, s.cmd ≠ .save o true) (fault : Option Nat) : endSave s fault = s := by
  unfold endSave
  split
  · next o hs => exact absurd hs (h o)
  all_goals rfl

/-- The state of a completed write before its SAVE COUNTERS is answered: counted, and STORE_OK raised after a fault. -/
def writeGood (s : State) (r : StoreRecord) : State :=
  let written : State := { s with
    image := imageWith s.image r,
    store := { s.store with completed := min (s.store.completed + 1) 4294967295, faultRaised := false } }
  if s.store.faultRaised then raise written .storeOk none .none [vNat s.store.failed] else written

/-- The state of a failed write before its SAVE COUNTERS is answered: counted, and STORE_FAULT raised where none stood. -/
def writeBad (s : State) (pos : Nat) (r : StoreRecord) (left : TornRecord) : State :=
  let torn : State := { s with
    image := imageTorn s.image r left,
    store := { s.store with failed := min (s.store.failed + 1) 4294967295, failedPos := some pos, faultRaised := true } }
  if s.store.faultRaised then torn
  else raise torn .storeFault none .none [vNat pos, vNat (min (s.store.failed + 1) 4294967295)]

/-- A verified last record: the write counted, its SAVE COUNTERS answered, and the pending write begun. -/
theorem recordWritten_last_eq {s : State} {r : StoreRecord} (h : s.store.state = .writing 120 r) :
    recordWritten s .verified = afterWrite (endSave (writeGood s r) none) .idle := recordWritten_of_last h

/-- A record that does not verify: the failure counted, its SAVE COUNTERS answered, and the pending write begun. -/
theorem recordWritten_failed_eq {s : State} {pos : Nat} {r : StoreRecord} (h : s.store.state = .writing pos r)
    (left : TornRecord) :
    recordWritten s (.failed left) = afterWrite (endSave (writeBad s pos r left) (some pos)) .faulted :=
  recordWritten_of_failed h left

/-- What a completed write leaves beside the findings. -/
theorem writeGood_eq_with (s : State) (r : StoreRecord) : writeGood s r = { s with
    image := imageWith s.image r,
    store := { s.store with completed := min (s.store.completed + 1) 4294967295, faultRaised := false },
    findings := (writeGood s r).findings, portD := (writeGood s r).portD } := by
  unfold writeGood
  dsimp only
  split <;> rfl

/-- What a failed write leaves beside the findings. -/
theorem writeBad_eq_with (s : State) (pos : Nat) (r : StoreRecord) (left : TornRecord) : writeBad s pos r left = { s with
    image := imageTorn s.image r left,
    store := { s.store with failed := min (s.store.failed + 1) 4294967295, failedPos := some pos, faultRaised := true },
    findings := (writeBad s pos r left).findings, portD := (writeBad s pos r left).portD } := by
  unfold writeBad
  dsimp only
  split <;> rfl

/-- An ended write without a pending one leaves the store in the given state. -/
theorem afterWrite_of_not_pending {s : State} (h : s.store.pending = false) (st : StoreState) :
    afterWrite s st = { s with store := { s.store with state := st } } := by
  simp only [afterWrite, h, Bool.false_eq_true, if_false]

/-- An ended write with a pending one begins that at record 0. -/
theorem afterWrite_of_pending {s : State} (h : s.store.pending = true) (st : StoreState) :
    afterWrite s st = { s with
      store := { s.store with
        pending := false, state := .writing 0 .header, started := min (s.store.started + 1) 4294967295 },
      cmd := saveStarted s.cmd } := by
  simp only [afterWrite, h, if_true]
  rfl

/-- How a step that ends a write comes out of the state `u`: the store in the given state, or the pending write begun in place of
it, the command being as `moved` says. -/
def WriteEnds (s : State) (w : WriteResult) (u : State) (st : StoreState) (moved : UnitState) : Prop :=
  (s.store.pending = false →
    exec (.storeRecordWritten w) s = .next (settle { u with store := { u.store with state := st } })) ∧
  (s.store.pending = true →
    exec (.storeRecordWritten w) s = .next (settle { u with
      store := { u.store with
        pending := false, state := .writing 0 .header, started := min (s.store.started + 1) 4294967295 },
      cmd := moved }))

/-- A record whose write ends the image's ends it for the store of `s`. -/
theorem writeEnds_of {s u : State} {w : WriteResult} {st : StoreState} (hs : s.standing = .active)
    (h : recordWritten s w = afterWrite u st) (hp : u.store.pending = s.store.pending)
    (hn : u.store.started = s.store.started) : WriteEnds s w u st (saveStarted u.cmd) := by
  have hexec : exec (.storeRecordWritten w) s = .next (settle (afterWrite u st)) := by
    rw [← h]
    exact exec_of_event (by rfl) (pathActive_of hs)
  refine ⟨fun hpend => ?_, fun hpend => ?_⟩
  · rw [hexec, afterWrite_of_not_pending (hp.trans hpend)]
  · rw [hexec, afterWrite_of_pending (hp.trans hpend), hn]

/-- The write that ends, pending or not, is the store's own. -/
theorem endSave_store (s : State) (fault : Option Nat) : (endSave s fault).store = s.store := by
  obtain ⟨_, _, _, _, h⟩ := endSave_only s fault
  rw [h]

/-- How a completed write comes out. -/
theorem writeEnds_of_lastVerified {s : State} {r : StoreRecord} (hs : s.standing = .active)
    (hw : s.store.state = .writing 120 r) :
    WriteEnds s .verified (endSave (writeGood s r) none) .idle (saveStarted (endSave (writeGood s r) none).cmd) := by
  have heq := writeGood_eq_with s r
  refine writeEnds_of hs (recordWritten_last_eq hw) ?_ ?_
  · rw [endSave_store, heq]
  · rw [endSave_store, heq]

/-- How a failed write comes out. -/
theorem writeEnds_of_failed {s : State} {pos : Nat} {r : StoreRecord} (hs : s.standing = .active)
    (hw : s.store.state = .writing pos r) (left : TornRecord) :
    WriteEnds s (.failed left) (endSave (writeBad s pos r left) (some pos)) .faulted
      (saveStarted (endSave (writeBad s pos r left) (some pos)).cmd) := by
  have heq := writeBad_eq_with s pos r left
  refine writeEnds_of hs (recordWritten_failed_eq hw left) ?_ ?_
  · rw [endSave_store, heq]
  · rw [endSave_store, heq]

/-- A SAVE COUNTERS whose write completed is answered DONE. -/
theorem endSave_done {s : State} {o : Origin} (h : s.cmd = .save o true) :
    endSave s none = replyDone { s with cmd := .ready } o 48 [] := by
  simp only [endSave, h]
  rfl

/-- A SAVE COUNTERS whose write failed is answered STORE_FAULT. -/
theorem endSave_refused {s : State} {o : Origin} (h : s.cmd = .save o true) (pos : Nat) :
    endSave s (some pos) = replyRefused { s with cmd := .ready } o 48 .storeFault pos := by
  simp only [endSave, h]
  rfl

/-- A write that begins moves no command but a SAVE COUNTERS. -/
theorem saveStarted_of_ne_save {c : UnitState} (h : ∀ o b, c ≠ .save o b) : saveStarted c = c := by
  cases c with
  | save o b => exact absurd rfl (h o b)
  | ready => rfl
  | commit p => rfl
  | restart g => rfl

/-- Settles O55. -/
theorem storeWritesRecordByRecord : Obligations.StoreWritesRecordByRecord := by
  refine ⟨fun s pos r hs hw => ⟨fun hp => ?next, fun hp hpend => ?completed, fun hpend left => ?failed⟩,
    fun s pos r hs hw => ?ends⟩
  case next =>
    refine ⟨{ s with image := imageWith s.image r, store := { s.store with
      state := .writing (pos + 1) (readRecord s (pos + 1)) } }, ?_, rfl, rfl, rfl⟩
    rw [← recordWritten_of_before_last hw hp]
    exact exec_of_event (by rfl) (pathActive_of hs)
  case completed =>
    subst hp
    have heq := writeGood_eq_with s r
    obtain ⟨_, _, _, _, hend⟩ := endSave_only (writeGood s r) none
    refine ⟨_, (writeEnds_of_lastVerified hs hw).1 hpend, ?_, rfl, ?_, ?_, ?_, ?_, fun o hc => ?_⟩
    case refine_6 => exact endSave_cmd (by rw [heq]; exact hc) none
    all_goals
      dsimp only
      rw [hend, heq]
  case failed =>
    have heq := writeBad_eq_with s pos r left
    obtain ⟨_, _, _, _, hend⟩ := endSave_only (writeBad s pos r left) (some pos)
    refine ⟨_, (writeEnds_of_failed hs hw left).1 hpend, ?_, rfl, ?_, ?_, ?_, ?_, ?_, fun o hc => ?_⟩
    case refine_7 => exact endSave_cmd (by rw [heq]; exact hc) (some pos)
    all_goals
      dsimp only
      rw [hend, heq]
  case ends =>
    intro ends written good failures torn bad
    constructor
    · intro hp
      subst hp
      have hgood : good = writeGood s r := rfl
      have hcmd : good.cmd = s.cmd := by rw [hgood, writeGood_eq_with]
      have hends := writeEnds_of_lastVerified hs hw
      rw [← hgood] at hends
      refine ⟨fun o hc => ?_, fun o hc => ?_, fun hc => ?_⟩
      · rw [endSave_done (hcmd.trans hc)] at hends
        exact hends
      · rw [endSave_of_not_waiting (fun o' => by simp [hcmd, hc]), hcmd, hc] at hends
        exact hends
      · rw [endSave_of_not_waiting (fun o' => by rw [hcmd]; exact hc o' true), hcmd, saveStarted_of_ne_save hc] at hends
        exact hends
    · intro left
      have hbad : bad left = writeBad s pos r left := rfl
      have hcmd : (bad left).cmd = s.cmd := by rw [hbad, writeBad_eq_with]
      have hends := writeEnds_of_failed hs hw left
      rw [← hbad] at hends
      refine ⟨fun o hc => ?_, fun o hc => ?_, fun hc => ?_⟩
      · rw [endSave_refused (hcmd.trans hc)] at hends
        exact hends
      · rw [endSave_of_not_waiting (fun o' => by simp [hcmd, hc]), hcmd, hc] at hends
        exact hends
      · rw [endSave_of_not_waiting (fun o' => by rw [hcmd]; exact hc o' true), hcmd, saveStarted_of_ne_save hc] at hends
        exact hends

end Sys2Proof.Machine
end

section
/-! PROOF. The Finding Unit and the Advice Unit (chapter 10): how a finding is taken, what a mask does, and how advice follows its
mode, its requests and the refresh. -/

namespace Sys2Proof.Machine

/-! ## Findings taken (R158, R160 to R162) -/

/-- Records are of the same subject where kind, turbine and secondary subject agree. -/
theorem sameSubject_iff (f g : Finding) :
    sameSubject f g = true ↔ f.kind = g.kind ∧ f.turbine = g.turbine ∧ f.subject = g.subject := by
  simp [sameSubject, and_assoc]

/-- A coalescing update takes the place of the first record of its subject. -/
theorem coalesceInto_append {f g : Finding} {pre post : List Finding} (n : Nat) (hg : sameSubject g f = true)
    (hpre : ∀ x ∈ pre, ¬ sameSubject x f = true) :
    coalesceInto f n (pre ++ g :: post) = pre ++ { f with seq := n } :: post := by
  induction pre with
  | nil => simp [coalesceInto, hg]
  | cons x pre ih =>
    have hx := hpre x List.mem_cons_self
    rw [List.cons_append, coalesceInto, if_neg hx, ih (fun y hy => hpre y (List.mem_cons_of_mem x hy)), List.cons_append]

/-- INFO and NOTICE are the minor severities. -/
theorem minor_iff (k : FindingKind) : minor k = true ↔ severity k = .info ∨ severity k = .notice := by
  unfold minor
  split <;> simp_all

/-- ALERT and ALARM are the others. -/
theorem not_minor_iff (k : FindingKind) : ¬ minor k = true ↔ severity k = .alert ∨ severity k = .alarm := by
  unfold minor
  split <;> simp_all

/-- The oldest minor record is the one that is evicted. -/
theorem evictOldest_append {g : Finding} {pre post : List Finding} (hg : minor g.kind = true)
    (hpre : ∀ x ∈ pre, ¬ minor x.kind = true) : evictOldest (pre ++ g :: post) = some (g, pre ++ post) := by
  induction pre with
  | nil => simp [evictOldest, hg]
  | cons x pre ih =>
    have hx := hpre x List.mem_cons_self
    rw [List.cons_append, evictOldest, if_neg hx, ih (fun y hy => hpre y (List.mem_cons_of_mem x hy))]
    rfl

/-- Without a minor record none is evicted. -/
theorem evictOldest_none {q : List Finding} (h : ∀ x ∈ q, ¬ minor x.kind = true) : evictOldest q = none := by
  induction q with
  | nil => rfl
  | cons x q ih =>
    have hx := h x List.mem_cons_self
    rw [evictOldest, if_neg hx, ih (fun y hy => h y (List.mem_cons_of_mem x hy))]

/-- The look at the lost count places FINDINGS_LOST where a count stands, its mask is ON and there is room. -/
theorem checkLost_of_room {st : Stamp} {fu : FindingUnit} (hl : 0 < fu.lost) (hm : maskOn fu .findingsLost = true)
    (hq : fu.queue.length < 64) : checkLost st fu = { fu with
      queue := fu.queue ++ [{ seq := fu.nextSeq, kind := .findingsLost, turbine := none, subject := .none, day := st.day,
                              tenths := st.tenths, inService := false, unset := st.unset, values := [vNat fu.lost] }],
      nextSeq := (fu.nextSeq + 1) % 65536, lost := 0 } := by
  exact if_pos ⟨hl, hm, hq⟩

/-- Otherwise the look leaves the unit. -/
theorem checkLost_of_not {st : Stamp} {fu : FindingUnit}
    (h : fu.lost = 0 ∨ maskOn fu .findingsLost = false ∨ 64 ≤ fu.queue.length) : checkLost st fu = fu := by
  refine if_neg ?_
  rintro ⟨hl, hm, hq⟩
  obtain h | h | h := h
  · omega
  · simp [h] at hm
  · exact absurd hq (Nat.not_lt.mpr h)

/-- A masked finding is not taken. -/
theorem takeFinding_of_masked {st : Stamp} {fu : FindingUnit} {f : Finding} (h : maskOn fu f.kind = false) :
    takeFinding st fu f = fu := if_pos h

/-- A coalescing finding that meets one of its subject takes its place. -/
theorem takeFinding_of_coalescing {st : Stamp} {fu : FindingUnit} {f : Finding} (hm : maskOn fu f.kind = true)
    (hc : coalescing f.kind = true) (hq : fu.queue.any (fun g => sameSubject g f) = true) :
    takeFinding st fu f =
      { fu with queue := coalesceInto f fu.nextSeq fu.queue, nextSeq := (fu.nextSeq + 1) % 65536 } := by
  rw [takeFinding, if_neg (by simp [hm]), if_pos ⟨hc, hq⟩]

/-- Any other unmasked finding is placed, or judged at a full queue. -/
theorem takeFinding_of_new {st : Stamp} {fu : FindingUnit} {f : Finding} (hm : maskOn fu f.kind = true)
    (hn : coalescing f.kind = false ∨
      ∀ x ∈ fu.queue, ¬ (x.kind = f.kind ∧ x.turbine = f.turbine ∧ x.subject = f.subject)) :
    takeFinding st fu f = if fu.queue.length < 64 then placeFinding fu f else takeAtFull st fu f := by
  have hnot : ¬ (coalescing f.kind = true ∧ fu.queue.any (fun g => sameSubject g f) = true) := by
    rintro ⟨hc, hq⟩
    obtain ⟨x, hx, hs⟩ := List.any_eq_true.mp hq
    obtain hn | hn := hn
    · simp [hn] at hc
    · exact hn x hx ((sameSubject_iff x f).mp hs)
  rw [takeFinding, if_neg (by simp [hm]), if_neg hnot]
  rfl

/-- A minor finding, or any where no minor record stands, is lost at a full queue. -/
theorem takeAtFull_lost {st : Stamp} {fu : FindingUnit} {f : Finding}
    (h : minor f.kind = true ∨ ∀ x ∈ fu.queue, ¬ minor x.kind = true) :
    takeAtFull st fu f = { fu with lost := min (fu.lost + 1) 4294967295 } := by
  unfold takeAtFull
  split
  · rfl
  · next hf => rw [evictOldest_none (h.resolve_left hf), bump_eq]

/-- A major finding at a full queue is placed at the end in place of the oldest minor record, which is lost. -/
theorem takeAtFull_evicts {st : Stamp} {fu : FindingUnit} {f g : Finding} {pre post : List Finding}
    (hf : ¬ minor f.kind = true) (hq : fu.queue = pre ++ g :: post) (hg : minor g.kind = true)
    (hpre : ∀ x ∈ pre, ¬ minor x.kind = true) (hfull : 64 ≤ fu.queue.length) :
    takeAtFull st fu f =
      { fu with queue := pre ++ post ++ [{ f with seq := fu.nextSeq }], nextSeq := (fu.nextSeq + 1) % 65536,
                lost := min (fu.lost + (lostCarried g + 1)) 4294967295 } := by
  have hlen : 64 ≤ (pre ++ post ++ [{ f with seq := fu.nextSeq }]).length := by
    rw [hq] at hfull
    simp only [List.length_append, List.length_cons, List.length_nil] at hfull ⊢
    omega
  rw [takeAtFull, if_neg hf, hq, evictOldest_append hg hpre]
  exact checkLost_of_not (.inr (.inr hlen))

/-- Settles O57. -/
theorem findingsAreTaken : Obligations.FindingsAreTaken := by
  refine ⟨fun st fu f => ⟨takeFinding_of_masked, fun hm hc pre g post hq hg hpre => ?coalesced, fun hm hn => ?new⟩,
    fun st fu => ⟨checkLost_of_room, checkLost_of_not⟩⟩
  case coalesced =>
    have hany : fu.queue.any (fun x => sameSubject x f) = true :=
      List.any_eq_true.mpr ⟨g, by simp [hq], (sameSubject_iff g f).mpr hg⟩
    rw [takeFinding_of_coalescing hm hc hany, hq,
      coalesceInto_append _ ((sameSubject_iff g f).mpr hg) (fun x hx => (sameSubject_iff x f).not.mpr (hpre x hx))]
  case new =>
    have htake := takeFinding_of_new (st := st) hm hn
    refine ⟨fun hroom => ?_, fun hfull hminor => ?_, fun hfull hmajor => ?_,
      fun hfull hsev pre g post hq hg hpre => ⟨?_, fun hk => ?_, fun v hk hv => ?_⟩⟩
    · rw [htake, if_pos hroom]
      rfl
    · rw [htake, if_neg (Nat.not_lt.mpr hfull), takeAtFull_lost (.inl ((minor_iff _).mpr hminor))]
    · rw [htake, if_neg (Nat.not_lt.mpr hfull),
        takeAtFull_lost (.inr (fun x hx => (not_minor_iff _).mpr (hmajor x hx)))]
    · rw [htake, if_neg (Nat.not_lt.mpr hfull), takeAtFull_evicts ((not_minor_iff _).mpr hsev) hq ((minor_iff _).mpr hg)
        (fun x hx => (not_minor_iff _).mpr (hpre x hx)) hfull]
    · unfold lostCarried
      split
      · next hk' _ => exact absurd hk' hk
      · rfl
    · simp only [lostCarried, hk, hv]

/-! ## Masks (R163) -/

/-- A kind is read back from its code. -/
@[simp] theorem kindOfCode_kindCode (k : FindingKind) : kindOfCode (kindCode k) = some k := by
  cases k <;> rfl

/-- A flag is read back from its code. -/
@[simp] theorem flagOf_flagCode (b : Bool) : flagOf (flagCode b) = some b := by
  cases b <;> rfl

/-- The look at the lost count leaves the masks. -/
@[simp] theorem checkLost_masks (st : Stamp) (fu : FindingUnit) : (checkLost st fu).masks = fu.masks := by
  unfold checkLost
  split <;> rfl

/-- The masks of a kind OFF, and no record of it in the queue. -/
def Purged (k : FindingKind) (fu : FindingUnit) : Prop := maskOn fu k = false ∧ ∀ f ∈ fu.queue, f.kind ≠ k

/-- The look at the lost count places no record of a masked kind. -/
theorem Purged.checkLost {k : FindingKind} {fu : FindingUnit} (h : Purged k fu) (st : Stamp) :
    Purged k (checkLost st fu) := by
  obtain ⟨hm, hq⟩ := h
  unfold Machine.checkLost
  split
  · next hl =>
    obtain ⟨-, hon, -⟩ := hl
    have hne : FindingKind.findingsLost ≠ k := by
      rintro rfl
      simp [hm] at hon
    refine ⟨hm, fun f hf => ?_⟩
    obtain hf | hf := List.mem_append.mp hf
    · exact hq f hf
    · rw [List.mem_singleton.mp hf]
      exact hne
  · exact ⟨hm, hq⟩

/-- The look at the Port D local queue brings back no record of a masked kind. -/
theorem Purged.lookLoop {k : FindingKind} (node hstamp : Nat) (st : Stamp) (n : Nat) {fu : FindingUnit}
    (h : Purged k fu) (q : List LocalFrame) : Purged k (lookLoop node hstamp st n fu q).1 := by
  induction n generalizing fu q with
  | zero => exact h
  | succ n ih =>
    unfold Machine.lookLoop
    split
    · exact h
    · next f rest hq =>
      split
      · have hrest : Purged k { fu with queue := rest, frameSeq := (fu.frameSeq + 1) % 256 } :=
          ⟨h.1, fun x hx => h.2 x (hq ▸ List.mem_cons_of_mem f hx)⟩
        exact ih (hrest.checkLost st) _
      · exact h

/-- The Finding Unit's look leaves the masks. -/
@[simp] theorem findingLook_masks (s : State) : (findingLook s).findings.masks = s.findings.masks := by
  unfold findingLook lookResult
  dsimp only
  split
  · exact lookLoop_masks _ _ _ _ _ _
  · rfl

/-- The Finding Unit's look brings back no record of a masked kind. -/
theorem Purged.findingLook {k : FindingKind} {s : State} (h : Purged k s.findings) :
    Purged k (findingLook s).findings := by
  unfold Machine.findingLook lookResult
  dsimp only
  split
  · exact h.lookLoop _ _ _ _ _
  · exact h

/-- Masking a kind purges its records. -/
theorem maskedUnit_purged (st : Stamp) (fu : FindingUnit) (k : FindingKind) : Purged k (maskedUnit st fu k false) := by
  have hoff (q : List Finding) : maskOn { fu with masks := put fu.masks (kindIndex k) false, queue := q } k = false := by
    simp [maskOn]
  unfold maskedUnit
  dsimp only
  rw [if_neg Bool.false_ne_true]
  split
  · refine Purged.checkLost ⟨hoff _, fun f hf => ?_⟩ st
    simpa using (List.mem_filter.mp hf).2
  · next hnone =>
    refine ⟨hoff _, fun f hf hk => hnone ?_⟩
    exact List.any_eq_true.mpr ⟨f, hf, by simp [hk]⟩

/-- Setting a mask writes that mask. -/
theorem maskedUnit_masks (st : Stamp) (fu : FindingUnit) (k : FindingKind) (on : Bool) :
    (maskedUnit st fu k on).masks = put fu.masks (kindIndex k) on := by
  unfold maskedUnit
  dsimp only
  split_ifs <;> simp

/-- What SET FINDING MASK does with a kind and a setting. -/
theorem doSetFindingMask_of (o : Origin) (k : FindingKind) (on : Bool) (s : State) :
    doSetFindingMask o (kindCode k) (flagCode on) s = replyDone (setMask s k on) o 49 [] := by
  simp only [doSetFindingMask, kindOfCode_kindCode, flagOf_flagCode]

/-- Settles O58. -/
theorem setFindingMaskMasks : Obligations.SetFindingMaskMasks := by
  have hsame (o : Origin) (s : State) (k : FindingKind) (on : Bool) (hacc : accepts s o)
      (h : maskOn s.findings k = on) : answersDone (.setFindingMask o (kindCode k) (flagCode on)) s o 49 s [] := by
    refine answersDone_of hacc rfl ?_
    rw [doSetFindingMask_of, setMask, if_pos h]
  have hchange (o : Origin) (s : State) (k : FindingKind) (on : Bool) (hacc : accepts s o)
      (h : maskOn s.findings k ≠ on) (fu : FindingUnit) (hfu : maskedUnit (stampOf s.clock) s.findings k on = fu) :
      answersDone (.setFindingMask o (kindCode k) (flagCode on)) s o 49 (findingLook { s with findings := fu }) [] := by
    refine answersDone_of hacc rfl ?_
    rw [doSetFindingMask_of, setMask, if_neg h, hfu]
  constructor
  · intro o s k on hacc
    refine ⟨hsame o s k on hacc, fun h => ⟨_, hchange o s k on hacc h _ rfl, fun j => ?_, ?_, rfl⟩⟩
    · rw [findingLook_masks, maskedUnit_masks, get_put]
    · rintro rfl
      exact (Purged.findingLook (maskedUnit_purged _ _ _)).2
  · intro o s k on hacc fu masks c
    refine ⟨hsame o s k on hacc, fun h ho hn => ?_, fun h ho hq => ?_, fun h ho hk => ?_, fun h ho hk => ?_⟩
    all_goals
      subst ho
      refine hchange o s k _ hacc h _ ?_
      unfold maskedUnit
      dsimp only
    · have hnone : ¬ s.findings.queue.any (fun f => decide (f.kind = k)) = true := by
        simpa [fu] using hn
      rw [if_neg Bool.false_ne_true, if_neg hnone]
    · have hany : s.findings.queue.any (fun f => decide (f.kind = k)) = true := by
        simpa [fu] using hq
      rw [if_neg Bool.false_ne_true, if_pos hany]
      simp only [decide_not]
      rfl
    · rw [if_pos rfl, if_neg hk]
    · rw [if_pos rfl, if_pos hk]

/-! ## ADVICE frames offered (R169, R170) -/

/-- An offer marks its turbine owed where the frame finds no place, and writes no more of the advice records. -/
theorem offerAdvice_rec (s : State) (t x : Tid) : (offerAdvice s t).advice.recs.get x =
    { s.advice.recs.get x with
      owed := if x = t ∧ adviceOffer s t = .owed then true else (s.advice.recs.get x).owed } := by
  unfold offerAdvice
  cases h : adviceOffer s t
  · simp
  · simp
  · by_cases hx : x = t <;> simp [hx]

/-- A waiting frame of the turbine is replaced in its place. -/
theorem replaceAdvice_append {t : Tid} {f g : LocalFrame} {pre post : List LocalFrame} (hg : g.what = .advice t)
    (hpre : ∀ x ∈ pre, x.what ≠ .advice t) : replaceAdvice t f (pre ++ g :: post) = pre ++ f :: post := by
  induction pre with
  | nil => exact if_pos hg
  | cons x pre ih =>
    rw [List.cons_append, replaceAdvice, if_neg (hpre x List.mem_cons_self),
      ih (fun y hy => hpre y (List.mem_cons_of_mem x hy)), List.cons_append]

/-- A frame of the turbine waits where one is found in the queue. -/
theorem adviceWaiting_iff (t : Tid) (q : List LocalFrame) :
    adviceWaiting t q = true ↔ ∃ g ∈ q, g.what = .advice t := by
  simp [adviceWaiting]

/-- An offer replaces the frame that waits. -/
theorem adviceOffer_of_waiting {s : State} {t : Tid} {g : LocalFrame} (hg : g ∈ s.portU.localQ)
    (hw : g.what = .advice t) : adviceOffer s t = .replaced := if_pos ((adviceWaiting_iff _ _).mpr ⟨g, hg, hw⟩)

/-- Without a frame that waits an offer takes a free place, unless one is owed already. -/
theorem adviceOffer_of_not_waiting {s : State} {t : Tid} (hs : s.standing = .active)
    (hq : ∀ x ∈ s.portU.localQ, x.what ≠ .advice t) : adviceOffer s t =
      if (s.advice.recs.get t).owed = false ∧ s.portU.localQ.length < 16 then .placed else .owed := by
  have hnone : ¬ adviceWaiting t s.portU.localQ = true := by
    rw [adviceWaiting_iff]
    rintro ⟨g, hg, hw⟩
    exact hq g hg hw
  unfold adviceOffer
  rw [if_neg hnone]
  simp only [hs, true_and]
  rfl

/-! ## Advice computed (R167, R168) -/

/-- The advice that service mode, advice mode and the requests give. -/
theorem wantedAdvice_eq (s : State) (t : Tid) : wantedAdvice s t =
    if (s.turbines.get t).service = true ∨ s.advice.active = false then .none
    else if holdRequested s t = true then .hold else if t ∈ s.harm.grid.requests then .curtail else .none := by
  simp only [wantedAdvice, curtailRequested, decide_eq_true_eq]

/-- Hold is requested of an ICED turbine under hold-on-ice. -/
theorem holdRequested_iff (s : State) (t : Tid) :
    holdRequested s t = true ↔ (s.ice.get t).state = .iced ∧ s.active.settings.holdOnIce = true := by
  simp [holdRequested]

/-- The power limits of R167. -/
theorem limitFor_eq (n : Nat) (a : Advice) :
    limitFor n a = if a = .none then 100 else if a = .hold then 0 else 100 - n := by
  cases a <;> rfl

/-- A turbine whose advice and limit are as wanted is left. -/
theorem computeAdvice_of_same {s : State} {t : Tid} (ha : wantedAdvice s t = (s.advice.recs.get t).advice)
    (hl : limitFor s.active.settings.reduction (wantedAdvice s t) = (s.advice.recs.get t).limit) :
    computeAdvice s t = s := if_pos ⟨ha, hl⟩

/-- Otherwise its advice is changed. -/
theorem computeAdvice_of_changed {s : State} {t : Tid}
    (h : wantedAdvice s t ≠ (s.advice.recs.get t).advice ∨
      limitFor s.active.settings.reduction (wantedAdvice s t) ≠ (s.advice.recs.get t).limit) :
    computeAdvice s t =
      changeAdvice s t (wantedAdvice s t) (limitFor s.active.settings.reduction (wantedAdvice s t)) :=
  if_neg (fun hs => h.elim (· hs.1) (· hs.2))

/-- The state of a changed advice before its windows are ended and its frame is offered: the advice stored, the curtailed gate,
the icing block emptied, and blanking requested. -/
def adviceStored (s : State) (t : Tid) (a : Advice) (l : Nat) : State :=
  let old := s.advice.recs.get t
  let x := s.ice.get t
  let cause := blockCauseIndex .advice
  let gated : Usage := { s.usage.get t with curtailed := { (s.usage.get t).curtailed with gate := decide (a ≠ .none) } }
  { s with
    advice := { s.advice with recs := put s.advice.recs t { old with advice := a, limit := l } },
    usage := if (old.advice = .none ↔ a = .none) then s.usage else put s.usage t gated,
    ice := put s.ice t { x with
      blockCount := 0, blockSum := 0,
      discarded := if 0 < x.blockCount then put x.discarded cause (min (x.discarded.get cause + 1) 4294967295)
        else x.discarded },
    turbines := put s.turbines t { s.turbines.get t with blanking := loadTimer s.active.settings.blankingTime } }

/-- The curtailed gate follows whether the advice is NONE. -/
theorem curtailedGate_eq (s : State) (t : Tid) (old new : Advice) : curtailedGate s t old new =
    if (old = .none ↔ new = .none) then s else setGate s t .curtailed (decide (new ≠ .none)) := by
  unfold curtailedGate
  by_cases ho : old = .none <;> by_cases hn : new = .none <;> simp [ho, hn]

/-- What a change of advice does, its steps put together. -/
theorem changeAdvice_eq (s : State) (t : Tid) (a : Advice) (l : Nat) :
    let u := offerAdvice (vibBlanking (adviceStored s t a l) t) t
    changeAdvice s t a l = raise
      { u with advice := { u.advice with recs := put u.advice.recs t { u.advice.recs.get t with
          refresh := if a = .none then none else loadTimer (s.active.settings.refresh * 10) } } }
      .adviceChanged (some (tnum t)) .none
      [vNat (adviceCode (s.advice.recs.get t).advice), vNat (adviceCode a), vNat l] := by
  intro u
  have hstored : requestBlanking (discardBlock .advice (curtailedGate (updAdvice s t (fun r =>
      { r with advice := a, limit := l })) t (s.advice.recs.get t).advice a) t) t =
      vibBlanking (adviceStored s t a l) t := by
    rw [curtailedGate_eq]
    simp only [adviceStored]
    by_cases h : (s.advice.recs.get t).advice = .none ↔ a = .none
    · rw [if_pos h, if_pos h]
      rfl
    · rw [if_neg h, if_neg h]
      rfl
  have hactive : u.active = s.active := by
    obtain ⟨_, _, _, h⟩ := vibBlanking_only (adviceStored s t a l) t
    simp only [u, offerAdvice_active, h]
    rfl
  have hrefresh : refreshFor u a = if a = .none then none else loadTimer (s.active.settings.refresh * 10) := by
    rw [refreshFor, hactive]
  unfold changeAdvice
  dsimp only
  rw [hstored]
  change raise (updAdvice u t (fun r => { r with refresh := refreshFor u a })) _ _ _ _ = _
  rw [hrefresh]
  rfl

/-- Two states in which every turbine is wanted the same advice: what advice is formed from agrees. -/
def SameCauses (s u : State) : Prop :=
  (∀ x, (u.turbines.get x).service = (s.turbines.get x).service) ∧ (∀ x, (u.ice.get x).state = (s.ice.get x).state) ∧
    u.advice.active = s.advice.active ∧ u.active = s.active ∧ u.harm = s.harm

/-- The advice of R167 from its four causes. -/
def adviceFrom (service active hold curtail : Bool) : Advice :=
  if service = true ∨ active = false then .none else if hold then .hold else if curtail then .curtail else .none

/-- The advice wanted for a turbine is formed from its four causes. -/
theorem wantedAdvice_eq_adviceFrom (s : State) (t : Tid) : wantedAdvice s t =
    adviceFrom (s.turbines.get t).service s.advice.active (holdRequested s t) (curtailRequested s t) := rfl

/-- Of the same causes comes the same advice. -/
theorem SameCauses.wantedAdvice {s u : State} (h : SameCauses s u) (t : Tid) :
    Machine.wantedAdvice u t = Machine.wantedAdvice s t := by
  obtain ⟨hservice, hice, hmode, hactive, hharm⟩ := h
  simp only [wantedAdvice_eq_adviceFrom, holdRequested, curtailRequested, hservice, hice, hmode, hactive, hharm]

/-- Causes agree with themselves. -/
theorem SameCauses.refl (s : State) : SameCauses s s := ⟨fun _ => rfl, fun _ => rfl, rfl, rfl, rfl⟩

/-- Causes that agree twice agree. -/
theorem SameCauses.trans {s u v : State} (h : SameCauses s u) (k : SameCauses u v) : SameCauses s v := by
  obtain ⟨hservice, hice, hmode, hactive, hharm⟩ := h
  obtain ⟨kservice, kice, kmode, kactive, kharm⟩ := k
  exact ⟨fun x => (kservice x).trans (hservice x), fun x => (kice x).trans (hice x), kmode.trans hmode,
    kactive.trans hactive, kharm.trans hharm⟩

/-- What a raised finding and an offered frame leave: all that advice is formed from. -/
theorem changeAdvice_fields (s : State) (t : Tid) (a : Advice) (l : Nat) :
    (changeAdvice s t a l).turbines = (adviceStored s t a l).turbines ∧
      (changeAdvice s t a l).ice = (adviceStored s t a l).ice ∧
      (changeAdvice s t a l).usage = (adviceStored s t a l).usage ∧
      (changeAdvice s t a l).advice.active = s.advice.active ∧ (changeAdvice s t a l).active = s.active ∧
      (changeAdvice s t a l).harm = s.harm := by
  obtain ⟨_, _, _, h⟩ := vibBlanking_only (adviceStored s t a l) t
  rw [changeAdvice_eq]
  simp only [raise_turbines, raise_ice, raise_usage, raise_advice, raise_active, raise_harm, offerAdvice_turbines,
    offerAdvice_ice, offerAdvice_usage, offerAdvice_mode, offerAdvice_active, offerAdvice_harm, h]
  exact ⟨trivial, trivial, trivial, rfl, rfl, rfl⟩

/-- A change of advice leaves what the advice of the turbines is formed from. -/
theorem changeAdvice_sameCauses (s : State) (t : Tid) (a : Advice) (l : Nat) : SameCauses s (changeAdvice s t a l) := by
  obtain ⟨hturbines, hice, -, hmode, hactive, hharm⟩ := changeAdvice_fields s t a l
  refine ⟨fun x => ?_, fun x => ?_, hmode, hactive, hharm⟩
  · by_cases hx : x = t <;> simp [hturbines, adviceStored, hx]
  · by_cases hx : x = t <;> simp [hice, adviceStored, hx]

/-- An advice computed afresh leaves what the advice of the turbines is formed from. -/
theorem computeAdvice_sameCauses (s : State) (t : Tid) : SameCauses s (computeAdvice s t) := by
  unfold computeAdvice
  dsimp only
  split
  · exact .refl s
  · exact changeAdvice_sameCauses _ _ _ _

/-- The advice and limit that a change stores; the other turbines keep theirs. -/
theorem changeAdvice_stores (s : State) (t : Tid) (a : Advice) (l : Nat) (x : Tid) :
    ((changeAdvice s t a l).advice.recs.get x).advice = (if x = t then a else (s.advice.recs.get x).advice) ∧
      ((changeAdvice s t a l).advice.recs.get x).limit = (if x = t then l else (s.advice.recs.get x).limit) := by
  have hv : (vibBlanking (adviceStored s t a l) t).advice = (adviceStored s t a l).advice := by
    obtain ⟨_, _, _, h⟩ := vibBlanking_only (adviceStored s t a l) t
    rw [h]
  rw [changeAdvice_eq]
  simp only [raise_advice, get_put, offerAdvice_rec, hv]
  by_cases hx : x = t
  · subst hx
    simp [adviceStored]
  · simp [adviceStored, hx]

/-- The advice and limit computed for a turbine; the others keep theirs. -/
theorem computeAdvice_stores (s : State) (t x : Tid) :
    ((computeAdvice s t).advice.recs.get x).advice = (if x = t then wantedAdvice s x else (s.advice.recs.get x).advice) ∧
      ((computeAdvice s t).advice.recs.get x).limit =
        (if x = t then limitFor s.active.settings.reduction (wantedAdvice s x) else (s.advice.recs.get x).limit) := by
  by_cases hx : x = t
  · subst hx
    simp only [if_true]
    by_cases hs : wantedAdvice s x = (s.advice.recs.get x).advice ∧
        limitFor s.active.settings.reduction (wantedAdvice s x) = (s.advice.recs.get x).limit
    · rw [computeAdvice_of_same hs.1 hs.2]
      exact ⟨hs.1.symm, hs.2.symm⟩
    · rw [computeAdvice_of_changed (not_and_or.mp hs)]
      simpa using changeAdvice_stores s x (wantedAdvice s x) (limitFor s.active.settings.reduction (wantedAdvice s x)) x
  · simp only [if_neg hx]
    unfold computeAdvice
    dsimp only
    split
    · exact ⟨rfl, rfl⟩
    · simpa [hx] using changeAdvice_stores s t (wantedAdvice s t)
        (limitFor s.active.settings.reduction (wantedAdvice s t)) x

/-- Advice computed turbine by turbine gives each its wanted advice and limit. -/
theorem foldl_computeAdvice_stores (l : List Tid) (s : State) (x : Tid) :
    SameCauses s (l.foldl computeAdvice s) ∧
    ((l.foldl computeAdvice s).advice.recs.get x).advice =
      (if x ∈ l then wantedAdvice s x else (s.advice.recs.get x).advice) ∧
    ((l.foldl computeAdvice s).advice.recs.get x).limit =
      (if x ∈ l then limitFor s.active.settings.reduction (wantedAdvice s x) else (s.advice.recs.get x).limit) := by
  induction l generalizing s with
  | nil => exact ⟨.refl s, by simp, by simp⟩
  | cons t l ih =>
    obtain ⟨hsame, hadvice, hlimit⟩ := ih (computeAdvice s t)
    have hstep := computeAdvice_sameCauses s t
    have hactive : (computeAdvice s t).active = s.active := hstep.2.2.2.1
    obtain ⟨ha, hl⟩ := computeAdvice_stores s t x
    rw [hstep.wantedAdvice, ha] at hadvice
    rw [hstep.wantedAdvice, hactive, hl] at hlimit
    refine ⟨hstep.trans hsame, hadvice.trans ?_, hlimit.trans ?_⟩
    all_goals by_cases hm : x ∈ l <;> by_cases hx : x = t <;> simp [hm, hx]

/-- Every turbine's advice computed afresh is its wanted advice. -/
theorem computeAllAdvice_stores (s : State) (x : Tid) :
    ((computeAllAdvice s).advice.recs.get x).advice = wantedAdvice s x ∧
      ((computeAllAdvice s).advice.recs.get x).limit = limitFor s.active.settings.reduction (wantedAdvice s x) := by
  obtain ⟨-, ha, hl⟩ := foldl_computeAdvice_stores allTurbines s x
  unfold computeAllAdvice
  rw [ha, hl, if_pos (mem_allTurbines x), if_pos (mem_allTurbines x)]
  exact ⟨rfl, rfl⟩

/-- Every turbine's advice computed afresh leaves what it is formed from. -/
theorem computeAllAdvice_sameCauses (s : State) : SameCauses s (computeAllAdvice s) := by
  unfold computeAllAdvice
  exact (foldl_computeAdvice_stores allTurbines s 0).1

/-- What ADVICE MODE does with a mode. -/
theorem doAdviceMode_of (o : Origin) (active : Bool) (s : State) :
    doAdviceMode o (modeCode active) s = replyDone (setAdviceMode s active) o 50 [] := by
  cases active <;> rfl

/-- Settles O59. -/
theorem adviceFollowsModeAndRefresh : Obligations.AdviceFollowsModeAndRefresh := by
  refine ⟨fun o s active hacc => ⟨fun hsame => ?same, fun hchange => ?change⟩, fun s t hs hdue => ?refresh, fun s t => ?compute⟩
  case same =>
    refine answersDone_of hacc rfl ?_
    rw [doAdviceMode_of, setAdviceMode, if_pos hsame]
  case change =>
    let s1 : State := { s with advice := { s.advice with active := active } }
    have hbody : doAdviceMode o (modeCode active) s = replyDone (computeAllAdvice s1) o 50 [] := by
      rw [doAdviceMode_of, setAdviceMode, if_neg hchange]
    obtain ⟨-, -, hmode, -, -⟩ := computeAllAdvice_sameCauses s1
    have honly := computeAllAdvice_only s1
    refine ⟨computeAllAdvice s1, answersDone_of hacc rfl hbody, hmode, fun t => ?_, fun t => ?_, honly.harm,
      honly.streams, ?_⟩
    · rw [(computeAllAdvice_stores s1 t).1, wantedAdvice_eq]
      rfl
    · rw [(computeAllAdvice_stores s1 t).2, (computeAllAdvice_stores s1 t).1, limitFor_eq]
    · obtain ⟨_, _, _, _, _, _, _, _, h⟩ := honly
      rw [h]
  case refresh =>
    have htake : takeRefresh s t = refreshAdvice s t := if_pos hdue
    have hexec : exec (.refreshExpiry t) s = .next (settle (refreshAdvice s t)) := by
      rw [← htake]
      exact exec_of_event (by rfl) (pathActive_of hs)
    have hrec (x : Tid) : (refreshAdvice s t).advice.recs.get x = { s.advice.recs.get x with
        refresh := if x = t then loadTimer (s.active.settings.refresh * 10) else (s.advice.recs.get x).refresh,
        owed := if x = t ∧ adviceOffer s t = .owed then true else (s.advice.recs.get x).owed } := by
      simp only [refreshAdvice, updAdvice_recs, get_upd, offerAdvice_rec]
      by_cases hx : x = t
      · subst hx
        simp
      · simp [hx]
    refine ⟨refreshAdvice s t, hexec, ?_, ?_, ?_, fun x hx => ?_, rfl, rfl, fun pre g post hq hg hpre => ?_,
      fun hq ho hroom => ?_, fun hq ho => ⟨?_, ?_⟩⟩
    · simp [hrec]
    · simp [hrec]
    · simp [hrec]
    · simp [hrec, hx]
    · have hoff : adviceOffer s t = .replaced := adviceOffer_of_waiting (g := g) (by simp [hq]) hg
      change offeredQueue s t = _
      simp only [offeredQueue, hoff]
      rw [hq, replaceAdvice_append hg hpre]
    · have hoff : adviceOffer s t = .placed := by
        rw [adviceOffer_of_not_waiting hs hq, if_pos ⟨ho, hroom⟩]
      change offeredQueue s t = _
      simp only [offeredQueue, hoff]
    · have hoff : adviceOffer s t = .owed := by
        rw [adviceOffer_of_not_waiting hs hq, if_neg]
        rintro ⟨hf, hroom⟩
        obtain ho | ho := ho
        · simp [hf] at ho
        · omega
      change { s.portU with localQ := offeredQueue s t } = _
      simp only [offeredQueue, hoff]
    · have hoff : adviceOffer s t = .owed := by
        rw [adviceOffer_of_not_waiting hs hq, if_neg]
        rintro ⟨hf, hroom⟩
        obtain ho | ho := ho
        · simp [hf] at ho
        · omega
      simp [hrec, hoff]
  case compute =>
    intro a l old x cause
    have ha : wantedAdvice s t = a := by
      rw [wantedAdvice_eq]
      simp only [holdRequested_iff]
      rfl
    have hl : limitFor s.active.settings.reduction (wantedAdvice s t) = l := by
      rw [ha, limitFor_eq]
    refine ⟨fun h1 h2 => computeAdvice_of_same (ha.trans h1) (hl.trans h2), fun h => ?_⟩
    intro gated told u
    rw [computeAdvice_of_changed (by rw [hl, ha]; exact h), hl, ha]
    exact changeAdvice_eq s t a l

end Sys2Proof.Machine
end

section
/-! PROOF. RESTART (R191): what the ends of the streams leave, and what the restart clears and keeps. -/

namespace Sys2Proof.Machine

/-! ## Masks are written by their command alone (R163) -/

theorem vibDiscarded_masks (s : State) (r : VibRecord) : (vibDiscarded s r).findings.masks = s.findings.masks := by
  unfold vibDiscarded
  dsimp only
  split <;> split <;> simp

theorem startVib_masks (s : State) (r : VibRecord) (rest : List VibRecord) :
    (startVib s r rest).findings.masks = s.findings.masks := by
  unfold startVib
  dsimp only
  split
  · rfl
  · rw [vibDiscarded_masks]

theorem startHarm_masks (s : State) (r : HarmRecord) (rest : List HarmRecord) :
    (startHarm s r rest).findings.masks = s.findings.masks := by
  unfold startHarm
  dsimp only
  split
  · rfl
  · simp [harmDiscarded]

theorem engineOnce_masks (s : State) : (engineOnce s).findings.masks = s.findings.masks := by
  unfold engineOnce
  split
  · split
    · exact startHarm_masks ..
    · exact startVib_masks ..
  · exact startHarm_masks ..
  · exact startVib_masks ..
  · rfl

theorem engineLoop_masks (k : Nat) (s : State) : (engineLoop k s).findings.masks = s.findings.masks := by
  induction k generalizing s with
  | zero => rfl
  | succ k ih =>
    unfold engineLoop
    split
    · rfl
    · rw [ih, engineOnce_masks]

theorem queueVib_masks (s : State) (r : VibRecord) : (queueVib s r).findings.masks = s.findings.masks := by
  unfold queueVib
  dsimp only
  split
  · exact engineLoop_masks _ _
  · rw [vibDiscarded_masks]
    simp

theorem queueHarm_masks (s : State) (r : HarmRecord) : (queueHarm s r).findings.masks = s.findings.masks := by
  unfold queueHarm
  dsimp only
  split
  · exact engineLoop_masks _ _
  · simp [harmDiscarded]

theorem offerTransit_masks (s : State) (p : Port) (f : Frame) :
    (offerTransit s p f).findings.masks = s.findings.masks := by
  unfold offerTransit
  dsimp only
  split <;> simp

/-- No notice writes a mask. -/
theorem Moves.masks {s t : State} (h : Moves s t) : t.findings.masks = s.findings.masks := by
  induction h with
  | refl s => rfl
  | trans _ _ h k => exact k.trans h
  | blocks h =>
    obtain ⟨_, _, _, _, _, _, _, _, _, rfl⟩ := h
    rfl
  | raise => exact raise_masks ..
  | offerAdvice => rfl
  | offerTransit => exact offerTransit_masks ..
  | engineCounts => rfl
  | queueVib => exact queueVib_masks ..
  | queueHarm => exact queueHarm_masks ..

/-! ## Streams ended at RESTART -/

/-- What the ends of streams leave of the parts that RESTART keeps. -/
structure EndKeeps (s t : State) : Prop where
  streams : t.streams = s.streams
  advice : t.advice = s.advice
  portU : t.portU = s.portU
  portD : ∃ q, t.portD = { s.portD with localQ := q }
  main : ∀ x, (t.usage.get x).main = (s.usage.get x).main
  ice : ∀ x, (t.ice.get x).state = (s.ice.get x).state

theorem EndKeeps.refl (s : State) : EndKeeps s s := ⟨rfl, rfl, rfl, ⟨_, rfl⟩, fun _ => rfl, fun _ => rfl⟩

theorem EndKeeps.trans {s t u : State} (h : EndKeeps s t) (k : EndKeeps t u) : EndKeeps s u := by
  obtain ⟨q, hq⟩ := h.portD
  obtain ⟨r, hr⟩ := k.portD
  refine ⟨k.streams.trans h.streams, k.advice.trans h.advice, k.portU.trans h.portU, ⟨r, ?_⟩,
    fun x => (k.main x).trans (h.main x), fun x => (k.ice x).trans (h.ice x)⟩
  rw [hr, hq]

/-- What writes the Vibration Watch and raises keeps them. -/
theorem OnlyVib.endKeeps {s t : State} (h : OnlyVib s t) : EndKeeps s t := by
  obtain ⟨vib, findings, q, rfl⟩ := h
  exact ⟨rfl, rfl, rfl, ⟨_, rfl⟩, fun _ => rfl, fun _ => rfl⟩

/-- A write of a turbine's speed record, operating record, or of the Harmonic Watch. -/
theorem updSpeed_endKeeps (s : State) (t : Tid) (f : SpeedRec → SpeedRec) : EndKeeps s (updSpeed s t f) :=
  ⟨rfl, rfl, rfl, ⟨_, rfl⟩, fun _ => rfl, fun _ => rfl⟩

theorem updTurbine_endKeeps (s : State) (t : Tid) (f : TurbineRec → TurbineRec) : EndKeeps s (updTurbine s t f) :=
  ⟨rfl, rfl, rfl, ⟨_, rfl⟩, fun _ => rfl, fun _ => rfl⟩

theorem setHarm_endKeeps (s : State) (h : HarmWatch) : EndKeeps s (setHarm s h) :=
  ⟨rfl, rfl, rfl, ⟨_, rfl⟩, fun _ => rfl, fun _ => rfl⟩

/-- A gate is no main counter. -/
theorem setGate_endKeeps (s : State) (t : Tid) (c : TimeCounter) (b : Bool) : EndKeeps s (setGate s t c b) := by
  refine ⟨rfl, rfl, rfl, ⟨_, rfl⟩, fun x => ?_, fun _ => rfl⟩
  by_cases hx : x = t <;> simp [setGate, hx]

/-- A discarded block is no change of ice state. -/
theorem discardBlock_endKeeps (c : BlockCause) (s : State) (t : Tid) : EndKeeps s (discardBlock c s t) := by
  refine ⟨rfl, rfl, rfl, ⟨_, rfl⟩, fun _ => rfl, fun x => ?_⟩
  by_cases hx : x = t <;> simp [discardBlock, hx]

/-- The reports of a turbine ended. -/
theorem iceEnded_endKeeps (s : State) (t : Tid) : EndKeeps s (iceEnded s t) := by
  unfold iceEnded
  refine .trans ?_ (discardBlock_endKeeps _ _ _)
  refine ⟨rfl, rfl, rfl, ⟨_, rfl⟩, fun _ => rfl, fun x => ?_⟩
  by_cases hx : x = t <;> simp [updIce, hx]

/-- A turbine whose reports ended is in operating state UNKNOWN, which is no start. -/
theorem operEnded_endKeeps (s : State) (t : Tid) : EndKeeps s (operEnded s t) := by
  unfold operEnded setOper operNotices
  dsimp only
  split
  · exact .refl s
  · simp only [reduceCtorEq, false_and, if_false]
    refine .trans (updTurbine_endKeeps s t (fun r => { r with oper := .unknown })) ?_
    split
    · refine .trans ?_ (discardBlock_endKeeps _ _ _)
      exact (setGate_endKeeps _ _ _ _).trans (vibNotGenerating_only _ _).endKeeps
    · exact .refl _

/-- A turbine whose tachometer ended. -/
theorem speedEnded_endKeeps (s : State) (t : Tid) : EndKeeps s (speedEnded s t) := by
  unfold speedEnded tellLost
  split
  · exact (updSpeed_endKeeps _ _ _).trans (vibTrackingLost_only _ _).endKeeps
  · exact updSpeed_endKeeps _ _ _

/-- A stream of the Harmonic Watch ended. -/
theorem harmEnded_endKeeps (s : State) (i : SlotId) (e : StreamEntry) : EndKeeps s (harmEnded s i e) := by
  unfold harmEnded
  split <;> exact setHarm_endKeeps _ _

/-- A vibration stream ended by RESTART. -/
theorem vibEnded_endKeeps (s : State) (i : SlotId) : EndKeeps s (vibEnded s i .restart) :=
  OnlyVib.endKeeps ⟨_, _, _, rfl⟩

/-- A stream of any role ended by RESTART. -/
theorem tellEnded_endKeeps (s : State) (i : SlotId) (e : StreamEntry) : EndKeeps s (tellEnded s i e .restart) := by
  unfold tellEnded
  split
  · exact vibEnded_endKeeps s i
  · exact speedEnded_endKeeps s _
  · exact (operEnded_endKeeps s _).trans (iceEnded_endKeeps _ _)
  · exact harmEnded_endKeeps s i e
  · exact harmEnded_endKeeps s i e
  · exact harmEnded_endKeeps s i e
  · exact .refl s

/-- A slot's stream ended by RESTART. -/
theorem endAtRestart_endKeeps (s : State) (i : SlotId) : EndKeeps s (endAtRestart s i) := by
  unfold endAtRestart
  split
  · unfold endIfLive
    split
    · exact tellEnded_endKeeps s i _
    · exact .refl s
  · exact .refl s

/-- Streams ended one after another. -/
theorem foldl_endAtRestart_endKeeps (l : List SlotId) (s : State) : EndKeeps s (l.foldl endAtRestart s) :=
  foldl_keeps (P := EndKeeps s) (fun u i h => h.trans (endAtRestart_endKeeps u i)) l s (.refl s)

/-- Windows dropped. -/
theorem dropWindows_endKeeps (s : State) : EndKeeps s (dropWindows s) :=
  ⟨rfl, rfl, rfl, ⟨_, rfl⟩, fun _ => rfl, fun _ => rfl⟩

/-! ## Grades and advice formed again on cleared tables -/

/-- The tables that RESTART has cleared: no vibration record, no icing block; the main counters as given. -/
def Cleared (main : Tid → MainCounters) (s : State) : Prop :=
  (∀ i, s.vib.recs.get i = none) ∧ (∀ x, (s.ice.get x).blockCount = 0) ∧ ∀ x, (s.usage.get x).main = main x

/-- The unit's state is none of them. -/
theorem Cleared.with_cmd {m : Tid → MainCounters} {s : State} (h : Cleared m s) (c : UnitState) :
    Cleared m { s with cmd := c } := h

/-- Without a record there is no window to end. -/
theorem vibBlanking_of_cleared {s : State} (h : ∀ i, s.vib.recs.get i = none) (t : Tid) : vibBlanking s t = s := by
  refine foldl_fixed (fun i => ?_) _
  simp only [abandonWindow, windowAt, h]

/-- A change of advice brings no record and no block, and writes no main counter. -/
theorem changeAdvice_cleared {m : Tid → MainCounters} {s : State} (h : Cleared m s) (t : Tid) (a : Advice) (l : Nat) :
    Cleared m (changeAdvice s t a l) := by
  obtain ⟨hrecs, hice, hmain⟩ := h
  obtain ⟨-, hice', husage', -⟩ := changeAdvice_fields s t a l
  have hvib : (changeAdvice s t a l).vib = s.vib := by
    rw [changeAdvice_eq]
    simp only [raise_vib, offerAdvice_vib]
    rw [vibBlanking_of_cleared (s := adviceStored s t a l) hrecs]
    rfl
  refine ⟨fun i => ?_, fun x => ?_, fun x => ?_⟩
  · rw [hvib, hrecs]
  · rw [hice']
    by_cases hx : x = t <;> simp [adviceStored, hx, hice]
  · rw [husage', adviceStored]
    dsimp only
    split
    · exact hmain x
    · by_cases hx : x = t <;> simp [hx, hmain]

/-- Advice computed brings no record and no block, and writes no main counter. -/
theorem computeAllAdvice_cleared {m : Tid → MainCounters} {s : State} (h : Cleared m s) :
    Cleared m (computeAllAdvice s) := by
  refine foldl_keeps (P := Cleared m) (fun u t hu => ?_) _ _ h
  unfold computeAdvice
  dsimp only
  split
  · exact hu
  · exact changeAdvice_cleared hu _ _ _

/-- Grades formed again bring no record and no block, and write no main counter. -/
theorem foldl_formGrades_cleared {m : Tid → MainCounters} (l : List Tid) {s : State} (h : Cleared m s) :
    Cleared m (l.foldl formGrades s) := by
  refine foldl_keeps (P := Cleared m) (fun u t hu => ?_) _ _ h
  obtain ⟨_, _, _, _, he, -⟩ := formGrades_spec u t
  rw [he]
  exact hu

/-! ## RESTART -/

/-- The part after the ends of its streams. -/
@[irreducible] def endedAll (s : State) : State := allSlots.foldl endAtRestart (dropWindows s)

/-- The part with its tables cleared and its grades formed again. -/
@[irreducible] def regraded (s : State) : State := allTurbines.foldl formGrades (blocksRestarted (endedAll s))

/-- The restart, its stages named. -/
theorem restartNow_eq (s : State) : restartNow s = { computeAllAdvice (regraded s) with cmd := .ready } := by
  unfold restartNow regraded endedAll
  rfl

/-- The ends of the streams are notices. -/
theorem endedAll_moves (s : State) : Moves s (endedAll s) := by
  unfold endedAll
  exact .trans (.blocks ⟨_, _, _, _, _, _, _, _, _, rfl⟩) (.foldl endAtRestart_moves allSlots (dropWindows s))

/-- The ends of the streams leave what RESTART keeps. -/
theorem endedAll_endKeeps (s : State) : EndKeeps s (endedAll s) := by
  unfold endedAll
  exact EndKeeps.trans (dropWindows_endKeeps s) (foldl_endAtRestart_endKeeps allSlots (dropWindows s))

/-- The blocks cleared by a restart are cleared. -/
theorem blocksRestarted_cleared (s : State) :
    Cleared (fun x => (s.usage.get x).main) (blocksRestarted (endedAll s)) := by
  have hmain := (endedAll_endKeeps s).main
  refine ⟨fun i => ?_, fun x => ?_, fun x => ?_⟩
  · simp [blocksRestarted]
  · simp [blocksRestarted, iceRestarted]
  · simp [blocksRestarted, hmain]

/-- The grades formed again after the blocks are cleared. -/
theorem regraded_only (s : State) : OnlyGrades (blocksRestarted (endedAll s)) (regraded s) := by
  unfold regraded
  exact .foldl formGrades_only allTurbines (blocksRestarted (endedAll s))

/-- The cleared tables of a restart, its grades and advice formed again. -/
theorem restartNow_cleared (s : State) : Cleared (fun x => (s.usage.get x).main) (restartNow s) := by
  have hgrades : Cleared (fun x => (s.usage.get x).main) (regraded s) := by
    unfold regraded
    exact foldl_formGrades_cleared allTurbines (blocksRestarted_cleared s)
  rw [restartNow_eq]
  exact (computeAllAdvice_cleared hgrades).with_cmd _

/-- A restart leaves every ice state. -/
theorem restartNow_ice (s : State) (x : Tid) : ((restartNow s).ice.get x).state = (s.ice.get x).state := by
  obtain ⟨-, hadvice, -, -, -⟩ := computeAllAdvice_sameCauses (regraded s)
  have hgrades : (regraded s).ice = (blocksRestarted (endedAll s)).ice := by
    obtain ⟨_, _, _, _, h⟩ := regraded_only s
    rw [h]
  have hend := (endedAll_endKeeps s).ice x
  rw [restartNow_eq]
  dsimp only
  refine (hadvice x).trans ?_
  rw [hgrades, ← hend]
  simp [blocksRestarted, iceRestarted]

/-- A restart writes no mask. -/
theorem restartNow_masks (s : State) : (restartNow s).findings.masks = s.findings.masks := by
  have hgrades : Moves (blocksRestarted (endedAll s)) (regraded s) := by
    unfold regraded
    exact .foldl formGrades_moves allTurbines (blocksRestarted (endedAll s))
  have hend : (blocksRestarted (endedAll s)).findings.masks = s.findings.masks := (endedAll_moves s).masks
  rw [restartNow_eq]
  dsimp only
  exact (hgrades.trans (computeAllAdvice_moves _)).masks.trans hend

/-- What a restart writes beside the cleared blocks, once the advice has been formed again. -/
theorem restartNow_only (s : State) : ∃ usage ice turbines vib items advice findings p q,
    restartNow s = { blocksRestarted (endedAll s) with
      usage := usage, ice := ice, turbines := turbines, vib := vib, items := items, advice := advice, findings := findings,
      portU := { (blocksRestarted (endedAll s)).portU with localQ := p },
      portD := { (blocksRestarted (endedAll s)).portD with localQ := q }, cmd := .ready } := by
  obtain ⟨_, _, _, _, _, _, _, _, hadvice⟩ := computeAllAdvice_only (regraded s)
  obtain ⟨_, _, _, _, hgrades⟩ := regraded_only s
  rw [restartNow_eq, hadvice, hgrades]
  exact ⟨_, _, _, _, _, _, _, _, _, rfl⟩

/-- A restart leaves the advice mode. -/
theorem restartNow_mode (s : State) : (restartNow s).advice.active = s.advice.active := by
  obtain ⟨-, -, hmode, -, -⟩ := computeAllAdvice_sameCauses (regraded s)
  have hgrades : (regraded s).advice = (blocksRestarted (endedAll s)).advice := by
    obtain ⟨_, _, _, _, h⟩ := regraded_only s
    rw [h]
  have hend : (blocksRestarted (endedAll s)).advice = s.advice := (endedAll_endKeeps s).advice
  rw [restartNow_eq]
  dsimp only
  refine hmode.trans ?_
  rw [hgrades, hend]

/-- Settles O60. -/
theorem restartClearsTheAnalysis : Obligations.RestartClearsTheAnalysis := by
  refine ⟨fun o s hacc => exec_of_accepts (c := .restart o) (body := doRestart o) hacc rfl, fun s hs hcmd => ?_⟩
  have htake : takeRestart s = restartNow s := if_pos hcmd
  have hready : (restartNow s).cmd = .ready := rfl
  have hexec : exec .restartExecute s = .next (formAttn (restartNow s)) := by
    rw [← settle_eq_formAttn (fun p hp => by rw [hready] at hp; cases hp), ← htake]
    exact exec_of_event (by rfl) (pathActive_of hs)
  obtain ⟨hrecs, hblocks, hmain⟩ := restartNow_cleared s
  have hice := restartNow_ice s
  have hmasks := restartNow_masks s
  have hmode := restartNow_mode s
  have hbeside := (endedAll_moves s).beside
  have hkeeps := endedAll_endKeeps s
  obtain ⟨portDq, hportD⟩ := hkeeps.portD
  have hstreams : (blocksRestarted (endedAll s)).streams = streamsRestarted s.streams := by
    rw [← hkeeps.streams]
    rfl
  have hactive : (blocksRestarted (endedAll s)).active = activeRestarted s.active := by
    rw [← hbeside.active]
    rfl
  have hstaged : (blocksRestarted (endedAll s)).staged = { Staged.reset with settings := s.active.settings } := by
    rw [← hbeside.active]
    rfl
  have hportU : (blocksRestarted (endedAll s)).portU = portRestarted s.portU := by
    rw [← hkeeps.portU]
    rfl
  have hportD' : (blocksRestarted (endedAll s)).portD = portRestarted { s.portD with localQ := portDq } := by
    rw [← hportD]
    rfl
  refine ⟨formAttn (restartNow s), hexec, rfl, ?_⟩
  have hform : ∀ u : State, (formAttn u).findings.masks = u.findings.masks := fun _ => rfl
  simp only [formAttn_standing, formAttn_node, formAttn_umgt, formAttn_portU, formAttn_portD, formAttn_streams,
    formAttn_speeds, formAttn_engine, formAttn_active, formAttn_staged, formAttn_vib, formAttn_harm, formAttn_ice,
    formAttn_clock, formAttn_usage, formAttn_store, formAttn_image, formAttn_advice, hform, hrecs, hblocks, hmain, hice,
    hmasks, hmode]
  obtain ⟨_, _, _, _, _, _, _, _, _, honly⟩ := restartNow_only s
  rw [honly]
  dsimp only
  rw [hstreams, hactive, hstaged, hportU, hportD']
  refine ⟨hbeside.standing.trans hs, fun i => ?_, rfl, rfl, rfl, fun x => ?_, rfl, rfl, rfl, rfl, rfl, rfl, rfl, rfl, rfl,
    fun _ => trivial, rfl, fun _ => ⟨trivial, trivial⟩, hbeside.clock, fun _ => trivial, hbeside.store, hbeside.image,
    trivial, trivial, rfl, rfl, rfl, rfl, rfl, rfl, rfl, rfl, hbeside.node, hbeside.umgt⟩
  · simp [streamsRestarted, emptiedSlot]
  · simp [blocksRestarted]

end Sys2Proof.Machine
end

section
/-! PROOF. The end of the restore (R155, R156, R173): what the counters, items, store and ports are left as, and the findings. -/

namespace Sys2Proof.Machine

/-! ## The result of a restore -/

/-- The records after the header are read where something was answered and the header is good. -/
theorem recordsRead_iff (im : Image) (answered : Nat) :
    recordsRead (restoreResult im answered) = true ↔ 0 < answered ∧ im.header = true := by
  unfold restoreResult
  split_ifs with h0 hh hb
  · simp [recordsRead, h0]
  · simp [recordsRead, hh]
  · simp [recordsRead, Nat.pos_of_ne_zero h0, Bool.eq_true_of_not_eq_false hh]
  · simp [recordsRead, Nat.pos_of_ne_zero h0, Bool.eq_true_of_not_eq_false hh]

/-- A restore in which nothing was answered. -/
theorem restoreResult_absent {im : Image} {answered : Nat} (h : answered = 0) : restoreResult im answered = .absent :=
  if_pos h

/-- A restore whose header is bad. -/
theorem restoreResult_invalid {im : Image} {answered : Nat} (h : 0 < answered) (hh : im.header = false) :
    restoreResult im answered = .invalid := by
  rw [restoreResult, if_neg (Nat.ne_of_gt h), if_pos hh]

/-- A restore of which every record is good. -/
theorem restoreResult_good {im : Image} {answered : Nat} (h : 0 < answered) (hh : im.header = true)
    (hb : badBlocks im answered = 0) (hi : badItems im answered = 0) : restoreResult im answered = .good := by
  rw [restoreResult, if_neg (Nat.ne_of_gt h), if_neg (by simp [hh]), if_pos ⟨hb, hi⟩]

/-- A restore that lost a record. -/
theorem restoreResult_part {im : Image} {answered : Nat} (h : 0 < answered) (hh : im.header = true)
    (hl : 0 < badBlocks im answered ∨ 0 < badItems im answered) : restoreResult im answered = .part := by
  rw [restoreResult, if_neg (Nat.ne_of_gt h), if_neg (by simp [hh]), if_neg]
  rintro ⟨hb, hi⟩
  omega

/-- The store is ABSENT where nothing was answered and IDLE otherwise. -/
theorem storeAfterRestore_state (s : State) (answered : Nat) :
    (storeAfterRestore s answered).store.state = if answered = 0 then .absent else .idle := by
  by_cases h : answered = 0
  · simp only [storeAfterRestore, restoreResult_absent h, if_pos h]
  · unfold storeAfterRestore
    rw [if_neg h]
    split
    · next habs =>
      unfold restoreResult at habs
      rw [if_neg h] at habs
      split_ifs at habs
    all_goals rfl

/-- The main counters that a restore leaves. -/
theorem fillRestored_main (s : State) (answered : Nat) (x : Tid) :
    ((fillRestored s answered).usage.get x).main =
      if 0 < answered ∧ s.image.header = true then (restoredBlock s.image answered x).getD .zero else .zero := by
  unfold fillRestored
  by_cases h : recordsRead (restoreResult s.image answered) = true
  · rw [if_pos h, if_pos ((recordsRead_iff _ _).mp h)]
    simp
  · rw [if_neg h, if_neg (mt (recordsRead_iff _ _).mpr h)]
    simp

/-- The items that a restore leaves, before they are evaluated. -/
theorem fillRestored_items (s : State) (answered : Nat) (i : ItemId) :
    (fillRestored s answered).items.get i =
      if 0 < answered ∧ s.image.header = true then (restoredItem s.image answered i).getD none else none := by
  unfold fillRestored
  by_cases h : recordsRead (restoreResult s.image answered) = true
  · rw [if_pos h, if_pos ((recordsRead_iff _ _).mp h)]
    simp
  · rw [if_neg h, if_neg (mt (recordsRead_iff _ _).mpr h)]
    simp

/-! ## The stages of the end of the restore -/

/-- Counters, items and store filled, before any finding. -/
theorem restoreFilled_eq (s : State) (answered : Nat) :
    storeAfterRestore (fillRestored s answered) answered = { s with
      usage := (fillRestored s answered).usage, items := (fillRestored s answered).items,
      store := (storeAfterRestore (fillRestored s answered) answered).store } := by
  have hfill : fillRestored s answered = { s with
      usage := (fillRestored s answered).usage, items := (fillRestored s answered).items } := by
    unfold fillRestored
    split <;> rfl
  have hstore : storeAfterRestore (fillRestored s answered) answered = { fillRestored s answered with
      store := (storeAfterRestore (fillRestored s answered) answered).store } := by
    unfold storeAfterRestore
    split <;> rfl
  rw [hstore, hfill]

/-- The finding of a restore is a finding. -/
theorem restoreFinding_only (s : State) (im : Image) (answered : Nat) : OnlyItems s (restoreFinding s im answered) := by
  unfold restoreFinding
  split
  · exact ⟨_, _, _, rfl⟩
  · exact ⟨_, _, _, rfl⟩
  · exact ⟨_, _, _, rfl⟩
  · exact .refl s

/-- The findings of a restore and the evaluations write the items, the Finding Unit and Port D's local queue. -/
theorem restored_only (s : State) (answered : Nat) :
    OnlyItems (storeAfterRestore (fillRestored s answered) answered) (restored s answered) := by
  unfold restored
  exact (restoreFinding_only _ _ _).trans (.foldl evaluateItem_only allItems _)

/-- What a restore leaves of the part: the counters, items and store filled, and findings raised. -/
theorem restored_eq (s : State) (answered : Nat) : ∃ items findings q, restored s answered = { s with
    usage := (fillRestored s answered).usage, items := items,
    store := (storeAfterRestore (fillRestored s answered) answered).store, findings := findings,
    portD := { s.portD with localQ := q } } := by
  obtain ⟨items, findings, q, h⟩ := restored_only s answered
  rw [h, restoreFilled_eq]
  exact ⟨_, _, _, rfl⟩

/-- A port that takes its link state writes the two ports and the Finding Unit. -/
theorem takeLinkState_eq (s : State) (p : Port) : ∃ pu pd findings,
    takeLinkState s p = { s with portU := pu, portD := pd, findings := findings } := by
  unfold takeLinkState
  split
  · exact ⟨_, _, s.findings, rfl⟩
  · exact ⟨s.portU, _, _, rfl⟩

/-- A port is up where it was or its line is. -/
theorem takeLinkState_up (s : State) (p : Port) :
    (portOf (takeLinkState s p) p).up = ((portOf s p).up || (portOf s p).signal) := by
  unfold takeLinkState
  cases h : (portOf s p).signal
  · cases p <;> simp
  · cases p <;> simp [updPort, setPort]

/-- The other port's link and line stay. -/
theorem takeLinkState_other (s : State) {p q : Port} (h : q ≠ p) :
    (portOf (takeLinkState s p) q).up = (portOf s q).up ∧ (portOf (takeLinkState s p) q).signal = (portOf s q).signal := by
  unfold takeLinkState
  cases p <;> cases q
  · exact absurd rfl h
  · split <;> exact ⟨rfl, rfl⟩
  · split <;> exact ⟨rfl, rfl⟩
  · exact absurd rfl h

/-- The end of the restore past the counters, items and store: the path ACTIVE, ports and findings written. -/
theorem restoreEnded_eq (s : State) (answered : Nat) : ∃ pu pd findings, restoreEnded s answered =
    { restored s answered with standing := .active, portU := pu, portD := pd, findings := findings } := by
  unfold restoreEnded
  generalize restored s answered = x
  obtain ⟨_, _, _, hu⟩ := takeLinkState_eq (raiseStarted x s.image answered) .u
  obtain ⟨_, _, _, hd⟩ := takeLinkState_eq (takeLinkState (raiseStarted x s.image answered) .u) .d
  dsimp only
  rw [hd, hu]
  exact ⟨_, _, _, rfl⟩

/-- What the end of the restore leaves beside the ports and the findings. -/
theorem restoreEnded_fields (s : State) (answered : Nat) :
    (restoreEnded s answered).usage = (fillRestored s answered).usage ∧
      (restoreEnded s answered).store = (storeAfterRestore (fillRestored s answered) answered).store ∧
      (restoreEnded s answered).image = s.image ∧ (restoreEnded s answered).clock = s.clock ∧
      (restoreEnded s answered).streams = s.streams ∧ (restoreEnded s answered).turbines = s.turbines ∧
      (restoreEnded s answered).cmd = s.cmd := by
  obtain ⟨_, _, _, hended⟩ := restoreEnded_eq s answered
  obtain ⟨_, _, _, hrestored⟩ := restored_eq s answered
  rw [hended, hrestored]
  exact ⟨rfl, rfl, rfl, rfl, rfl, rfl, rfl⟩

/-- The two ports that take their link states, Port U first. -/
theorem takeLinkStates_up (x : State) :
    (takeLinkState (takeLinkState x .u) .d).portU.up = (x.portU.up || x.portU.signal) ∧
      (takeLinkState (takeLinkState x .u) .d).portD.up = (x.portD.up || x.portD.signal) := by
  have hu : (takeLinkState x .u).portU.up = (x.portU.up || x.portU.signal) := takeLinkState_up x .u
  have hd : (takeLinkState (takeLinkState x .u) .d).portD.up =
      ((takeLinkState x .u).portD.up || (takeLinkState x .u).portD.signal) := takeLinkState_up (takeLinkState x .u) .d
  obtain ⟨hup, hsig⟩ : (takeLinkState x .u).portD.up = x.portD.up ∧ (takeLinkState x .u).portD.signal = x.portD.signal :=
    takeLinkState_other x (p := .u) (q := .d) (by decide)
  have hkept : (takeLinkState (takeLinkState x .u) .d).portU.up = (takeLinkState x .u).portU.up :=
    (takeLinkState_other (takeLinkState x .u) (p := .d) (q := .u) (by decide)).1
  exact ⟨hkept.trans hu, by rw [hd, hup, hsig]⟩

/-- Each port is up at the end of the restore where it was or its line is. -/
theorem restoreEnded_up (s : State) (answered : Nat) :
    (restoreEnded s answered).portU.up = (s.portU.up || s.portU.signal) ∧
      (restoreEnded s answered).portD.up = (s.portD.up || s.portD.signal) := by
  obtain ⟨_, _, _, hrestored⟩ := restored_eq s answered
  unfold restoreEnded
  rw [hrestored]
  exact takeLinkStates_up (raiseStarted _ s.image answered)

/-- The end of the restore as a step. -/
theorem exec_restoreComplete {s : State} (hs : s.standing = .restoring) (answered : Nat) :
    exec (.restoreComplete answered) s = .next (settle (restoreEnded s answered)) :=
  exec_of_event (by rfl) (decide_eq_true hs)

/-! ## Items evaluated one after another -/

/-- An item as an evaluation leaves it. -/
def evaluated (s : State) (it : Item) : Item := { it with state := if Asleep s it then it.state else stateNow s it }

/-- An item evaluated again is as it was after the first evaluation. -/
theorem evaluated_evaluated (s : State) (it : Item) : evaluated s (evaluated s it) = evaluated s it := by
  by_cases h : Asleep s it
  · have he : evaluated s it = it := by simp only [evaluated, if_pos h]
    rw [he, he]
  · have h' : ¬ Asleep s (evaluated s it) := h
    rw [evaluated, if_neg h']
    simp only [evaluated, if_neg h]
    rfl

/-- An evaluation depends on the clock and the counters. -/
theorem OnlyItems.evaluated {s t : State} (h : OnlyItems s t) (it : Item) :
    Machine.evaluated t it = Machine.evaluated s it := by
  obtain ⟨_, _, _, rfl⟩ := h
  rfl

/-- One evaluation: the slot's item evaluated, the others as they were. -/
theorem evaluateItem_get_eq (s : State) (i j : ItemId) : (evaluateItem s i).items.get j =
    if j = i then (s.items.get j).map (evaluated s) else s.items.get j := by
  split
  · next h =>
    subst h
    cases hi : s.items.get j with
    | none => rw [evaluateItem_of_none hi, hi]; rfl
    | some it => exact evaluateItem_get hi
  · next h => exact evaluateItem_get_of_ne s h

/-- Items evaluated one after another: each slot in the list evaluated, the others as they were. -/
theorem foldl_evaluateItem_get (l : List ItemId) (s : State) (j : ItemId) : (l.foldl evaluateItem s).items.get j =
    if j ∈ l then (s.items.get j).map (evaluated s) else s.items.get j := by
  induction l generalizing s with
  | nil => rfl
  | cons i l ih =>
    have hsame : evaluated (evaluateItem s i) = evaluated s := funext (evaluateItem_only s i).evaluated
    rw [List.foldl_cons, ih, hsame, evaluateItem_get_eq]
    have htwice : (s.items.get j).map (evaluated s ∘ evaluated s) = (s.items.get j).map (evaluated s) :=
      congrArg (fun f => (s.items.get j).map f) (funext (evaluated_evaluated s))
    by_cases hj : j = i
    · subst hj
      by_cases hl : j ∈ l <;> simp [hl, htwice]
    · simp [hj]

/-! ## The findings of the restore, result by result -/

/-- The end of the restore from the state `w` in which the items are evaluated, and from what STARTED carries. -/
theorem restoreEnded_of {s w : State} {answered result blocks items : Nat}
    (hw : restored s answered = allItems.foldl evaluateItem w)
    (hr : storeResultCode (restoreResult s.image answered) = result)
    (hb : badCounts s.image answered = (blocks, items)) :
    restoreEnded s answered = findingLook { takeLinkState (takeLinkState
      (raise (allItems.foldl evaluateItem w) .started none .none
        [vNat result, vNat blocks, vNat items, vNat s.node, vNat (flagCode s.umgt)]) .u) .d with standing := .active } := by
  obtain ⟨_, _, _, hrestored⟩ := restored_eq s answered
  have hnode : (restored s answered).node = s.node := by rw [hrestored]
  have humgt : (restored s answered).umgt = s.umgt := by rw [hrestored]
  unfold restoreEnded raiseStarted
  rw [hr, hb, hnode, humgt, hw]

/-- The state in which the items are evaluated, where no record was read. -/
theorem restored_of_unread {s : State} {answered : Nat} (h : recordsRead (restoreResult s.image answered) = false) :
    restored s answered = allItems.foldl evaluateItem (restoreFinding (storeAfterRestore
      { s with usage := mapTab (fun u => { u with main := .zero }) s.usage, items := Vector.replicate 96 none } answered)
      s.image answered) := by
  unfold restored fillRestored
  rw [if_neg (by simp [h])]

/-- The state in which the items are evaluated, where the records were read. -/
theorem restored_of_read {s : State} {answered : Nat} (h : recordsRead (restoreResult s.image answered) = true) :
    restored s answered = allItems.foldl evaluateItem (restoreFinding (storeAfterRestore
      { s with usage := tabOf (fun x => { s.usage.get x with main := (restoredBlock s.image answered x).getD .zero }),
               items := tabOf (fun i => (restoredItem s.image answered i).getD none) } answered) s.image answered) := by
  unfold restored fillRestored
  rw [if_pos h]

/-- The items at the end of the restore: those of the good records, evaluated. -/
theorem restored_items_get (s : State) (answered : Nat) (i : ItemId) : ∃ w : State,
    w.clock = s.clock ∧ w.usage = (fillRestored s answered).usage ∧
      (restored s answered).items.get i =
        (if 0 < answered ∧ s.image.header = true then (restoredItem s.image answered i).getD none else none).map
          (evaluated w) := by
  have honly := restoreFinding_only (storeAfterRestore (fillRestored s answered) answered) s.image answered
  refine ⟨storeAfterRestore (fillRestored s answered) answered, ?_, ?_, ?_⟩
  · rw [restoreFilled_eq]
  · rw [restoreFilled_eq]
  · have hitems : (restoreFinding (storeAfterRestore (fillRestored s answered) answered) s.image answered).items =
        (fillRestored s answered).items := by
      have h : (storeAfterRestore (fillRestored s answered) answered).items = (fillRestored s answered).items := by
        rw [restoreFilled_eq]
      rw [← h]
      unfold restoreFinding
      split <;> rfl
    unfold restored
    rw [foldl_evaluateItem_get, if_pos (mem_allItems i), hitems, fillRestored_items, funext honly.evaluated]

/-- Settles O12. -/
theorem restoreFillsAndActivates : Obligations.RestoreFillsAndActivates := by
  have hstep (answered : Nat) (s : State) (hs : s.standing = .restoring) (hc : ∀ p, s.cmd ≠ .commit p) :
      exec (.restoreComplete answered) s = .next (formAttn (restoreEnded s answered)) := by
    obtain ⟨-, -, -, -, -, -, hcmd⟩ := restoreEnded_fields s answered
    rw [exec_restoreComplete hs, settle_eq_formAttn (fun p hp => hc p (hcmd ▸ hp))]
  refine ⟨fun answered s hs hc => ?ends, fun answered s hs => ?stages, fun s p => ⟨fun h => ?up, fun h => ?down⟩⟩
  case up => simp only [takeLinkState, h, if_true, updPort]
  case down => simp only [takeLinkState, h, Bool.false_eq_true, if_false]
  case ends =>
    obtain ⟨husage, hstore, himage, hclock, hstreams, hturbines, -⟩ := restoreEnded_fields s answered
    obtain ⟨hu, hd⟩ := restoreEnded_up s answered
    obtain ⟨_, _, _, hended⟩ := restoreEnded_eq s answered
    have hstanding : (restoreEnded s answered).standing = .active := by rw [hended]
    refine ⟨_, hstep answered s hs hc, ?_⟩
    simp only [formAttn_standing, formAttn_usage, formAttn_store, formAttn_portU, formAttn_portD, formAttn_image,
      formAttn_clock, formAttn_streams, formAttn_turbines, husage, hstore, himage, hclock, hstreams, hturbines, hstanding]
    refine ⟨trivial, fun x => ?main, storeAfterRestore_state _ _, hu, hd, trivial, trivial, trivial, trivial⟩
    case main =>
      rw [fillRestored_main]
      simp only [restoredBlock, Image.blocks, get_tabOf]
      by_cases hr : 0 < answered ∧ s.image.header = true <;> by_cases hx : x.val + 1 < answered <;> simp [hr, hx]
  case stages =>
    intro block item lostBlocks lostItems emptied filled absent idle ends
    refine ⟨fun h0 => ?absent, fun h0 hh => ?invalid, fun h0 hh hb hi => ?good, fun h0 hh hl => ?part,
      fun hclock hc => ⟨_, hstep answered s hs hc, fun i => ?items⟩⟩
    case absent =>
      have hr : restoreResult s.image answered = .absent := restoreResult_absent h0
      refine (exec_restoreComplete hs answered).trans ?_
      rw [restoreEnded_of (restored_of_unread (by rw [hr]; rfl)) (by rw [hr])
        (by rw [badCounts, hr])]
      simp only [storeAfterRestore, restoreFinding, hr]
      rfl
    case invalid =>
      have hr : restoreResult s.image answered = .invalid := restoreResult_invalid h0 hh
      refine (exec_restoreComplete hs answered).trans ?_
      rw [restoreEnded_of (restored_of_unread (by rw [hr]; rfl)) (by rw [hr])
        (by rw [badCounts, hr])]
      simp only [storeAfterRestore, restoreFinding, hr]
      rfl
    case good =>
      have hr : restoreResult s.image answered = .good := restoreResult_good h0 hh hb hi
      refine (exec_restoreComplete hs answered).trans ?_
      rw [restoreEnded_of (blocks := 0) (items := 0) (restored_of_read (by rw [hr]; rfl)) (by rw [hr])
        (by rw [badCounts, hr]; exact Prod.ext hb hi)]
      simp only [storeAfterRestore, restoreFinding, hr]
      rfl
    case part =>
      have hr : restoreResult s.image answered = .part := restoreResult_part h0 hh hl
      refine (exec_restoreComplete hs answered).trans ?_
      rw [restoreEnded_of (blocks := lostBlocks) (items := lostItems) (restored_of_read (by rw [hr]; rfl))
        (by rw [hr]) (by rw [badCounts, hr]; rfl)]
      simp only [storeAfterRestore, restoreFinding, hr, badCounts]
      rfl
    case items =>
      obtain ⟨w, hwclock, hwusage, hget⟩ := restored_items_get s answered i
      obtain ⟨_, _, _, hended⟩ := restoreEnded_eq s answered
      have hitems : (restoreEnded s answered).items = (restored s answered).items := by rw [hended]
      rw [formAttn_items, hitems, hget]
      by_cases hr : 0 < answered ∧ s.image.header = true
      · rw [if_pos hr, if_pos hr]
        refine congrArg (fun f => ((item i).getD none).map f) (funext fun it => ?_)
        have hmain := fillRestored_main s answered it.turbine
        rw [if_pos hr, ← hwusage] at hmain
        by_cases hdays : it.basis = .days
        · have hasleep : Asleep w it := ⟨hdays, by rw [hwclock]; exact hclock⟩
          rw [evaluated, if_pos hasleep, if_pos hdays]
        · have hawake : ¬ Asleep w it := fun h => hdays h.1
          rw [evaluated, if_neg hawake, if_neg hdays, stateNow, basisValue, if_neg hdays, hmain]
          rfl
      · rw [if_neg hr, if_neg hr]
        rfl

end Sys2Proof.Machine
end

section
/-! PROOF. The transmitter (R164, R169, R179) and the frames it sends (R175, R193). -/

namespace Sys2Proof.Machine

/-! ## The Finding Unit's look (R164) -/

/-- With more than 12 frames in the local queue, or no record, the look places nothing. -/
theorem lookLoop_of_stop {fu : FindingUnit} {q : List LocalFrame} (h : fu.queue = [] ∨ 12 < q.length) (node hs : Nat)
    (st : Stamp) (k : Nat) : lookLoop node hs st k fu q = (fu, q) := by
  cases k with
  | zero => rfl
  | succ k =>
    unfold lookLoop
    split
    · rfl
    · next hq =>
      refine if_neg (show ¬ q.length + 4 ≤ 16 from ?_)
      obtain h | h := h
      · exact absurd (hq.symm.trans h) (by simp)
      · omega

/-- While at most 12 frames stand in the local queue, the look places the oldest record and looks on. -/
theorem lookLoop_of_room {fu : FindingUnit} {q : List LocalFrame} {f : Finding} {rest : List Finding}
    (hf : fu.queue = f :: rest) (hq : q.length ≤ 12) (node hs : Nat) (st : Stamp) (k : Nat) :
    lookLoop node hs st (k + 1) fu q = lookLoop node hs st k
      (checkLost st { fu with queue := rest, frameSeq := (fu.frameSeq + 1) % 256 })
      (q ++ [findingFrame node hs fu.frameSeq f]) := by
  rw [lookLoop]
  simp only [hf]
  exact if_pos (show q.length + 4 ≤ 16 by omega)

/-- Fuel for the places that are free is enough. -/
theorem lookLoop_fuel (node hs : Nat) (st : Stamp) (k : Nat) (fu : FindingUnit) (q : List LocalFrame)
    (h : 13 ≤ k + q.length) : lookLoop node hs st (k + 1) fu q = lookLoop node hs st k fu q := by
  induction k generalizing fu q with
  | zero =>
    have hfull : 12 < q.length := by omega
    rw [lookLoop_of_stop (.inr hfull), lookLoop_of_stop (.inr hfull)]
  | succ k ih =>
    by_cases hq : q.length ≤ 12
    · cases hf : fu.queue with
      | nil => rw [lookLoop_of_stop (.inl hf), lookLoop_of_stop (.inl hf)]
      | cons f rest =>
        have hlen : 13 ≤ k + (q ++ [findingFrame node hs fu.frameSeq f]).length := by
          simp only [List.length_append, List.length_singleton]
          omega
        rw [lookLoop_of_room hf hq, lookLoop_of_room hf hq, ih _ _ hlen]
    · have hfull : 12 < q.length := by omega
      rw [lookLoop_of_stop (.inr hfull), lookLoop_of_stop (.inr hfull)]

/-- The look adds frames at the end. -/
theorem lookLoop_queue (node hs : Nat) (st : Stamp) (k : Nat) (fu : FindingUnit) (q : List LocalFrame) :
    ∃ more, (lookLoop node hs st k fu q).2 = q ++ more := by
  induction k generalizing fu q with
  | zero => exact ⟨[], by simp [lookLoop]⟩
  | succ k ih =>
    unfold lookLoop
    split
    · exact ⟨[], by simp⟩
    · next f rest _ =>
      split
      · obtain ⟨more, h⟩ := ih (checkLost st { fu with queue := rest, frameSeq := (fu.frameSeq + 1) % 256 })
          (q ++ [findingFrame node hs fu.frameSeq f])
        exact ⟨findingFrame node hs fu.frameSeq f :: more, by rw [h]; simp⟩
      · exact ⟨[], by simp⟩

/-- What the look of an ACTIVE part gives. -/
theorem findingLook_of_active {x : State} (h : x.standing = .active) : findingLook x =
    { x with
      findings := (lookLoop x.node (headerStamp x.clock) (stampOf x.clock) 16 x.findings x.portD.localQ).1,
      portD := { x.portD with
        localQ := (lookLoop x.node (headerStamp x.clock) (stampOf x.clock) 16 x.findings x.portD.localQ).2 } } := by
  unfold findingLook lookResult
  rw [if_pos h]
  rfl

/-- The look adds frames at the end of the Port D local queue. -/
theorem findingLook_queue (x : State) : ∃ more, (findingLook x).portD.localQ = x.portD.localQ ++ more := by
  unfold findingLook lookResult
  dsimp only
  split
  · exact lookLoop_queue _ _ _ _ _ _
  · exact ⟨[], by simp⟩

/-! ## Owed ADVICE frames (R169) -/

/-- A turbine that is owed none, or that finds no place, is left. -/
theorem placeOwedOne_of_stop {x : State} {t : Tid}
    (h : 16 ≤ x.portU.localQ.length ∨ (x.advice.recs.get t).owed = false) : placeOwedOne x t = x := by
  refine if_neg ?_
  rintro ⟨ho, -, hq⟩
  obtain h | h := h
  · exact absurd hq (Nat.not_lt.mpr h)
  · simp [h] at ho

/-- An owed frame takes a free place. -/
theorem placeOwedOne_of_owed {x : State} {t : Tid} (hs : x.standing = .active)
    (ho : (x.advice.recs.get t).owed = true) (hq : x.portU.localQ.length < 16) : placeOwedOne x t = { x with
      portU := { x.portU with localQ := x.portU.localQ ++ [adviceFrame x t] },
      advice := { x.advice with
        frameSeq := (x.advice.frameSeq + 1) % 256,
        recs := put x.advice.recs t { x.advice.recs.get t with owed := false } } } :=
  if_pos ⟨ho, hs, hq⟩

/-- Owed frames are added at the end of the Port U local queue, and of the port no more is written. -/
theorem placeOwed_portU (x : State) :
    ∃ more, (placeOwed x).portU = { x.portU with localQ := x.portU.localQ ++ more } := by
  refine foldl_keeps (P := fun y => ∃ more, y.portU = { x.portU with localQ := x.portU.localQ ++ more })
    (fun y t h => ?_) allTurbines x ⟨[], by simp⟩
  obtain ⟨more, hy⟩ := h
  unfold placeOwedOne
  split
  · refine ⟨more ++ [adviceFrame y t], ?_⟩
    dsimp only
    rw [hy]
    simp
  · exact ⟨more, hy⟩

/-- The turbines before and after one of them. -/
theorem allTurbines_split (t : Tid) : ∃ pre post, allTurbines = pre ++ t :: post ∧ ∀ y ∈ pre, y < t := by
  obtain ⟨pre, post, h⟩ := List.append_of_mem (mem_allTurbines t)
  refine ⟨pre, post, h, fun y hy => ?_⟩
  have hsorted : (pre ++ t :: post).Pairwise (· < ·) := h ▸ List.pairwise_lt_finRange 24
  exact (List.pairwise_append.mp hsorted).2.2 y hy t List.mem_cons_self

/-- Turbines that are owed none are passed over. -/
theorem foldl_placeOwedOne_of_none {x : State} {l : List Tid} (h : ∀ y ∈ l, (x.advice.recs.get y).owed = false) :
    l.foldl placeOwedOne x = x := by
  induction l with
  | nil => rfl
  | cons y l ih =>
    rw [List.foldl_cons, placeOwedOne_of_stop (.inr (h y List.mem_cons_self)),
      ih (fun z hz => h z (List.mem_cons_of_mem y hz))]

/-- The lowest turbine owed takes the place first: with its frame placed the rest goes on. -/
theorem placeOwed_of_lowest {x : State} {t : Tid} (hs : x.standing = .active) (ho : (x.advice.recs.get t).owed = true)
    (hlow : ∀ y, y < t → (x.advice.recs.get y).owed = false) (hq : x.portU.localQ.length < 16) :
    placeOwed x = placeOwed { x with
      portU := { x.portU with localQ := x.portU.localQ ++ [adviceFrame x t] },
      advice := { x.advice with
        frameSeq := (x.advice.frameSeq + 1) % 256,
        recs := put x.advice.recs t { x.advice.recs.get t with owed := false } } } := by
  obtain ⟨pre, post, hall, hpre⟩ := allTurbines_split t
  rw [← placeOwedOne_of_owed hs ho hq]
  have hrec (y : Tid) (hy : y ≤ t) : ((placeOwedOne x t).advice.recs.get y).owed = false := by
    rw [placeOwedOne_of_owed hs ho hq]
    obtain hy | hy := hy.lt_or_eq
    · simp [hlow y hy, Fin.ne_of_lt hy]
    · simp [hy]
  unfold placeOwed
  rw [hall, List.foldl_append, List.foldl_append, List.foldl_cons, List.foldl_cons,
    foldl_placeOwedOne_of_none (fun y hy => hlow y (hpre y hy)),
    foldl_placeOwedOne_of_none (fun y hy => hrec y (hpre y hy).le), placeOwedOne_of_stop (.inr (hrec t le_rfl))]

/-! ## The transmitter's choice (R179) -/

/-- The state in which a local frame has left its queue, before the freed place is looked at. -/
def localSent (s : State) (p : Port) (f : LocalFrame) (rest : List LocalFrame) (n : Nat) : State :=
  { setPort s p { portOf s p with localQ := rest, sending := some f.frame, run := n } with
    cmd := if f.what = .restartReply ∧ s.cmd = .restart false then .restart true else s.cmd }

/-- The Command Unit is told of the RESTART reply that has gone. -/
theorem replyGone_eq (w : LocalKind) (c : UnitState) :
    (if w = .restartReply then replyGone c else c) =
      if w = .restartReply ∧ c = .restart false then .restart true else c := by
  by_cases hw : w = .restartReply
  · cases c with
    | restart g => cases g <;> simp [hw, replyGone]
    | ready => simp [hw, replyGone]
    | commit q => simp [hw, replyGone]
    | save o b => simp [hw, replyGone]
  · simp [hw]

/-- A local frame sent, and the freed place looked at by the unit that places frames on the port. -/
theorem sendLocal_eq (s : State) (p : Port) (f : LocalFrame) (rest : List LocalFrame) (n : Nat) :
    sendLocal s p f rest n =
      match p with
      | .d => findingLook (localSent s p f rest n)
      | .u => placeOwed (localSent s p f rest n) := by
  have hsent : (if f.what = .restartReply then
      { updPort s p (fun r => { r with localQ := rest, sending := some f.frame, run := n }) with
        cmd := replyGone s.cmd }
      else updPort s p (fun r => { r with localQ := rest, sending := some f.frame, run := n })) =
      localSent s p f rest n := by
    rw [localSent, ← replyGone_eq]
    split <;> rfl
  unfold sendLocal localLeft
  rw [← hsent]
  rfl

/-- The port after a local frame was sent: what was behind it at the front, and any frames placed behind that. -/
theorem sendLocal_port (s : State) (p : Port) (f : LocalFrame) (rest : List LocalFrame) (n : Nat) :
    ∃ more, portOf (sendLocal s p f rest n) p =
      { portOf s p with localQ := rest ++ more, sending := some f.frame, run := n } := by
  rw [sendLocal_eq]
  cases p with
  | u =>
    obtain ⟨more, h⟩ := placeOwed_portU (localSent s .u f rest n)
    exact ⟨more, h⟩
  | d =>
    obtain ⟨more, h⟩ := findingLook_queue (localSent s .d f rest n)
    refine ⟨more, ?_⟩
    change { (localSent s .d f rest n).portD with localQ := (findingLook (localSent s .d f rest n)).portD.localQ } = _
    rw [h]
    rfl

/-- The port after a transit frame was sent. -/
theorem sendTransit_port (s : State) (p : Port) (g : Frame) (gs : List Frame) :
    portOf (sendTransit s p g gs) p = { portOf s p with transit := gs, sending := some g, run := 0 } := by
  simp [sendTransit, updPort]

/-- Settles O17. -/
theorem transmitterAlternates : Obligations.TransmitterAlternates := by
  have hstart (p : Port) (s : State) (h : canSend s p = true) :
      exec (.transmitStart p) s = .next (settle (choose s p)) := exec_of_event (by rfl) h
  have hlocal (p : Port) (s : State) (f : LocalFrame) (rest : List LocalFrame) (hq : (portOf s p).localQ = f :: rest)
      (ht : (portOf s p).transit = []) : choose s p = sendLocal s p f rest 0 := by
    simp only [choose, hq, ht]
  have hbelow (p : Port) (s : State) (f : LocalFrame) (rest : List LocalFrame) (g : Frame) (gs : List Frame)
      (hq : (portOf s p).localQ = f :: rest) (ht : (portOf s p).transit = g :: gs) (hr : (portOf s p).run < 4) :
      choose s p = sendLocal s p f rest ((portOf s p).run + 1) := by
    simp only [choose, hq, ht, if_pos hr]
  refine ⟨fun p s hc => ⟨choose s p, hstart p s hc, ?localOnly, ?both, ?transitTurn, ?transitOnly⟩, fun p s hs => ?complete,
    fun p s hc => ?told, fun x hs => ⟨fun h => ?lookStops, fun f rest hf hq => ?lookPlaces, fun h => ?owedStops,
      fun t ho hlow hq => placeOwed_of_lowest hs ho hlow hq⟩⟩
  case localOnly =>
    intro f rest hq ht
    obtain ⟨more, h⟩ := sendLocal_port s p f rest 0
    rw [hlocal p s f rest hq ht, h]
    exact ⟨rfl, rfl, ht, more, rfl⟩
  case both =>
    intro f rest g gs hq ht hr
    obtain ⟨more, h⟩ := sendLocal_port s p f rest ((portOf s p).run + 1)
    rw [hbelow p s f rest g gs hq ht hr, h]
    exact ⟨rfl, rfl, ht, more, rfl⟩
  case transitTurn =>
    intro f rest g gs hq ht hr
    have hchoose : choose s p = sendTransit s p g gs := by
      simp only [choose, hq, ht, if_neg (Nat.not_lt.mpr hr)]
    rw [hchoose, sendTransit_port]
    exact ⟨rfl, rfl, rfl, hq⟩
  case transitOnly =>
    intro g gs hq ht
    have hchoose : choose s p = sendTransit s p g gs := by
      simp only [choose, hq, ht]
    rw [hchoose, sendTransit_port]
    exact ⟨rfl, rfl, rfl, hq⟩
  case complete => exact exec_of_event (by rfl) (pathActive_of hs)
  case told =>
    intro sent
    refine ⟨choose s p, hstart p s hc, fun f rest hq ht => ?_, fun f rest g gs hq ht hr => ?_⟩
    · rw [hlocal p s f rest hq ht, sendLocal_eq]
      constructor <;> rintro rfl <;> rfl
    · rw [hbelow p s f rest g gs hq ht hr, sendLocal_eq]
      constructor <;> rintro rfl <;> rfl
  case lookStops =>
    rw [findingLook_of_active hs, lookLoop_of_stop h]
  case lookPlaces =>
    have hlen : 13 ≤ 15 + (x.portD.localQ ++
        [findingFrame x.node (headerStamp x.clock) x.findings.frameSeq f]).length := by
      simp only [List.length_append, List.length_singleton]
      omega
    let placed : State := { x with
      findings := checkLost (stampOf x.clock) { x.findings with queue := rest, frameSeq := (x.findings.frameSeq + 1) % 256 },
      portD := { x.portD with
        localQ := x.portD.localQ ++ [findingFrame x.node (headerStamp x.clock) x.findings.frameSeq f] } }
    have hplaced := findingLook_of_active (x := placed) hs
    rw [findingLook_of_active hs, lookLoop_of_room hf hq, ← lookLoop_fuel _ _ _ 15 _ _ hlen]
    exact hplaced.symm
  case owedStops =>
    refine foldl_fixed (fun t => placeOwedOne_of_stop ?_) _
    exact h.imp_right (fun h => h t)

/-! ## Frames built and read back (R193) -/

/-- The 12 bytes of a frame before its payload. -/
def frameHead (kind flags source channel seq len stamp : Nat) : List Byte :=
  u8 kind ++ u8 flags ++ u8 source ++ u8 channel ++ u8 seq ++ u16 len ++ u32 stamp ++ u8 0

/-- A frame is its header, its payload, and the check over both. -/
theorem buildFrame_bytes (kind flags source channel seq stamp : Nat) (payload : List Byte) :
    (buildFrame kind flags source channel seq stamp payload).bytes =
      frameHead kind flags source channel seq payload.length stamp ++ payload ++
        u16 (crc16 (frameHead kind flags source channel seq payload.length stamp ++ payload)).toNat := rfl

/-- The header of a frame has 12 bytes. -/
theorem frameHead_length (kind flags source channel seq len stamp : Nat) :
    (frameHead kind flags source channel seq len stamp).length = 12 := rfl

/-- The header fields are read back from the first 12 bytes. -/
theorem headerOf_frameHead {kind flags source channel seq len stamp : Nat} (hk : kind < 256) (hf : flags < 256)
    (hs : source < 256) (hc : channel < 256) (hq : seq < 256) (ht : stamp < 4294967296) (hl : len ≤ 512)
    (rest : List Byte) : headerOf (frameHead kind flags source channel seq len stamp ++ rest) =
      { kind := kind, flags := flags, source := source, channel := channel, seq := seq, len := len, stamp := stamp } := by
  have hbyte (n : Nat) (h : n < 256) : (byteOf (n / 256 ^ 0)).toNat = n := by
    rw [pow_zero, Nat.div_one, byteOf_toNat (by omega)]
  have hfields : headerOf (frameHead kind flags source channel seq len stamp ++ rest) =
      { kind := (byteOf (kind / 256 ^ 0)).toNat, flags := (byteOf (flags / 256 ^ 0)).toNat,
        source := (byteOf (source / 256 ^ 0)).toNat, channel := (byteOf (channel / 256 ^ 0)).toNat,
        seq := (byteOf (seq / 256 ^ 0)).toNat, len := ofBe (u16 len), stamp := ofBe (u32 stamp) } := rfl
  rw [hfields, hbyte kind hk, hbyte flags hf, hbyte source hs, hbyte channel hc, hbyte seq hq, ofBe_u16 (by omega),
    ofBe_u32 (by omega)]

/-- Settles O19. -/
theorem builtFramesPassTheCheck : Obligations.BuiltFramesPassTheCheck := by
  intro kind flags source channel seq stamp payload hk hf hs hc hq ht hl
  let head := frameHead kind flags source channel seq payload.length stamp
  have hbytes := buildFrame_bytes kind flags source channel seq stamp payload
  have hhead : headerOf (buildFrame kind flags source channel seq stamp payload).bytes =
      { kind := kind, flags := flags, source := source, channel := channel, seq := seq, len := payload.length,
        stamp := stamp } := by
    rw [hbytes, List.append_assoc]
    exact headerOf_frameHead hk hf hs hc hq ht hl _
  have hlen : (head ++ payload).length = 12 + payload.length := by
    rw [List.length_append, frameHead_length]
  refine ⟨?check, hhead, ?payload⟩
  case payload =>
    rw [payloadOf, hhead, hbytes, List.append_assoc, List.drop_left' (frameHead_length ..), List.take_left' rfl]
  case check =>
    have hcrc : (crc16 (head ++ payload)).toNat ≤ 65535 := by
      have := (crc16 (head ++ payload)).isLt
      omega
    have htotal : (head ++ payload ++ u16 (crc16 (head ++ payload)).toNat).length = 14 + payload.length := by
      rw [List.length_append, hlen]
      simp only [u16, beBytes, List.length_cons, List.length_nil]
      omega
    simp only [frameGood, Bool.and_eq_true, decide_eq_true_eq]
    rw [hhead, hbytes, htotal, List.take_left' hlen, List.drop_left' hlen, ofBe_u16 hcrc]
    exact ⟨⟨⟨by omega, hl⟩, rfl⟩, rfl⟩

end Sys2Proof.Machine
end

section
/-! PROOF. The ten reads (R190): the results field by field. -/

namespace Sys2Proof.Machine

/-- Some place of a table has a property where one of its places is found to have it. -/
theorem any_finRange_eq {n : Nat} (f : Fin n → Bool) [Decidable (∃ i, f i = true)] :
    (List.finRange n).any f = decide (∃ i, f i = true) := by
  rw [Bool.eq_iff_iff, decide_eq_true_iff, List.any_eq_true]
  simp

/-- First cause of ATTN. -/
theorem attnVib_eq (s : State) : attnVib s = decide (∃ t : Tid, (s.turbines.get t).present = true ∧
    (s.turbines.get t).service = false ∧ s.vib.grades.get t = .alarm) := by
  unfold attnVib allTurbines
  rw [any_finRange_eq]
  simp [and_assoc]

/-- Third cause of ATTN. -/
theorem attnItem_eq (s : State) :
    attnItem s = decide (∃ i : ItemId, (s.items.get i).map (fun it => it.state) = some .overdue) := by
  unfold attnItem allItems
  rw [any_finRange_eq]
  refine decide_eq_decide.mpr (exists_congr fun i => ?_)
  cases s.items.get i <;> simp

/-- A staged entry that differs somewhere. -/
theorem any_slotDiffers_eq (s : State) :
    allSlots.any (slotDiffers s) = decide (∃ i : SlotId, s.staged.streams.get i ≠ (s.streams.slots.get i).entry) := by
  unfold allSlots
  rw [any_finRange_eq]
  simp [slotDiffers]

/-- The five staged-differs flags as bytes. -/
theorem stagedBytes_eq (s : State) : ((stagedDiffers s).map uFlag).flatten =
    uFlag (decide (∃ i : SlotId, s.staged.streams.get i ≠ (s.streams.slots.get i).entry)) ++
      uFlag (decide (s.staged.bands ≠ s.active.bands)) ++ uFlag (decide (s.staged.limits ≠ s.active.limits)) ++
      uFlag (decide (s.staged.curves ≠ s.active.curves)) ++ uFlag (decide (s.staged.settings ≠ s.active.settings)) := by
  rw [stagedDiffers, any_slotDiffers_eq]
  rfl

/-- The engine's part: state and job from the record in analysis. -/
theorem engineBytes_eq (e : Engine) : engineBytes e =
    uFlag e.analysing.isSome ++
      u8 (match e.analysing with | some (.vib _) => 0 | some (.harm _) => 1 | none => 255) ++
      u8 e.vibQueue.length ++ u8 e.harmQueue.length ++ u8 e.harmRun ++ classBytes e.vibCounts ++ classBytes e.harmCounts ++
      u32 e.omitted := by
  unfold engineBytes
  rcases e.analysing with _ | _ | _ <;> rfl

/-- The Finding Unit's part. -/
theorem findingBytes_eq (s : State) : findingBytes s =
    u8 s.findings.queue.length ++
      (u8 (ofSeverity s.findings .info) ++ u8 (ofSeverity s.findings .notice) ++ u8 (ofSeverity s.findings .alert) ++
        u8 (ofSeverity s.findings .alarm)) ++
      u16 s.findings.nextSeq ++ u32 s.findings.lost ++ (s.findings.masks.toList.map uFlag).flatten ++
      uFlag s.findings.attn ++
      uFlag (decide (∃ t : Tid, (s.turbines.get t).present = true ∧ (s.turbines.get t).service = false ∧
        s.vib.grades.get t = .alarm)) ++
      uFlag (decide (s.harm.grid.state = .condition)) ++
      uFlag (decide (∃ i : ItemId, (s.items.get i).map (fun it => it.state) = some .overdue)) := by
  rw [findingBytes, attnVib_eq, attnItem_eq]
  rfl

/-- A band is frozen where it is ice-sensitive and its turbine ICED or THAWING. -/
theorem frozen_eq (ice : IceState) (b : Band) :
    frozen ice b = decide (b.iceSensitive = true ∧ (ice = .iced ∨ ice = .thawing)) := by
  cases ice <;> simp [frozen, iceFreezes]

/-- The bands of a set with the states that stand for them, from a band number on. -/
theorem bandsBytes_eq (ice : IceState) (xs : List BandState) (bs : List Band) (k : Nat) :
    bandsBytes ice bs ((List.range' k bs.length).map (fun j => xs.getD j .fresh)) =
      ((bs.zipIdx k).map (fun p => bandBytes ice p.1 (xs.getD p.2 .fresh))).flatten := by
  induction bs generalizing k with
  | nil => rfl
  | cons b bs ih =>
    rw [List.length_cons, List.range'_succ, List.map_cons, bandsBytes, ih, List.zipIdx_cons, List.map_cons,
      List.flatten_cons]

/-- READ BANDS of a slot with a VIB entry and its record. -/
theorem readBandsOf_vib {s : State} {i : SlotId} {e : StreamEntry} {r : VibRec} {t : Tid} (he : entryAt s i = some e)
    (hr : s.vib.recs.get i = some r) (hrole : e.role = .vib) (hsrc : e.source = tnum t) (o : Origin) :
    readBandsOf o s i = replyDone s o 5 (vibBytes s t (setOf s e) r) := by
  have ht : vibTurbine (some e) = some t := by
    simp only [vibTurbine, entryTurbine, hrole, hsrc, if_true, turbineOf_tnum]
  simp only [readBandsOf, he, hr, ht]

/-- Settles O21. -/
theorem readsChangeNothing : Obligations.ReadsChangeNothing := by
  intro o s hacc
  refine ⟨?status, fun i => ?stream, ?head, fun t => ?turbine, fun t => ?speed,
    fun i e r t he hr hrole hsrc => ⟨fun b hb => ?set, ?bands⟩, ?grid, ?contributors, fun t => ?ice, fun i => ?item,
    fun t => ?counters⟩
  case status =>
    refine answersDone_of hacc rfl (congrArg (replyDone s o 1) ?_)
    rw [statusBytes, stagedBytes_eq, engineBytes_eq, findingBytes_eq]
    rfl
  case stream => exact answersDone_of hacc rfl (forSlot_val _ _ _ _ _)
  case head => exact answersDone_of hacc rfl rfl
  case turbine =>
    refine answersDone_of hacc rfl ?_
    rw [doReadTurbine, if_neg (show tnum t ≠ 0 from Nat.succ_ne_zero _), forTurbine_tnum]
    rfl
  case speed => exact answersDone_of hacc rfl (forTurbine_tnum _ _ _ _ _)
  case set => simp only [setOf, hb, placeOf_val]
  case bands =>
    refine answersDone_of hacc rfl ?_
    rw [doReadBands, forSlot_val, readBandsOf_vib he hr hrole hsrc]
    refine congrArg (replyDone s o 5) ?_
    have hbands := bandsBytes_eq (s.ice.get t).state r.bands (setOf s e).bands 0
    rw [← List.range_eq_range'] at hbands
    unfold vibBytes fitBands
    rw [hbands]
    simp only [bandBytes, frozen_eq]
    rcases r.window with _ | w <;> rcases r.lastTest with _ | ⟨v, c⟩ <;> rfl
  case grid =>
    refine answersDone_of hacc rfl (congrArg (replyDone s o 6) ?_)
    rcases s.harm.former with _ | _ | _ <;> rfl
  case contributors => exact answersDone_of hacc rfl rfl
  case ice => exact answersDone_of hacc rfl (forTurbine_tnum _ _ _ _ _)
  case item => exact answersDone_of hacc rfl (forItem_val _ _ _ _ _)
  case counters => exact answersDone_of hacc rfl (forTurbine_tnum _ _ _ _ _)

end Sys2Proof.Machine
end

section
/-! PROOF. The checks of loads and parameters (R1, R2, R65, R95, R110, R183, R184): which entry is the first bad one, and what is
refused. -/

namespace Sys2Proof.Machine

/-! ## The first bad entry of a list -/

/-- A check that goes through a list, each entry judged by what stands before it, finds the first one that is not good. -/
theorem firstBad_iff {α : Type} {f : List α → List α → Option Nat} {ok : List α → α → Bool} {start : Nat}
    (hnil : ∀ p, f p [] = none)
    (hcons : ∀ p a l, f p (a :: l) = if ok p a then f (p ++ [a]) l else some (p.length + start)) (l p : List α) (k : Nat) :
    f p l = some k ↔ ∃ pre a post, l = pre ++ a :: post ∧ k = p.length + pre.length + start ∧ ok (p ++ pre) a = false ∧
      ∀ b x c, pre = b ++ x :: c → ok (p ++ b) x = true := by
  induction l generalizing p with
  | nil => simp [hnil]
  | cons a l ih =>
    rw [hcons]
    by_cases ha : ok p a = true
    · rw [if_pos ha, ih]
      constructor
      · rintro ⟨pre, y, post, rfl, rfl, hy, hpre⟩
        refine ⟨a :: pre, y, post, rfl, by simp; omega, by simpa using hy, fun b x c hb => ?_⟩
        cases b with
        | nil =>
          obtain ⟨rfl, -⟩ := List.cons.inj hb
          simpa using ha
        | cons z b =>
          obtain ⟨rfl, hrest⟩ := List.cons.inj hb
          simpa using hpre b x c hrest
      · rintro ⟨pre, y, post, hl, rfl, hy, hpre⟩
        cases pre with
        | nil =>
          obtain ⟨rfl, -⟩ := List.cons.inj hl
          simp [ha] at hy
        | cons z pre =>
          obtain ⟨rfl, rfl⟩ := List.cons.inj hl
          refine ⟨pre, y, post, rfl, by simp; omega, by simpa using hy, fun b x c hb => ?_⟩
          simpa using hpre (a :: b) x c (by rw [hb]; rfl)
    · rw [if_neg ha]
      constructor
      · intro hk
        exact ⟨[], a, l, rfl, by simpa using (Option.some.inj hk).symm, by simpa using ha, by simp⟩
      · rintro ⟨pre, y, post, hl, rfl, hy, hpre⟩
        cases pre with
        | nil => simp
        | cons z pre =>
          obtain ⟨rfl, -⟩ := List.cons.inj hl
          exact absurd (by simpa using hpre [] a pre rfl) ha

/-- What holds of each entry of a list with its place, said by splitting the list. -/
theorem forall_split_iff {α : Type} {P : Nat → α → Prop} (l : List α) :
    (∀ b x c, l = b ++ x :: c → P b.length x) ↔ ∀ j x, l[j]? = some x → P j x := by
  constructor
  · intro h j x hx
    obtain ⟨hj, hx⟩ := List.getElem?_eq_some_iff.mp hx
    have hsplit : l = l.take j ++ x :: l.drop (j + 1) := by
      rw [← hx, List.getElem_cons_drop, List.take_append_drop]
    simpa [Nat.min_eq_left hj.le] using h _ _ _ hsplit
  · rintro h b x c rfl
    exact h b.length x (by simp)

/-- What holds of each entry of a list, said by splitting the list. -/
theorem forall_split_iff_mem {α : Type} {P : α → Prop} (l : List α) :
    (∀ b x c, l = b ++ x :: c → P x) ↔ ∀ x ∈ l, P x := by
  constructor
  · intro h x hx
    obtain ⟨b, c, hl⟩ := List.append_of_mem hx
    exact h b x c hl
  · rintro h b x c rfl
    exact h x (by simp)

/-- A check that judges each entry by itself finds the first one that is not good. -/
theorem firstBad_iff_mem {α : Type} {f : Nat → List α → Option Nat} {ok : α → Bool} (start : Nat)
    (hnil : ∀ i, f i [] = none) (hcons : ∀ i a l, f i (a :: l) = if ok a then f (i + 1) l else some i) (l : List α)
    (k : Nat) :
    f start l = some k ↔ ∃ pre a post, l = pre ++ a :: post ∧ k = pre.length + start ∧ ok a = false ∧
      ∀ x ∈ pre, ok x = true := by
  have h := firstBad_iff (f := fun p l => f (p.length + start) l) (ok := fun _ a => ok a) (start := start)
    (fun p => hnil _) (fun p a l => by simpa [Nat.add_right_comm] using hcons (p.length + start) a l) l [] k
  simpa [forall_split_iff_mem] using h

/-- The first bad pair of LOAD STREAM (R184). -/
theorem firstBadPair_iff (es : List RawEntry) (k : Nat) : firstBadPair [] 1 es = some k ↔
    ∃ pre r post, es = pre ++ r :: post ∧ k = pre.length + 1 ∧
      (192 ≤ r.slot ∨ entryOk r = false ∨ ∃ x ∈ pre, x.slot = r.slot) ∧
      ∀ a x b, pre = a ++ x :: b → x.slot < 192 ∧ entryOk x = true ∧ ∀ y ∈ a, y.slot ≠ x.slot := by
  have hok (p : List RawEntry) (r : RawEntry) : pairOk (p.map (fun x => x.slot)).reverse r = true ↔
      r.slot < 192 ∧ entryOk r = true ∧ ∀ y ∈ p, y.slot ≠ r.slot := by
    simp only [pairOk, Bool.and_eq_true, decide_eq_true_eq, Bool.not_eq_true', List.contains_eq_mem, decide_eq_false_iff_not,
      List.mem_reverse, List.mem_map, not_exists, not_and]
    tauto
  have hbad (p : List RawEntry) (r : RawEntry) : pairOk (p.map (fun x => x.slot)).reverse r = false ↔
      192 ≤ r.slot ∨ entryOk r = false ∨ ∃ x ∈ p, x.slot = r.slot := by
    rw [← Bool.not_eq_true, hok]
    simp only [not_and_or, not_lt, Bool.not_eq_true, not_forall, not_not, exists_prop]
  have h := firstBad_iff (f := fun p l => firstBadPair (p.map (fun x => x.slot)).reverse (p.length + 1) l)
    (ok := fun p r => pairOk (p.map (fun x => x.slot)).reverse r) (start := 1) (fun p => rfl)
    (fun p a l => by simp [firstBadPair]) es [] k
  simpa only [List.map_nil, List.reverse_nil, List.length_nil, Nat.zero_add, List.nil_append, hok, hbad] using h

/-- The first bad setting of LOAD SETTINGS (R184). -/
theorem firstBadSetting_iff (ns : List Nat) (don k : Nat) : firstBadSetting don 1 ns = some k ↔
    ∃ pre n post, ns = pre ++ n :: post ∧ k = pre.length + 1 ∧ settingOk don k n = false ∧
      ∀ j x, pre[j]? = some x → settingOk don (j + 1) x = true := by
  have h := firstBad_iff (f := fun p l => firstBadSetting don (p.length + 1) l)
    (ok := fun p n => settingOk don (p.length + 1) n) (start := 1) (fun p => rfl)
    (fun p a l => by simp [firstBadSetting]) ns [] k
  simp only [List.length_nil, Nat.zero_add, List.nil_append] at h
  rw [h]
  refine exists_congr fun pre => exists_congr fun n => exists_congr fun post => and_congr_right fun _ =>
    and_congr_right fun hk => ?_
  rw [forall_split_iff (P := fun j x => settingOk don (j + 1) x = true), hk]

/-! ## Fields in their ranges (R1, R2, R65, R95, R110, R183) -/

/-- The ranges of a set's settings. -/
theorem setSettingsOk_iff (r : RawSetSettings) : setSettingsOk r = true ↔
    1 ≤ r.revolutions ∧ r.revolutions ≤ 64 ∧ 1 ≤ r.persistence ∧ r.persistence ≤ 15 ∧ r.report ≤ 1 ∧ r.postscale ≤ 16 ∧
      r.skip ≤ 15 := by
  simp only [setSettingsOk, Bool.and_eq_true, decide_eq_true_eq, and_assoc]

/-- The ranges of a band. -/
theorem bandOk_iff (b : RawBand) : bandOk b = true ↔
    b.kind ≤ 1 ∧ 1 ≤ b.lower ∧ b.lower < b.upper ∧ (b.kind = 0 → b.upper ≤ 2000) ∧ (b.kind = 1 → b.upper ≤ 10000) ∧
      1 ≤ b.alert ∧ b.alert < b.alarm ∧ b.alarm ≤ 16777215 ∧ b.iceSensitive ≤ 1 := by
  simp only [bandOk, Bool.and_eq_true, decide_eq_true_eq, and_assoc]
  split_ifs with h <;> omega

/-- The ranges of a pair of limits. -/
theorem limitOk_iff (l : RawLimit) : limitOk l = true ↔ l.voltage ≤ 2000 ∧ l.current ≤ 10000 := by
  simp only [limitOk, Bool.and_eq_true, decide_eq_true_eq]

/-- A pair of limits out of its ranges. -/
theorem limitOk_eq_false_iff (l : RawLimit) : limitOk l = false ↔ 2000 < l.voltage ∨ 10000 < l.current := by
  rw [← Bool.not_eq_true, limitOk_iff]
  omega

/-- A signed field in a range that holds 0, by its two's complement. -/
theorem inRangeInt_signed16 {lo hi : Nat} (hlo : lo ≤ 32768) (hhi : hi < 32768) {n : Nat} (hn : n < 65536) :
    inRangeInt (-(lo : Int)) hi (signed16 n) = true ↔ n ≤ hi ∨ 65536 - lo ≤ n := by
  have hsub : ((65536 - lo : Nat) : Int) = 65536 - lo := by omega
  unfold inRangeInt signed16
  rw [Bool.and_eq_true, decide_eq_true_eq, decide_eq_true_eq]
  split_ifs <;> omega

/-- The ranges of the 25 settings. -/
theorem settingOk_iff (don n : Nat) :
    (settingOk don 1 n = true ↔ n ≤ 1) ∧ (settingOk don 2 n = true ↔ n ≤ 600) ∧
    (settingOk don 3 n = true ↔ 1 ≤ n ∧ n ≤ 255) ∧ (settingOk don 4 n = true ↔ 1 ≤ n ∧ n ≤ 20) ∧
    (settingOk don 5 n = true ↔ n = 50 ∨ n = 60) ∧ (settingOk don 6 n = true ↔ 2 ≤ n ∧ n ≤ 20) ∧
    (settingOk don 7 n = true ↔ 1 ≤ n ∧ n ≤ 15) ∧ (settingOk don 8 n = true ↔ 1 ≤ n ∧ n ≤ 255) ∧
    (settingOk don 9 n = true ↔ 1 ≤ n ∧ n ≤ 255) ∧ (settingOk don 10 n = true ↔ 1 ≤ n ∧ n ≤ 4) ∧
    (settingOk don 11 n = true ↔ 10 ≤ n ∧ n ≤ 90 ∧ n % 10 = 0) ∧ (settingOk don 12 n = true ↔ n ≤ 1) ∧
    (settingOk don 13 n = true ↔ n ≤ 16) ∧
    (n < 65536 → (settingOk don 14 n = true ↔ n ≤ 50 ∨ 65536 - 300 ≤ n)) ∧
    (settingOk don 15 n = true ↔ 10 ≤ n ∧ n ≤ 600) ∧ (settingOk don 16 n = true ↔ 5 ≤ n ∧ n ≤ 80) ∧
    (settingOk don 17 n = true ↔ n < don) ∧ (settingOk don 18 n = true ↔ 1 ≤ n ∧ n ≤ 15) ∧
    (n < 65536 → (settingOk don 19 n = true ↔ n ≤ 150 ∨ 65536 - 50 ≤ n)) ∧
    (settingOk don 20 n = true ↔ 1 ≤ n ∧ n ≤ 1440) ∧ (settingOk don 21 n = true ↔ n ≤ 1) ∧
    (settingOk don 22 n = true ↔ 1 ≤ n ∧ n ≤ 4) ∧ (settingOk don 23 n = true ↔ 1 ≤ n ∧ n ≤ 60) ∧
    (settingOk don 24 n = true ↔ 1 ≤ n ∧ n ≤ 24) ∧ (settingOk don 25 n = true ↔ n ≤ 23) := by
  have h14 := @inRangeInt_signed16 300 50 (by omega) (by omega) n
  have h19 := @inRangeInt_signed16 50 150 (by omega) (by omega) n
  simp only [settingOk, inRange, Bool.and_eq_true, Bool.or_eq_true, decide_eq_true_eq, Nat.zero_le, true_and, and_assoc,
    iff_self, and_true]
  exact ⟨h14, h19⟩

/-! ## Codes of enumerated fields (R193, R194) -/

/-- A kind code names the kind whose code it is. -/
theorem streamKindOf_eq_some {k : Nat} {x : StreamKind} : streamKindOf k = some x ↔ k = streamKindCode x := by
  unfold streamKindOf
  split <;> cases x <;> simp_all [streamKindCode]

/-- A role code names the role whose code it is. -/
theorem roleOf_eq_some {k : Nat} {x : Role} : roleOf k = some x ↔ k = roleCode x := by
  unfold roleOf
  split <;> cases x <;> simp_all [roleCode]

/-- A phase code names the phase whose code it is. -/
theorem phaseOf_eq_some {k : Nat} {x : Phase} : phaseOf k = some x ↔ k = phaseCode x := by
  unfold phaseOf
  split <;> cases x <;> simp_all [phaseCode]

/-- An edges code names the counted edges whose code it is. -/
theorem edgesOf_eq_some {k : Nat} {x : CountedEdges} : edgesOf k = some x ↔ k = edgesCode x := by
  unfold edgesOf
  split <;> cases x <;> simp_all [edgesCode]

/-- A polarity code names the polarity whose code it is. -/
theorem polarityOf_eq_some {k : Nat} {x : Polarity} : polarityOf k = some x ↔ k = polarityCode x := by
  unfold polarityOf
  split <;> cases x <;> simp_all [polarityCode]

/-- A disposition code names the disposition whose code it is. -/
theorem dispositionOf_eq_some {k : Nat} {x : Disposition} : dispositionOf k = some x ↔ k = dispositionCode x := by
  unfold dispositionOf
  split <;> cases x <;> simp_all [dispositionCode]

/-- The numbers that are kind codes. -/
theorem exists_streamKindCode {k : Nat} : (∃ x, k = streamKindCode x) ↔ 1 ≤ k ∧ k ≤ 3 := by
  constructor
  · rintro ⟨x, rfl⟩
    cases x <;> decide
  · rintro ⟨h1, h3⟩
    interval_cases k
    exacts [⟨.sample, rfl⟩, ⟨.edge, rfl⟩, ⟨.status, rfl⟩]

/-- The numbers that are role codes. -/
theorem exists_roleCode {k : Nat} : (∃ x, k = roleCode x) ↔ k ≤ 6 := by
  constructor
  · rintro ⟨x, rfl⟩
    cases x <;> decide
  · intro h
    interval_cases k
    exacts [⟨.vib, rfl⟩, ⟨.tach, rfl⟩, ⟨.gridV, rfl⟩, ⟨.gridI, rfl⟩, ⟨.convI, rfl⟩, ⟨.opstat, rfl⟩, ⟨.plain, rfl⟩]

/-- The numbers that are phase codes. -/
theorem exists_phaseCode {k : Nat} : (∃ x, k = phaseCode x) ↔ k ≤ 2 := by
  constructor
  · rintro ⟨x, rfl⟩
    cases x <;> decide
  · intro h
    interval_cases k
    exacts [⟨.a, rfl⟩, ⟨.b, rfl⟩, ⟨.c, rfl⟩]

/-- The numbers that are edges codes. -/
theorem exists_edgesCode {k : Nat} : (∃ x, k = edgesCode x) ↔ k ≤ 2 := by
  constructor
  · rintro ⟨x, rfl⟩
    cases x <;> decide
  · intro h
    interval_cases k
    exacts [⟨.rising, rfl⟩, ⟨.falling, rfl⟩, ⟨.both, rfl⟩]

/-- The numbers that are polarity codes. -/
theorem exists_polarityCode {k : Nat} : (∃ x, k = polarityCode x) ↔ k ≤ 1 := by
  constructor
  · rintro ⟨x, rfl⟩
    cases x <;> decide
  · intro h
    interval_cases k
    exacts [⟨.rising, rfl⟩, ⟨.falling, rfl⟩]

/-- The numbers that are disposition codes. -/
theorem exists_dispositionCode {k : Nat} : (∃ x, k = dispositionCode x) ↔ k ≤ 2 := by
  constructor
  · rintro ⟨x, rfl⟩
    cases x <;> decide
  · intro h
    interval_cases k
    exacts [⟨.pass, rfl⟩, ⟨.take, rfl⟩, ⟨.thin, rfl⟩]

/-- A phase code is read where it is at most 2. -/
theorem phaseOf_isSome (k : Nat) : (phaseOf k).isSome = true ↔ k ≤ 2 := by
  simp only [Option.isSome_iff_exists, phaseOf_eq_some, exists_phaseCode]

/-- An edges code is read where it is at most 2. -/
theorem edgesOf_isSome (k : Nat) : (edgesOf k).isSome = true ↔ k ≤ 2 := by
  simp only [Option.isSome_iff_exists, edgesOf_eq_some, exists_edgesCode]

/-- A polarity code is read where it is at most 1. -/
theorem polarityOf_isSome (k : Nat) : (polarityOf k).isSome = true ↔ k ≤ 1 := by
  simp only [Option.isSome_iff_exists, polarityOf_eq_some, exists_polarityCode]

/-- A flag is read where it is at most 1. -/
theorem flagOf_isSome (k : Nat) : (flagOf k).isSome = true ↔ k ≤ 1 := by
  rw [← not_iff_not, Bool.not_eq_true, Option.isSome_eq_false_iff, ← flagOf_isNone, not_not]

/-! ## Stream entries (R1, R2) -/

/-- The ranges of a TACH entry's own fields. -/
theorem tachFieldsOk_iff (r : RawEntry) : tachFieldsOk r = true ↔
    1 ≤ r.pulses ∧ r.pulses ≤ 512 ∧ r.edges ≤ 2 ∧ r.markerPresent ≤ 1 ∧ (r.markerPresent = 1 → r.markerPolarity ≤ 1) ∧
      r.spacing ≤ 65535 := by
  simp only [tachFieldsOk, Bool.and_eq_true, Bool.or_eq_true, decide_eq_true_eq, edgesOf_isSome, flagOf_isSome,
    polarityOf_isSome]
  omega

/-- A good entry has codes of a kind, a role and a disposition. -/
theorem codes_of_entryOk {r : RawEntry} (h : entryOk r = true) :
    ∃ kind role disp, r.kind = streamKindCode kind ∧ r.role = roleCode role ∧ r.disposition = dispositionCode disp := by
  unfold entryOk at h
  split at h
  case h_1 kind role disp hkind hrole hdisp =>
    exact ⟨kind, role, disp, streamKindOf_eq_some.mp hkind, roleOf_eq_some.mp hrole, dispositionOf_eq_some.mp hdisp⟩
  case h_2 => cases h

/-- When an entry with codes of a kind, a role and a disposition is good. -/
theorem entryOk_of_codes {r : RawEntry} {kind : StreamKind} {role : Role} {disp : Disposition}
    (hkind : r.kind = streamKindCode kind) (hrole : r.role = roleCode role) (hdisp : r.disposition = dispositionCode disp) :
    entryOk r = true ↔ r.source ≤ 31 ∧ r.channel ≤ 7 ∧ roleAllows role kind r.source = true ∧
      (hasPhase role = true → r.phase ≤ 2) ∧ (role = .vib → r.bandSet ≤ 31) ∧ (hasScale role = true → r.scale ≤ 7) ∧
      (role = .tach → tachFieldsOk r = true) ∧ (disp = .thin → 2 ≤ r.thinN ∧ r.thinN ≤ 16) ∧ r.silence ≤ 255 := by
  unfold entryOk
  rw [streamKindOf_eq_some.mpr hkind, roleOf_eq_some.mpr hrole, dispositionOf_eq_some.mpr hdisp]
  simp only [Bool.and_eq_true, Bool.or_eq_true, decide_eq_true_eq, Bool.not_eq_true', phaseOf_isSome,
    and_assoc, ← imp_iff_not_or, ← Bool.not_eq_true]

/-- The kind code that stands for SAMPLE. -/
theorem streamKindCode_eq_one (x : StreamKind) : streamKindCode x = 1 ↔ x = .sample := by cases x <;> decide

/-- The kind code that stands for EDGE. -/
theorem streamKindCode_eq_two (x : StreamKind) : streamKindCode x = 2 ↔ x = .edge := by cases x <;> decide

/-- The kind code that stands for STATUS. -/
theorem streamKindCode_eq_three (x : StreamKind) : streamKindCode x = 3 ↔ x = .status := by cases x <;> decide

/-- The disposition code that stands for THIN. -/
theorem dispositionCode_eq_two (x : Disposition) : dispositionCode x = 2 ↔ x = .thin := by cases x <;> decide

/-- When an entry is good, field by field. -/
theorem entryOk_iff (r : RawEntry) : entryOk r = true ↔
    (1 ≤ r.kind ∧ r.kind ≤ 3 ∧ r.role ≤ 6 ∧ r.disposition ≤ 2 ∧ r.source ≤ 31 ∧ r.channel ≤ 7 ∧ r.silence ≤ 255) ∧
      (r.role = 0 ∨ r.role = 4 → r.kind = 1 ∧ 1 ≤ r.source ∧ r.source ≤ 24) ∧
      (r.role = 2 ∨ r.role = 3 → r.kind = 1 ∧ r.source = 0) ∧
      (r.role = 1 → r.kind = 2 ∧ 1 ≤ r.source ∧ r.source ≤ 24 ∧ 1 ≤ r.pulses ∧ r.pulses ≤ 512 ∧ r.edges ≤ 2 ∧
        r.markerPresent ≤ 1 ∧ (r.markerPresent = 1 → r.markerPolarity ≤ 1) ∧ r.spacing ≤ 65535) ∧
      (r.role = 5 → r.kind = 3 ∧ 1 ≤ r.source ∧ r.source ≤ 24) ∧
      (r.role = 2 ∨ r.role = 3 ∨ r.role = 4 → r.phase ≤ 2) ∧ (r.role = 0 → r.bandSet ≤ 31) ∧
      (r.role = 0 ∨ r.role = 2 ∨ r.role = 3 ∨ r.role = 4 → r.scale ≤ 7) ∧
      (r.disposition = 2 → 2 ≤ r.thinN ∧ r.thinN ≤ 16) := by
  by_cases hcoded : (1 ≤ r.kind ∧ r.kind ≤ 3) ∧ r.role ≤ 6 ∧ r.disposition ≤ 2
  · obtain ⟨hk, hr, hd⟩ := hcoded
    obtain ⟨kind, hkind⟩ := exists_streamKindCode.mpr hk
    obtain ⟨role, hrole⟩ := exists_roleCode.mpr hr
    obtain ⟨disp, hdisp⟩ := exists_dispositionCode.mpr hd
    rw [entryOk_of_codes hkind hrole hdisp, tachFieldsOk_iff, ← dispositionCode_eq_two, ← hdisp]
    cases role <;> simp [roleAllows, hasPhase, hasScale, ← streamKindCode_eq_one, ← streamKindCode_eq_two,
      ← streamKindCode_eq_three, ← hkind, hrole, roleCode] <;> omega
  · refine iff_of_false (fun h => hcoded ?_) (fun ⟨⟨hk, hk', hr, hd, _⟩, _⟩ => hcoded ⟨⟨hk, hk'⟩, hr, hd⟩)
    obtain ⟨kind, role, disp, hkind, hrole, hdisp⟩ := codes_of_entryOk h
    exact ⟨exists_streamKindCode.mp ⟨kind, hkind⟩, exists_roleCode.mp ⟨role, hrole⟩, exists_dispositionCode.mp ⟨disp, hdisp⟩⟩

/-! ## Reads and loads that are refused -/

/-- READ TURBINE refuses a number that is neither the string head's nor a turbine's. -/
theorem doReadTurbine_out {k : Nat} (hk : 25 ≤ k) (o : Origin) (s : State) :
    doReadTurbine o k s = replyRefused s o 3 .badParameter 1 := by
  unfold doReadTurbine
  rw [if_neg (by omega), forTurbine_out (Or.inr hk)]

/-- READ BANDS refuses a slot without a VIB entry. -/
theorem readBandsOf_of_not_vib {s : State} {i : SlotId} (h : ∀ e, entryAt s i = some e → e.role ≠ .vib) (o : Origin) :
    readBandsOf o s i = replyRefused s o 5 .badParameter 1 := by
  unfold readBandsOf
  cases he : entryAt s i with
  | none => rfl
  | some e =>
    have ht : vibTurbine (some e) = none := if_neg (h e he)
    cases s.vib.recs.get i with
    | none => rfl
    | some r => simp only [ht, badParam]

/-- Every read refuses a slot, a turbine or an item slot out of range. -/
theorem reads_answersRefused {o : Origin} {s : State} (h : accepts s o) :
    (∀ k, 192 ≤ k → answersRefused (.readStream o k) s o 2 .badParameter 1 ∧
      answersRefused (.readBands o k) s o 5 .badParameter 1) ∧
    (∀ k, 25 ≤ k → answersRefused (.readTurbine o k) s o 3 .badParameter 1) ∧
    (∀ k, k = 0 ∨ 25 ≤ k → answersRefused (.readSpeed o k) s o 4 .badParameter 1 ∧
      answersRefused (.readIce o k) s o 8 .badParameter 1 ∧ answersRefused (.readCounters o k) s o 10 .badParameter 1) ∧
    (∀ k, 96 ≤ k → answersRefused (.readItem o k) s o 9 .badParameter 1) :=
  ⟨fun k hk => ⟨answersRefused_of (body := doReadStream o k) h rfl (forSlot_out hk _ _ _ _),
      answersRefused_of (body := doReadBands o k) h rfl (forSlot_out hk _ _ _ _)⟩,
    fun k hk => answersRefused_of (body := doReadTurbine o k) h rfl (doReadTurbine_out hk o s),
    fun k hk => ⟨answersRefused_of (body := doReadSpeed o k) h rfl (forTurbine_out hk _ _ _ _),
      answersRefused_of (body := doReadIce o k) h rfl (forTurbine_out hk _ _ _ _),
      answersRefused_of (body := doReadCounters o k) h rfl (forTurbine_out hk _ _ _ _)⟩,
    fun k hk => answersRefused_of (body := doReadItem o k) h rfl (forItem_out hk _ _ _ _)⟩

/-- LOAD STREAM refuses a list whose first bad pair is the `k`-th. -/
theorem doLoadStream_of_bad {es : List RawEntry} (h1 : 1 ≤ es.length) (h16 : es.length ≤ 16) {k : Nat}
    (hbad : firstBadPair [] 1 es = some k) (o : Origin) (s : State) :
    doLoadStream o es s = replyRefused s o 16 .badEntry k := by
  unfold doLoadStream
  rw [if_neg (by omega), hbad]
  rfl

/-- LOAD BANDSET refuses settings out of range. -/
theorem doLoadBandset_of_badSettings (b : SetId) {r : RawSetSettings} {bs : List RawBand} (h12 : bs.length ≤ 12)
    (hbad : setSettingsOk r = false) (o : Origin) (s : State) :
    doLoadBandset o b.val r bs s = replyRefused s o 18 .badEntry 0 := by
  unfold doLoadBandset
  simp only [placeOf_val, if_neg (Nat.not_lt.mpr h12), if_pos hbad, badEntry]

/-- LOAD BANDSET refuses a list whose first bad band is the `k`-th. -/
theorem doLoadBandset_of_badBand (b : SetId) {r : RawSetSettings} {bs : List RawBand} (h12 : bs.length ≤ 12)
    (hok : setSettingsOk r = true) {k : Nat} (hbad : firstBadBand 1 bs = some k) (o : Origin) (s : State) :
    doLoadBandset o b.val r bs s = replyRefused s o 18 .badEntry k := by
  unfold doLoadBandset
  simp only [placeOf_val, if_neg (Nat.not_lt.mpr h12), hok, Bool.true_eq_false, if_false, hbad, badEntry]

/-- LOAD LIMITS refuses a list whose first bad pair is the `k`-th. -/
theorem doLoadLimits_of_bad {ls : List RawLimit} (h40 : ls.length = 40) {k : Nat} (hbad : firstBadLimit 1 ls = some k)
    (o : Origin) (s : State) : doLoadLimits o ls s = replyRefused s o 19 .badEntry k := by
  unfold doLoadLimits
  rw [if_neg (not_not.mpr h40), hbad]
  rfl

/-- LOAD CURVE refuses a list whose first bad bin is that of wind speed `k`. -/
theorem doLoadCurve_of_bad (c : Fin 4) {bs : List Nat} (h25 : bs.length = 25) {k : Nat} (hbad : firstBadBin 3 bs = some k)
    (o : Origin) (s : State) : doLoadCurve o c.val bs s = replyRefused s o 20 .badEntry k := by
  unfold doLoadCurve
  rw [if_neg (not_not.mpr h25), placeOf_val]
  simp only [hbad, badEntry]

/-- LOAD SETTINGS refuses a list whose first bad setting is the `k`-th. -/
theorem doLoadSettings_of_bad {ns : List Nat} (h25 : ns.length = 25) {k : Nat}
    (hbad : firstBadSetting (settingAt ns 16) 1 ns = some k) (o : Origin) (s : State) :
    doLoadSettings o ns s = replyRefused s o 21 .badEntry k := by
  unfold doLoadSettings
  rw [if_neg (not_not.mpr h25), hbad]
  rfl

/-- Every load refuses the first bad entry of its list. -/
theorem loads_answersRefused {o : Origin} {s : State} (h : accepts s o) :
    (∀ es k, 1 ≤ es.length → es.length ≤ 16 → firstBadPair [] 1 es = some k →
      answersRefused (.loadStream o es) s o 16 .badEntry k) ∧
    (∀ (b : SetId) st bs, bs.length ≤ 12 → setSettingsOk st = false →
      answersRefused (.loadBandset o b.val st bs) s o 18 .badEntry 0) ∧
    (∀ (b : SetId) st bs k, bs.length ≤ 12 → setSettingsOk st = true → firstBadBand 1 bs = some k →
      answersRefused (.loadBandset o b.val st bs) s o 18 .badEntry k) ∧
    (∀ ls k, ls.length = 40 → firstBadLimit 1 ls = some k → answersRefused (.loadLimits o ls) s o 19 .badEntry k) ∧
    (∀ (c : Fin 4) bs k, bs.length = 25 → firstBadBin 3 bs = some k →
      answersRefused (.loadCurve o c.val bs) s o 20 .badEntry k) ∧
    (∀ ns k, ns.length = 25 → firstBadSetting (settingAt ns 16) 1 ns = some k →
      answersRefused (.loadSettings o ns) s o 21 .badEntry k) :=
  ⟨fun _ _ h1 h16 hbad => answersRefused_of h rfl (doLoadStream_of_bad h1 h16 hbad o s),
    fun b _ _ h12 hbad => answersRefused_of h rfl (doLoadBandset_of_badSettings b h12 hbad o s),
    fun b _ _ _ h12 hok hbad => answersRefused_of h rfl (doLoadBandset_of_badBand b h12 hok hbad o s),
    fun _ _ h40 hbad => answersRefused_of h rfl (doLoadLimits_of_bad h40 hbad o s),
    fun c _ _ h25 hbad => answersRefused_of h rfl (doLoadCurve_of_bad c h25 hbad o s),
    fun _ _ h25 hbad => answersRefused_of h rfl (doLoadSettings_of_bad h25 hbad o s)⟩

/-- LOAD STREAM refuses a count of pairs out of range. -/
theorem doLoadStream_of_count {es : List RawEntry} (h : es.length = 0 ∨ 16 < es.length) (o : Origin) (s : State) :
    doLoadStream o es s = replyRefused s o 16 .badParameter 1 := by
  unfold doLoadStream
  rw [if_pos h, badParam]

/-- DROP STREAM refuses a count of slots out of range. -/
theorem doDropStream_of_count {ks : List Nat} (h : ks.length = 0 ∨ 16 < ks.length) (o : Origin) (s : State) :
    doDropStream o ks s = replyRefused s o 17 .badParameter 1 := by
  unfold doDropStream
  rw [if_pos h, badParam]

/-- DROP STREAM refuses the first slot out of range, by its place in the list. -/
theorem doDropStream_of_bad {pre post : List Nat} {k : Nat} (h16 : (pre ++ k :: post).length ≤ 16)
    (hpre : ∀ x ∈ pre, x < 192) (hk : 192 ≤ k) (o : Origin) (s : State) :
    doDropStream o (pre ++ k :: post) s = replyRefused s o 17 .badParameter (pre.length + 1) := by
  unfold doDropStream
  rw [if_neg (by simp at h16 ⊢; omega), firstBadSlot_first hpre hk post 1, Nat.add_comm 1]
  rfl

/-- LOAD BANDSET refuses a set that does not exist. -/
theorem doLoadBandset_of_set {k : Nat} (hk : 32 ≤ k) (o : Origin) (r : RawSetSettings) (bs : List RawBand) (s : State) :
    doLoadBandset o k r bs s = replyRefused s o 18 .badParameter 1 := by
  unfold doLoadBandset
  rw [placeOf_none hk]
  rfl

/-- LOAD BANDSET refuses more than 12 bands. -/
theorem doLoadBandset_of_count (b : SetId) {bs : List RawBand} (h12 : 12 < bs.length) (o : Origin) (r : RawSetSettings)
    (s : State) : doLoadBandset o b.val r bs s = replyRefused s o 18 .badParameter 2 := by
  unfold doLoadBandset
  simp only [placeOf_val, if_pos h12, badParam]

/-- LOAD CURVE refuses a class that does not exist. -/
theorem doLoadCurve_of_class {k : Nat} (hk : 4 ≤ k) {bs : List Nat} (h25 : bs.length = 25) (o : Origin) (s : State) :
    doLoadCurve o k bs s = replyRefused s o 20 .badParameter 1 := by
  unfold doLoadCurve
  rw [if_neg (not_not.mpr h25), placeOf_none hk]
  rfl

/-- READ BANDS of a slot without a VIB entry and every load with a parameter out of range are refused. -/
theorem loadParameters_answersRefused {o : Origin} {s : State} (h : accepts s o) :
    (∀ i : SlotId, (∀ e, entryAt s i = some e → e.role ≠ .vib) → answersRefused (.readBands o i.val) s o 5 .badParameter 1) ∧
    (∀ es, es.length = 0 ∨ 16 < es.length → answersRefused (.loadStream o es) s o 16 .badParameter 1) ∧
    (∀ ks, ks.length = 0 ∨ 16 < ks.length → answersRefused (.dropStream o ks) s o 17 .badParameter 1) ∧
    (∀ ks pre k post, ks.length ≤ 16 → ks = pre ++ k :: post → (∀ x ∈ pre, x < 192) → 192 ≤ k →
      answersRefused (.dropStream o ks) s o 17 .badParameter (pre.length + 1)) ∧
    (∀ k st bs, 32 ≤ k → answersRefused (.loadBandset o k st bs) s o 18 .badParameter 1) ∧
    (∀ (b : SetId) st bs, 12 < bs.length → answersRefused (.loadBandset o b.val st bs) s o 18 .badParameter 2) ∧
    (∀ k bs, bs.length = 25 → 4 ≤ k → answersRefused (.loadCurve o k bs) s o 20 .badParameter 1) := by
  refine ⟨fun i hi => answersRefused_of (body := doReadBands o i.val) h rfl
      (by rw [doReadBands, forSlot_val, readBandsOf_of_not_vib hi]),
    fun _ hes => answersRefused_of h rfl (doLoadStream_of_count hes o s),
    fun _ hks => answersRefused_of h rfl (doDropStream_of_count hks o s), ?_,
    fun _ st bs hk => answersRefused_of h rfl (doLoadBandset_of_set hk o st bs s),
    fun b st _ h12 => answersRefused_of h rfl (doLoadBandset_of_count b h12 o st s),
    fun _ _ h25 hk => answersRefused_of h rfl (doLoadCurve_of_class hk h25 o s)⟩
  rintro ks pre k post h16 rfl hpre hk
  exact answersRefused_of h rfl (doDropStream_of_bad h16 hpre hk o s)

/-! ## Other commands that are refused -/

/-- SIGN OFF refuses an empty item slot. -/
theorem signOffAt_of_empty {s : State} {i : ItemId} (h : s.items.get i = none) (o : Origin) :
    signOffAt o s i = replyRefused s o 40 .badParameter 1 := by
  unfold signOffAt
  rw [h]
  rfl

/-- SET COUNTER refuses a counter that does not exist. -/
theorem doSetCounter_of_counter (t : Tid) {counter : Nat} (h : 5 ≤ counter) (value : Nat) (o : Origin) (s : State) :
    doSetCounter o (tnum t) counter value s = replyRefused s o 41 .badParameter 2 := by
  have hnone : counterOf counter = none := by
    unfold counterOf
    split
    case h_6 => rfl
    all_goals omega
  rw [doSetCounter, forTurbine_tnum, hnone]
  rfl

/-- SET CLOCK refuses the first field out of range. -/
theorem doSetClock_of_bad {day hour minute second tenth mode k : Nat}
    (h : firstBadClockField day hour minute second tenth mode = some k) (o : Origin) (s : State) :
    doSetClock o day hour minute second tenth mode s = replyRefused s o 45 .badParameter k := by
  unfold doSetClock
  rw [h]
  rfl

/-- SET FINDING MASK refuses a code that is no finding kind's. -/
theorem doSetFindingMask_of_kind {kind : Nat} (h : kind = 0 ∨ 37 < kind) (setting : Nat) (o : Origin) (s : State) :
    doSetFindingMask o kind setting s = replyRefused s o 49 .badParameter 1 := by
  have hnone : kindOfCode kind = none := by
    rw [← Option.not_isSome_iff_eq_none, kindOfCode_isSome]
    omega
  unfold doSetFindingMask
  rw [hnone]
  rfl

/-- SET FINDING MASK refuses a setting that is neither ON nor OFF. -/
theorem doSetFindingMask_of_setting {kind setting : Nat} (hkind : 1 ≤ kind ∧ kind ≤ 37) (h : 1 < setting) (o : Origin)
    (s : State) : doSetFindingMask o kind setting s = replyRefused s o 49 .badParameter 2 := by
  obtain ⟨k, hk⟩ := Option.isSome_iff_exists.mp ((kindOfCode_isSome kind).mpr hkind)
  have hnone : flagOf setting = none := by
    rw [← Option.not_isSome_iff_eq_none, flagOf_isSome]
    omega
  unfold doSetFindingMask
  simp only [hk, hnone, badParam]

/-- ADVICE MODE refuses a mode that does not exist. -/
theorem doAdviceMode_of_bad {mode : Nat} (h : 1 < mode) (o : Origin) (s : State) :
    doAdviceMode o mode s = replyRefused s o 50 .badParameter 1 := by
  unfold doAdviceMode
  rw [if_pos h, badParam]

/-- SET CLOCK refuses each field out of range, of several the first. -/
theorem setClock_answersRefused {o : Origin} {s : State} (h : accepts s o) (day hour minute second tenth mode : Nat) :
    let refused (k : Nat) := answersRefused (.setClock o day hour minute second tenth mode) s o 45 .badParameter k
    (65535 < day → refused 1) ∧ (day ≤ 65535 → 23 < hour → refused 2) ∧
    (day ≤ 65535 → hour ≤ 23 → 59 < minute → refused 3) ∧
    (day ≤ 65535 → hour ≤ 23 → minute ≤ 59 → 59 < second → refused 4) ∧
    (day ≤ 65535 → hour ≤ 23 → minute ≤ 59 → second ≤ 59 → 9 < tenth → refused 5) ∧
    (day ≤ 65535 → hour ≤ 23 → minute ≤ 59 → second ≤ 59 → tenth ≤ 9 → 1 < mode → refused 6) := by
  have hrefused {k : Nat} (hk : firstBadClockField day hour minute second tenth mode = some k) :
      answersRefused (.setClock o day hour minute second tenth mode) s o 45 .badParameter k :=
    answersRefused_of h rfl (doSetClock_of_bad hk o s)
  refine ⟨fun h1 => hrefused ?_, fun h1 h2 => hrefused ?_, fun h1 h2 h3 => hrefused ?_, fun h1 h2 h3 h4 => hrefused ?_,
    fun h1 h2 h3 h4 h5 => hrefused ?_, fun h1 h2 h3 h4 h5 h6 => hrefused ?_⟩ <;>
  grind [firstBadClockField]

/-- Every other command with a parameter out of range is refused. -/
theorem otherParameters_answersRefused {o : Origin} {s : State} (h : accepts s o) :
    (∀ k, 192 ≤ k → answersRefused (.holdStream o k) s o 33 .badParameter 1 ∧
      answersRefused (.resumeStream o k) s o 34 .badParameter 1) ∧
    (∀ k, k = 0 ∨ 25 ≤ k → answersRefused (.declareIce o k) s o 42 .badParameter 1 ∧
      answersRefused (.declareClear o k) s o 43 .badParameter 1 ∧
      ∀ counter value, answersRefused (.setCounter o k counter value) s o 41 .badParameter 1) ∧
    (∀ (t : Tid) counter value, 5 ≤ counter → answersRefused (.setCounter o (tnum t) counter value) s o 41 .badParameter 2) ∧
    (∀ k, 96 ≤ k → answersRefused (.signOff o k) s o 40 .badParameter 1) ∧
    (∀ i : ItemId, s.items.get i = none → answersRefused (.signOff o i.val) s o 40 .badParameter 1) ∧
    (∀ day hour minute second tenth mode : Nat,
      let refused (k : Nat) := answersRefused (.setClock o day hour minute second tenth mode) s o 45 .badParameter k
      (65535 < day → refused 1) ∧ (day ≤ 65535 → 23 < hour → refused 2) ∧
      (day ≤ 65535 → hour ≤ 23 → 59 < minute → refused 3) ∧
      (day ≤ 65535 → hour ≤ 23 → minute ≤ 59 → 59 < second → refused 4) ∧
      (day ≤ 65535 → hour ≤ 23 → minute ≤ 59 → second ≤ 59 → 9 < tenth → refused 5) ∧
      (day ≤ 65535 → hour ≤ 23 → minute ≤ 59 → second ≤ 59 → tenth ≤ 9 → 1 < mode → refused 6)) ∧
    (∀ kind setting, kind = 0 ∨ 37 < kind → answersRefused (.setFindingMask o kind setting) s o 49 .badParameter 1) ∧
    (∀ kind setting, 1 ≤ kind → kind ≤ 37 → 1 < setting →
      answersRefused (.setFindingMask o kind setting) s o 49 .badParameter 2) ∧
    (∀ mode, 1 < mode → answersRefused (.adviceMode o mode) s o 50 .badParameter 1) :=
  ⟨fun k hk => ⟨answersRefused_of (body := doHoldStream o k) h rfl (forSlot_out hk _ _ _ _),
      answersRefused_of (body := doResumeStream o k) h rfl (forSlot_out hk _ _ _ _)⟩,
    fun k hk => ⟨answersRefused_of (body := doDeclareIce o k) h rfl (forTurbine_out hk _ _ _ _),
      answersRefused_of (body := doDeclareClear o k) h rfl (forTurbine_out hk _ _ _ _),
      fun counter value => answersRefused_of (body := doSetCounter o k counter value) h rfl (forTurbine_out hk _ _ _ _)⟩,
    fun t _ value hc => answersRefused_of h rfl (doSetCounter_of_counter t hc value o s),
    fun k hk => answersRefused_of (body := doSignOff o k) h rfl (forItem_out hk _ _ _ _),
    fun i hi => answersRefused_of (body := doSignOff o i.val) h rfl (by rw [doSignOff, forItem_val, signOffAt_of_empty hi]),
    setClock_answersRefused h,
    fun _ setting hk => answersRefused_of h rfl (doSetFindingMask_of_kind hk setting o s),
    fun _ _ h1 h37 hs => answersRefused_of h rfl (doSetFindingMask_of_setting ⟨h1, h37⟩ hs o s),
    fun _ hm => answersRefused_of h rfl (doAdviceMode_of_bad hm o s)⟩

/-- The first bad band of LOAD BANDSET. -/
theorem firstBadBand_iff (bs : List RawBand) (k : Nat) : firstBadBand 1 bs = some k ↔
    ∃ pre b post, bs = pre ++ b :: post ∧ k = pre.length + 1 ∧ bandOk b = false ∧ ∀ x ∈ pre, bandOk x = true :=
  firstBad_iff_mem 1 (fun _ => rfl) (fun _ _ _ => rfl) bs k

/-- The first bad pair of LOAD LIMITS. -/
theorem firstBadLimit_iff (ls : List RawLimit) (k : Nat) : firstBadLimit 1 ls = some k ↔
    ∃ pre l post, ls = pre ++ l :: post ∧ k = pre.length + 1 ∧ (2000 < l.voltage ∨ 10000 < l.current) ∧
      ∀ x ∈ pre, x.voltage ≤ 2000 ∧ x.current ≤ 10000 := by
  simp only [← limitOk_iff, ← limitOk_eq_false_iff]
  exact firstBad_iff_mem 1 (fun _ => rfl) (fun _ _ _ => rfl) ls k

/-- The first bad bin of LOAD CURVE. -/
theorem firstBadBin_iff (bs : List Nat) (k : Nat) : firstBadBin 3 bs = some k ↔
    ∃ pre b post, bs = pre ++ b :: post ∧ k = pre.length + 3 ∧ 32767 < b ∧ ∀ x ∈ pre, x ≤ 32767 := by
  have h := firstBad_iff_mem (f := firstBadBin) (ok := fun b => decide (b ≤ 32767)) 3 (fun _ => rfl)
    (fun i a l => by simp [firstBadBin]) bs k
  simpa using h

/-- Settles O22, from the first bad entry of each list, the ranges of each entry, and the refusal of each command. -/
theorem badParametersAndEntriesAreRefused : Obligations.BadParametersAndEntriesAreRefused :=
  ⟨fun _ _ => reads_answersRefused, fun _ _ => loads_answersRefused, firstBadPair_iff, entryOk_iff, setSettingsOk_iff,
    firstBadBand_iff, bandOk_iff, firstBadLimit_iff, firstBadBin_iff, fun ns don k => firstBadSetting_iff ns don k,
    settingOk_iff, fun _ _ => loadParameters_answersRefused, fun _ _ => otherParameters_answersRefused⟩

end Sys2Proof.Machine
end

section
/-! PROOF. What the loads write to the Staging Area (R1, R65, R95, R110, R183, R184). -/

namespace Sys2Proof.Machine

/-! ## LOAD STREAM and DROP STREAM (R184) -/

/-- A pair of LOAD STREAM writes its own slot. -/
theorem stageEntry_get_same (x : Tab (Option StreamEntry) 192) {r : RawEntry} {i : SlotId} (h : r.slot = i.val) :
    (stageEntry x r).get i = some (entryOf r) := by
  unfold stageEntry
  rw [h, placeOf_val]
  simp

/-- A pair of LOAD STREAM leaves the other slots. -/
theorem stageEntry_get_of_ne (x : Tab (Option StreamEntry) 192) {r : RawEntry} {i : SlotId} (h : r.slot ≠ i.val) :
    (stageEntry x r).get i = x.get i := by
  unfold stageEntry
  by_cases hk : r.slot < 192
  · obtain ⟨j, hj⟩ : ∃ j : SlotId, r.slot = j.val := ⟨⟨r.slot, hk⟩, rfl⟩
    simp only [hj, placeOf_val, get_put]
    exact if_neg (fun hij => h (by rw [hj, hij]))
  · rw [placeOf_none (Nat.not_lt.mp hk)]

/-- A list of pairs leaves a slot that none of them names. -/
theorem foldl_stageEntry_get_of_ne (es : List RawEntry) (x : Tab (Option StreamEntry) 192) {i : SlotId}
    (h : ∀ r ∈ es, r.slot ≠ i.val) : (es.foldl stageEntry x).get i = x.get i := by
  induction es generalizing x with
  | nil => rfl
  | cons r es ih =>
    rw [List.foldl_cons, ih _ (fun r' hr' => h r' (List.mem_cons_of_mem r hr')),
      stageEntry_get_of_ne x (h r List.mem_cons_self)]

/-- A list of pairs that name different slots writes each slot named. -/
theorem foldl_stageEntry_get (es : List RawEntry) (x : Tab (Option StreamEntry) 192) (hnodup : (es.map (·.slot)).Nodup)
    {i : SlotId} {r : RawEntry} (hr : r ∈ es) (hi : r.slot = i.val) : (es.foldl stageEntry x).get i = some (entryOf r) := by
  induction es generalizing x with
  | nil => cases hr
  | cons a es ih =>
    obtain ⟨ha, hes⟩ := List.nodup_cons.mp hnodup
    rw [List.foldl_cons]
    rcases List.mem_cons.mp hr with rfl | hr
    · rw [foldl_stageEntry_get_of_ne _ _ (fun r' hr' heq => ha ?_), stageEntry_get_same x hi]
      exact List.mem_map.mpr ⟨r', hr', heq.trans hi.symm⟩
    · exact ih (stageEntry x a) hes hr

/-- Pairs of which none is bad name different slots. -/
theorem nodup_of_firstBadPair {es : List RawEntry} {seen : List Nat} {k : Nat} (h : firstBadPair seen k es = none) :
    (es.map (·.slot)).Nodup ∧ ∀ r ∈ es, r.slot ∉ seen := by
  induction es generalizing seen k with
  | nil => simp
  | cons r es ih =>
    unfold firstBadPair at h
    split_ifs at h with hok
    obtain ⟨hnodup, hseen⟩ := ih h
    have hr : r.slot ∉ seen := by
      simp only [pairOk, Bool.and_eq_true, Bool.not_eq_true', List.contains_eq_mem, decide_eq_false_iff_not] at hok
      exact hok.1.2
    refine ⟨List.nodup_cons.mpr ⟨fun hmem => ?_, hnodup⟩, fun x hx => ?_⟩
    · obtain ⟨x, hx, hslot⟩ := List.mem_map.mp hmem
      exact hseen x hx (hslot ▸ List.mem_cons_self)
    · rcases List.mem_cons.mp hx with rfl | hx
      · exact hr
      · exact fun hmem => hseen x hx (List.mem_cons_of_mem _ hmem)

/-- LOAD STREAM past its checks. -/
theorem doLoadStream_of_good {es : List RawEntry} (h1 : 1 ≤ es.length) (h16 : es.length ≤ 16)
    (hok : firstBadPair [] 1 es = none) (o : Origin) (s : State) :
    doLoadStream o es s =
      replyDone { s with staged := { s.staged with streams := es.foldl stageEntry s.staged.streams } } o 16 [] := by
  unfold doLoadStream
  rw [if_neg (by omega), hok]
  rfl

/-- A slot of DROP STREAM is emptied. -/
theorem unstageSlot_get (x : Tab (Option StreamEntry) 192) (k : Nat) (i : SlotId) :
    (unstageSlot x k).get i = if i.val = k then none else x.get i := by
  unfold unstageSlot
  by_cases hk : k < 192
  · obtain ⟨j, rfl⟩ : ∃ j : SlotId, k = j.val := ⟨⟨k, hk⟩, rfl⟩
    simp only [placeOf_val, get_put, Fin.ext_iff]
  · rw [placeOf_none (Nat.not_lt.mp hk), if_neg (by omega)]

/-- The slots of DROP STREAM are emptied, the others kept. -/
theorem foldl_unstageSlot_get (ks : List Nat) (x : Tab (Option StreamEntry) 192) (i : SlotId) :
    (ks.foldl unstageSlot x).get i = if i.val ∈ ks then none else x.get i := by
  induction ks generalizing x with
  | nil => simp
  | cons k ks ih =>
    rw [List.foldl_cons, ih, unstageSlot_get]
    by_cases hi : i.val = k <;> simp [hi]

/-- No slot of a list is bad where all are in range. -/
theorem firstBadSlot_of_good {ks : List Nat} (h : ∀ k ∈ ks, k < 192) (n : Nat) : firstBadSlot n ks = none := by
  induction ks generalizing n with
  | nil => rfl
  | cons k ks ih =>
    rw [firstBadSlot, if_pos (h k List.mem_cons_self), ih (fun x hx => h x (List.mem_cons_of_mem k hx))]

/-- DROP STREAM past its checks. -/
theorem doDropStream_of_good {ks : List Nat} (h1 : 1 ≤ ks.length) (h16 : ks.length ≤ 16) (hok : ∀ k ∈ ks, k < 192)
    (o : Origin) (s : State) :
    doDropStream o ks s =
      replyDone { s with staged := { s.staged with streams := ks.foldl unstageSlot s.staged.streams } } o 17 [] := by
  unfold doDropStream
  rw [if_neg (by omega), firstBadSlot_of_good hok]
  rfl

/-! ## The entry that a pair gives (R1) -/

/-- A phase code in range is the code of the phase it names. -/
theorem phaseCode_getD {k : Nat} (h : k ≤ 2) : phaseCode ((phaseOf k).getD .a) = k := by
  obtain ⟨x, rfl⟩ := exists_phaseCode.mpr h
  rw [phaseOf_eq_some.mpr rfl, Option.getD_some]

/-- An edges code in range is the code of the edges it names. -/
theorem edgesCode_getD {k : Nat} (h : k ≤ 2) : edgesCode ((edgesOf k).getD .rising) = k := by
  obtain ⟨x, rfl⟩ := exists_edgesCode.mpr h
  rw [edgesOf_eq_some.mpr rfl, Option.getD_some]

/-- A polarity code in range is the code of the polarity it names. -/
theorem polarityCode_getD {k : Nat} (h : k ≤ 1) : polarityCode ((polarityOf k).getD .rising) = k := by
  obtain ⟨x, rfl⟩ := exists_polarityCode.mpr h
  rw [polarityOf_eq_some.mpr rfl, Option.getD_some]

/-- The role code that stands for VIB. -/
theorem roleCode_eq_zero (x : Role) : roleCode x = 0 ↔ x = .vib := by cases x <;> decide

/-- The role code that stands for TACH. -/
theorem roleCode_eq_one (x : Role) : roleCode x = 1 ↔ x = .tach := by cases x <;> decide

/-- The role codes of entries with a phase. -/
theorem hasPhase_iff (x : Role) : hasPhase x = true ↔ roleCode x = 2 ∨ roleCode x = 3 ∨ roleCode x = 4 := by
  cases x <;> decide

/-- The role codes of entries with a scale code. -/
theorem hasScale_iff (x : Role) :
    hasScale x = true ↔ roleCode x = 0 ∨ roleCode x = 2 ∨ roleCode x = 3 ∨ roleCode x = 4 := by
  cases x <;> decide

/-- The entry of a good pair holds the values sent, and 0 in each field that its role or disposition does not use. -/
theorem entryOf_fields {r : RawEntry} (h : entryOk r = true) :
    let e := entryOf r
    let phased := r.role = 2 ∨ r.role = 3 ∨ r.role = 4
    let scaled := r.role = 0 ∨ phased
    let tach := r.role = 1
    let marked := tach ∧ r.markerPresent = 1
    e.source = r.source ∧ e.channel = r.channel ∧ streamKindCode e.kind = r.kind ∧ roleCode e.role = r.role ∧
    phaseCode e.phase = (if phased then r.phase else 0) ∧ e.bandSet = (if r.role = 0 then r.bandSet else 0) ∧
    e.scale = (if scaled then r.scale else 0) ∧ e.pulses = (if tach then r.pulses else 0) ∧
    edgesCode e.edges = (if tach then r.edges else 0) ∧ (e.markerPresent = true ↔ marked) ∧
    polarityCode e.markerPolarity = (if marked then r.markerPolarity else 0) ∧
    e.spacing = (if tach then r.spacing else 0) ∧ dispositionCode e.disposition = r.disposition ∧
    e.thinN = (if r.disposition = 2 then r.thinN else 0) ∧ e.silence = r.silence := by
  obtain ⟨kind, role, disp, hkind, hrole, hdisp⟩ := codes_of_entryOk h
  obtain ⟨-, -, -, hphase, -, -, htach, -, -⟩ := (entryOk_of_codes hkind hrole hdisp).mp h
  rw [tachFieldsOk_iff] at htach
  intro e phased scaled tach marked
  have he : e = entryOf r := rfl
  unfold entryOf at he
  simp only [roleOf_eq_some.mpr hrole, dispositionOf_eq_some.mpr hdisp, streamKindOf_eq_some.mpr hkind,
    Option.getD_some] at he
  have hphased : hasPhase role = true ↔ phased := by rw [hasPhase_iff, ← hrole]
  have hscaled : hasScale role = true ↔ scaled := by rw [hasScale_iff, ← hrole]
  have hvib : role = .vib ↔ r.role = 0 := by rw [hrole, roleCode_eq_zero]
  have htachCode : role = .tach ↔ tach := by rw [← roleCode_eq_one, ← hrole]
  have hthin : disp = .thin ↔ r.disposition = 2 := by rw [hdisp, dispositionCode_eq_two]
  rw [hphased] at hphase
  rw [htachCode] at htach
  simp only [hphased, hscaled, hvib, htachCode, hthin, Bool.and_eq_true, decide_eq_true_eq] at he
  rw [he]
  refine ⟨rfl, rfl, hkind.symm, hrole.symm, ?_, rfl, rfl, rfl, ?_, by simp [marked], ?_, rfl, hdisp.symm, rfl, rfl⟩
  · dsimp only
    split_ifs with hp
    · exact phaseCode_getD (hphase hp)
    · rfl
  · dsimp only
    split_ifs with ht
    · exact edgesCode_getD (htach ht).2.2.1
    · rfl
  · dsimp only
    split_ifs with hm
    · exact polarityCode_getD ((htach hm.1).2.2.2.2.1 hm.2)
    · rfl

/-- Settles O23, from what the staged table holds behind each list and the fields of the entry a pair gives. -/
theorem streamLoadsStageOnly : Obligations.StreamLoadsStageOnly := by
  intro o s hacc
  refine ⟨fun es h1 h16 hok => ⟨es.foldl stageEntry s.staged.streams, ?_, fun i r hr hi => ?_, fun i hi => ?_⟩,
    fun ks h1 h16 hok => ⟨ks.foldl unstageSlot s.staged.streams, ?_, foldl_unstageSlot_get ks _⟩,
    fun r hr => entryOf_fields hr⟩
  · exact answersDone_of hacc rfl (doLoadStream_of_good h1 h16 hok o s)
  · exact foldl_stageEntry_get es _ (nodup_of_firstBadPair hok).1 hr hi
  · exact foldl_stageEntry_get_of_ne es _ hi
  · exact answersDone_of hacc rfl (doDropStream_of_good h1 h16 hok o s)

/-! ## The table loads (R65, R95, R110, R183) -/

/-- A list has no bad entry where every entry is good. -/
theorem firstBad_eq_none {α : Type} {f : Nat → List α → Option Nat} {ok : α → Bool} (hnil : ∀ i, f i [] = none)
    (hcons : ∀ i a l, f i (a :: l) = if ok a then f (i + 1) l else some i) {l : List α} (h : ∀ a ∈ l, ok a = true)
    (i : Nat) : f i l = none := by
  induction l generalizing i with
  | nil => exact hnil i
  | cons a l ih => rw [hcons, if_pos (h a List.mem_cons_self), ih (fun x hx => h x (List.mem_cons_of_mem a hx))]

/-- LOAD BANDSET past its checks. -/
theorem doLoadBandset_of_good (b : SetId) {st : RawSetSettings} {bs : List RawBand} (h12 : bs.length ≤ 12)
    (hst : setSettingsOk st = true) (hbs : ∀ x ∈ bs, bandOk x = true) (o : Origin) (s : State) :
    doLoadBandset o b.val st bs s =
      replyDone { s with staged := { s.staged with bands := put s.staged.bands b (bandSetOf st bs) } } o 18 [] := by
  have hnone : firstBadBand 1 bs = none := firstBad_eq_none (fun _ => rfl) (fun _ _ _ => rfl) hbs 1
  unfold doLoadBandset
  simp only [placeOf_val, if_neg (Nat.not_lt.mpr h12), hst, Bool.true_eq_false, if_false, hnone, setStaged]

/-- LOAD LIMITS past its checks. -/
theorem doLoadLimits_of_good {ls : List RawLimit} (h40 : ls.length = 40)
    (hls : ∀ l ∈ ls, l.voltage ≤ 2000 ∧ l.current ≤ 10000) (o : Origin) (s : State) :
    doLoadLimits o ls s = replyDone { s with staged := { s.staged with limits := limitsOf ls } } o 19 [] := by
  have hnone : firstBadLimit 1 ls = none :=
    firstBad_eq_none (fun _ => rfl) (fun _ _ _ => rfl) (fun l hl => (limitOk_iff l).mpr (hls l hl)) 1
  unfold doLoadLimits
  rw [if_neg (not_not.mpr h40), hnone]
  rfl

/-- LOAD CURVE past its checks. -/
theorem doLoadCurve_of_good (c : Fin 4) {bs : List Nat} (h25 : bs.length = 25) (hbs : ∀ b ∈ bs, b ≤ 32767) (o : Origin)
    (s : State) : doLoadCurve o c.val bs s =
      replyDone { s with staged := { s.staged with curves := put s.staged.curves c (curveOf bs) } } o 20 [] := by
  have hnone : firstBadBin 3 bs = none :=
    firstBad_eq_none (ok := fun b => decide (b ≤ 32767)) (fun _ => rfl) (fun _ _ _ => by simp [firstBadBin])
      (fun b hb => by simpa using hbs b hb) 3
  unfold doLoadCurve
  rw [if_neg (not_not.mpr h25), placeOf_val]
  simp only [hnone, setStaged]

/-- LOAD SETTINGS past its checks. -/
theorem doLoadSettings_of_good {ns : List Nat} (h25 : ns.length = 25)
    (hns : firstBadSetting (settingAt ns 16) 1 ns = none) (o : Origin) (s : State) :
    doLoadSettings o ns s = replyDone { s with staged := { s.staged with settings := settingsOf ns } } o 21 [] := by
  unfold doLoadSettings
  rw [if_neg (not_not.mpr h25), hns]
  rfl

/-- The fields of the band that a good raw band gives. -/
theorem bandOf_fields {b : RawBand} (h : bandOk b = true) :
    bandKindCode (bandOf b).kind = b.kind ∧ (bandOf b).lower = b.lower ∧ (bandOf b).upper = b.upper ∧
      (bandOf b).alert = b.alert ∧ (bandOf b).alarm = b.alarm ∧ ((bandOf b).iceSensitive = true ↔ b.iceSensitive = 1) := by
  obtain ⟨hkind, -⟩ := (bandOk_iff b).mp h
  refine ⟨?_, rfl, rfl, rfl, rfl, by simp [bandOf]⟩
  unfold bandOf
  by_cases h0 : b.kind = 0
  · simp [h0, bandKindCode]
  · have h1 : b.kind = 1 := by omega
    simp [h1, bandKindCode]

/-- The fields of the set that good settings and bands give. -/
theorem bandSetOf_fields {st : RawSetSettings} {bs : List RawBand} (hbs : ∀ b ∈ bs, bandOk b = true)
    (hst : setSettingsOk st = true) :
    let x := bandSetOf st bs
    x.revolutions = st.revolutions ∧ x.persistence = st.persistence ∧ (x.report = .level ↔ st.report = 1) ∧
    x.postscale = st.postscale ∧ x.skip = st.skip ∧ x.bands.length = bs.length ∧
    ∀ (k : Nat) (b : RawBand) (y : Band), bs[k]? = some b → x.bands[k]? = some y →
      bandKindCode y.kind = b.kind ∧ y.lower = b.lower ∧ y.upper = b.upper ∧ y.alert = b.alert ∧ y.alarm = b.alarm ∧
      (y.iceSensitive = true ↔ b.iceSensitive = 1) := by
  obtain ⟨-, -, -, -, hreport, -⟩ := (setSettingsOk_iff st).mp hst
  refine ⟨rfl, rfl, ?_, rfl, rfl, List.length_map _, fun k b y hb hy => ?_⟩
  · unfold bandSetOf
    by_cases h0 : st.report = 0
    · simp [h0]
    · have h1 : st.report = 1 := by omega
      simp [h1]
  · have hy' : some (bandOf b) = some y := by
      rw [← hy, bandSetOf, List.getElem?_map, hb, Option.map_some]
    rw [← Option.some.inj hy']
    exact bandOf_fields (hbs b (List.mem_of_getElem? hb))

/-- The limits that entries give: the THD pair, then the orders 2 to 40. -/
theorem limitsOf_fields (ls : List RawLimit) (l : RawLimit) :
    (ls[0]? = some l → (limitsOf ls).thd = { voltage := l.voltage, current := l.current }) ∧
    (∀ k : Fin 39, ls[k.val + 1]? = some l →
      (limitsOf ls).orders.get k = { voltage := l.voltage, current := l.current }) := by
  refine ⟨fun h => ?_, fun k h => ?_⟩
  · rw [limitsOf, List.getD_eq_getElem?_getD, h]
    rfl
  · rw [limitsOf]
    simp only [get_tabOf, List.getD_eq_getElem?_getD, h, Option.getD_some, limitOf]

/-- The curve that bins give, bin by bin. -/
theorem curveOf_get {bs : List Nat} {k : Fin 25} {n : Nat} (h : bs[k.val]? = some n) : (curveOf bs).get k = n := by
  simp only [curveOf, get_tabOf, List.getD_eq_getElem?_getD, h, Option.getD_some]

/-- Settles O24, from each table load past its checks and the fields of what it carries. -/
theorem tableLoadsStageOnly : Obligations.TableLoadsStageOnly := by
  intro o s hacc
  refine ⟨fun b st bs h12 hst hbs => ?_, fun ls h40 hls => ?_, fun c bs h25 hbs => ?_, fun ns h25 hns => ?_,
    fun st bs hbs hst => bandSetOf_fields hbs hst, fun ls _ l => limitsOf_fields ls l, fun bs k n h => curveOf_get h, ?_⟩
  · exact answersDone_of hacc rfl (doLoadBandset_of_good b h12 hst hbs o s)
  · exact answersDone_of hacc rfl (doLoadLimits_of_good h40 hls o s)
  · exact answersDone_of hacc rfl (doLoadCurve_of_good c h25 hbs o s)
  · exact answersDone_of hacc rfl (doLoadSettings_of_good h25 hns o s)
  · intros
    rfl

end Sys2Proof.Machine
end

section
/-! PROOF. Stream entries read back, and declarations and thaws of the ice state (R121, R122, R125, R126, R194). -/

namespace Sys2Proof.Machine

/-! ## Stream entries read back (R1, R194) -/

/-- The pair whose fields are the codes of an entry. -/
def codesOf (i : SlotId) (e : StreamEntry) : RawEntry :=
  { slot := i.val, source := e.source, channel := e.channel, kind := streamKindCode e.kind, role := roleCode e.role,
    phase := phaseCode e.phase, bandSet := e.bandSet, scale := e.scale, pulses := e.pulses, edges := edgesCode e.edges,
    markerPresent := flagCode e.markerPresent, markerPolarity := polarityCode e.markerPolarity, spacing := e.spacing,
    disposition := dispositionCode e.disposition, thinN := e.thinN, silence := e.silence }

/-- The bytes of an entry, one by one. -/
theorem entryBytes_eq (i : SlotId) (e : StreamEntry) : entryBytes i (some e) =
    [byteOf (i.val / 1), byteOf (e.source / 1), byteOf (e.channel / 1), byteOf (streamKindCode e.kind / 1),
      byteOf (roleCode e.role / 1), byteOf (phaseCode e.phase / 1), byteOf (e.bandSet / 1), byteOf (e.scale / 1),
      byteOf (e.pulses / 256), byteOf (e.pulses / 1), byteOf (edgesCode e.edges / 1),
      byteOf (flagCode e.markerPresent / 1), byteOf (polarityCode e.markerPolarity / 1), byteOf (e.spacing / 256),
      byteOf (e.spacing / 1), byteOf (dispositionCode e.disposition / 1), byteOf (e.thinN / 1), byteOf (e.silence / 1)] := rfl

/-- The entry's codes are read from its bytes. -/
theorem rawEntryOf_entryBytes {i : SlotId} {e : StreamEntry} (h : (codesOf i e).wf = true) :
    rawEntryOf (entryBytes i (some e)) = codesOf i e := by
  simp only [RawEntry.wf, codesOf, List.all_cons, List.all_nil, Bool.and_true, Bool.and_eq_true, isByte, isHalf,
    decide_eq_true_eq, and_assoc] at h
  obtain ⟨hslot, hsource, hchannel, hkind, hrole, hphase, hset, hscale, hedges, hmarker, hpolarity, hdisp, hthin, hsilence,
    hpulses, hspacing⟩ := h
  have hpulses := of_decide_eq_true hpulses
  have hspacing := of_decide_eq_true hspacing
  simp only [rawEntryOf, codesOf, entryBytes_eq, byteAt, fieldAt, ofBe, byteOf, Nat.div_one, RawEntry.mk.injEq,
    List.getD_cons_zero, List.getD_cons_succ, List.drop_succ_cons, List.drop_zero, List.take_succ_cons, List.take_zero,
    List.foldl_cons, List.foldl_nil, BitVec.toNat_ofNat]
  refine ⟨?_, ?_, ?_, ?_, ?_, ?_, ?_, ?_, ?_, ?_, ?_, ?_, ?_, ?_, ?_, ?_⟩
  all_goals omega

/-- A phase is read from its code. -/
theorem phaseOf_phaseCode (x : Phase) : phaseOf (phaseCode x) = some x := phaseOf_eq_some.mpr rfl

/-- Counted edges are read from their code. -/
theorem edgesOf_edgesCode (x : CountedEdges) : edgesOf (edgesCode x) = some x := edgesOf_eq_some.mpr rfl

/-- A polarity is read from its code. -/
theorem polarityOf_polarityCode (x : Polarity) : polarityOf (polarityCode x) = some x := polarityOf_eq_some.mpr rfl

/-- A flag is 1 where it is YES. -/
theorem flagCode_eq_one (b : Bool) : flagCode b = 1 ↔ b = true := by cases b <;> decide

/-- A flag is at most 1. -/
theorem flagCode_le (b : Bool) : flagCode b ≤ 1 := by cases b <;> decide

/-- The entry that a pair with codes of a kind, a role and a disposition gives. -/
theorem entryOf_of_codes {r : RawEntry} {kind : StreamKind} {role : Role} {disp : Disposition}
    (hkind : r.kind = streamKindCode kind) (hrole : r.role = roleCode role) (hdisp : r.disposition = dispositionCode disp) :
    entryOf r =
      { source := r.source, channel := r.channel, kind := kind, role := role,
        phase := if hasPhase role then (phaseOf r.phase).getD .a else .a,
        bandSet := if role = .vib then r.bandSet else 0,
        scale := if hasScale role then r.scale else 0,
        pulses := if role = .tach then r.pulses else 0,
        edges := if role = .tach then (edgesOf r.edges).getD .rising else .rising,
        markerPresent := decide (role = .tach) && decide (r.markerPresent = 1),
        markerPolarity := if role = .tach ∧ r.markerPresent = 1 then (polarityOf r.markerPolarity).getD .rising
          else .rising,
        spacing := if role = .tach then r.spacing else 0,
        disposition := disp,
        thinN := if disp = .thin then r.thinN else 0,
        silence := r.silence } := by
  simp only [entryOf, roleOf_eq_some.mpr hrole, dispositionOf_eq_some.mpr hdisp, streamKindOf_eq_some.mpr hkind,
    Option.getD_some, Bool.and_eq_true, decide_eq_true_eq]

/-- The codes of a good pair's entry are good. -/
theorem entryOk_codesOf (i : SlotId) {r : RawEntry} (hok : entryOk r = true) : entryOk (codesOf i (entryOf r)) = true := by
  obtain ⟨kind, role, disp, hkind, hrole, hdisp⟩ := codes_of_entryOk hok
  obtain ⟨hsource, hchannel, hallows, hphase, hset, hscale, htach, hthin, hsilence⟩ :=
    (entryOk_of_codes hkind hrole hdisp).mp hok
  rw [entryOf_of_codes hkind hrole hdisp, entryOk_of_codes rfl rfl rfl]
  refine ⟨hsource, hchannel, hallows, fun _ => exists_phaseCode.mp ⟨_, rfl⟩, fun h => ?_, fun h => ?_, fun h => ?_,
    fun h => ?_, hsilence⟩
  · simpa only [codesOf, if_pos h] using hset h
  · simpa only [codesOf, if_pos h] using hscale h
  · obtain ⟨hpulses, hpulses', -, -, -, hspacing⟩ := (tachFieldsOk_iff r).mp (htach h)
    rw [tachFieldsOk_iff]
    simp only [codesOf, if_pos h]
    exact ⟨hpulses, hpulses', exists_edgesCode.mp ⟨_, rfl⟩, flagCode_le _, fun _ => exists_polarityCode.mp ⟨_, rfl⟩, hspacing⟩
  · simpa only [codesOf, if_pos h] using hthin h

/-- The codes of a good pair's entry give the entry again. -/
theorem entryOf_codesOf (i : SlotId) {r : RawEntry} (hok : entryOk r = true) :
    entryOf (codesOf i (entryOf r)) = entryOf r := by
  obtain ⟨kind, role, disp, hkind, hrole, hdisp⟩ := codes_of_entryOk hok
  rw [entryOf_of_codes hkind hrole hdisp, entryOf_of_codes rfl rfl rfl]
  simp only [codesOf, phaseOf_phaseCode, edgesOf_edgesCode, polarityOf_polarityCode, Option.getD_some, flagCode_eq_one,
    StreamEntry.mk.injEq, true_and]
  cases role <;> simp +contextual [hasPhase, hasScale]

/-- The codes of a good pair's entry fit their bytes. -/
theorem wf_codesOf (i : SlotId) {r : RawEntry} (hwf : r.wf = true) (hok : entryOk r = true) :
    (codesOf i (entryOf r)).wf = true := by
  obtain ⟨kind, role, disp, hkind, hrole, hdisp⟩ := codes_of_entryOk hok
  have hroleCode : roleCode role ≤ 6 := exists_roleCode.mp ⟨_, rfl⟩
  have hkindCode := exists_streamKindCode.mp ⟨kind, rfl⟩
  have hdispCode : dispositionCode disp ≤ 2 := exists_dispositionCode.mp ⟨_, rfl⟩
  rw [entryOf_of_codes hkind hrole hdisp]
  simp only [RawEntry.wf, codesOf, List.all_cons, List.all_nil, Bool.and_true, Bool.and_eq_true, and_assoc] at hwf ⊢
  simp only [isByte, isHalf, decide_eq_true_eq] at hwf ⊢
  obtain ⟨-, hsource, hchannel, -, -, -, hset, hscale, -, -, -, -, hthin, hsilence, hpulses, hspacing⟩ := hwf
  have hbelow (p : Prop) [Decidable p] (n k : Nat) (h : n < k) (hk : 0 < k) : (if p then n else 0) < k := by
    split_ifs <;> assumption
  exact ⟨by omega, hsource, hchannel, by omega, by omega, (exists_phaseCode.mp ⟨_, rfl⟩).trans_lt (by omega),
    hbelow _ _ _ hset (by omega), hbelow _ _ _ hscale (by omega), (exists_edgesCode.mp ⟨_, rfl⟩).trans_lt (by omega),
    (flagCode_le _).trans_lt (by omega), (exists_polarityCode.mp ⟨_, rfl⟩).trans_lt (by omega), by omega,
    hbelow _ _ _ hthin (by omega), hsilence, hbelow _ _ _ hpulses (by omega), hbelow _ _ _ hspacing (by omega)⟩

/-- Settles O28, by the codes of the entry: its bytes give the codes, and the codes the entry. -/
theorem streamEntriesReadBackAsLoaded : Obligations.StreamEntriesReadBackAsLoaded := by
  intro i r hwf hok
  rw [rawEntryOf_entryBytes (wf_codesOf i hwf hok)]
  exact ⟨by rw [entryBytes_eq]; rfl, entryOk_codesOf i hok, entryOf_codesOf i hok⟩

end Sys2Proof.Machine
end

section
/-! PROOF. Declarations and thaws of the ice state (R121, R122, R124 to R127). -/

namespace Sys2Proof.Machine

/-! ## What a told hold request leaves (R106, R124, R168) -/

/-- The second ice record differs from the first in its block at most, and an empty block stays empty. -/
def BlockOnly (r r' : IceRec) : Prop :=
  ∃ n m d, r' = { r with blockCount := n, blockSum := m, discarded := d } ∧ (r.blockCount = 0 → n = 0)

theorem BlockOnly.refl (r : IceRec) : BlockOnly r r := ⟨_, _, _, rfl, id⟩

theorem BlockOnly.trans {r r' r'' : IceRec} (h : BlockOnly r r') (k : BlockOnly r' r'') : BlockOnly r r'' := by
  obtain ⟨n, m, d, rfl, hn⟩ := h
  obtain ⟨n', m', d', rfl, hn'⟩ := k
  exact ⟨n', m', d', rfl, fun h0 => hn' (hn h0)⟩

/-- What a change of a turbine's advice leaves of the part: the streams, the items, the speeds, the settings, the counters but
their curtailed gates, and of the turbine and ice records all but that turbine's blanking timer and block. -/
structure AdviceKeeps (t : Tid) (s u : State) : Prop where
  streams : u.streams = s.streams
  items : u.items = s.items
  speeds : u.speeds = s.speeds
  active : u.active = s.active
  others : ∀ x, x ≠ t → u.ice.get x = s.ice.get x
  block : BlockOnly (s.ice.get t) (u.ice.get t)
  turbines : ∀ x, x ≠ t → u.turbines.get x = s.turbines.get x
  turbine : ∃ b, u.turbines.get t = { s.turbines.get t with blanking := b }
  counters : ∀ x, { u.usage.get x with curtailed := (s.usage.get x).curtailed } = s.usage.get x

theorem AdviceKeeps.refl (t : Tid) (s : State) : AdviceKeeps t s s :=
  ⟨rfl, rfl, rfl, rfl, fun _ _ => rfl, .refl _, fun _ _ => rfl, ⟨_, rfl⟩, fun _ => rfl⟩

theorem AdviceKeeps.trans {t : Tid} {s u v : State} (h : AdviceKeeps t s u) (k : AdviceKeeps t u v) : AdviceKeeps t s v :=
  ⟨k.streams.trans h.streams, k.items.trans h.items, k.speeds.trans h.speeds, k.active.trans h.active,
    fun x hx => (k.others x hx).trans (h.others x hx), h.block.trans k.block,
    fun x hx => (k.turbines x hx).trans (h.turbines x hx), by
      obtain ⟨b, hb⟩ := k.turbine
      obtain ⟨c, hc⟩ := h.turbine
      exact ⟨b, by rw [hb, hc]⟩, fun x => by
      have hx := h.counters x
      rw [← k.counters x] at hx
      exact hx⟩

/-- A change of advice leaves this. -/
theorem changeAdvice_keeps (s : State) (t : Tid) (a : Advice) (l : Nat) : AdviceKeeps t s (changeAdvice s t a l) := by
  obtain ⟨hturbines, hice, husage, -, hactive, -⟩ := changeAdvice_fields s t a l
  obtain ⟨_, _, _, _, _, _, _, _, h⟩ := changeAdvice_only s t a l
  refine ⟨by rw [h], by rw [h], by rw [h], hactive, fun x hx => ?_, ?_, fun x hx => ?_, ?_, fun x => ?_⟩
  · rw [hice, adviceStored, get_put, if_neg hx]
  · rw [hice, adviceStored, get_put, if_pos rfl]
    exact ⟨_, _, _, rfl, fun _ => rfl⟩
  · rw [hturbines, adviceStored, get_put, if_neg hx]
  · exact ⟨_, by rw [hturbines, adviceStored, get_put, if_pos rfl]⟩
  · rw [husage, adviceStored]
    dsimp only
    split_ifs
    · rfl
    · rw [get_put]
      split_ifs with hx
      · rw [hx]
      · rfl

/-- An advice computed afresh leaves this. -/
theorem computeAdvice_keeps (s : State) (t : Tid) : AdviceKeeps t s (computeAdvice s t) := by
  unfold computeAdvice
  dsimp only
  split
  · exact .refl t s
  · exact changeAdvice_keeps _ _ _ _

/-- A withdrawal leaves this. -/
theorem withdraw_keeps (s : State) (t : Tid) : AdviceKeeps t s (withdraw s t) := by
  unfold withdraw
  split
  · obtain ⟨h1, h2, h3, h4, h5, h6, h7, h8, h9⟩ := computeAdvice_keeps
      (setGrid s { s.harm.grid with requests := s.harm.grid.requests.filter (fun x => x ≠ t) }) t
    exact ⟨h1, h2, h3, h4, h5, h6, h7, h8, h9⟩
  · exact .refl t s

/-- A hold request told leaves this. -/
theorem tellHold_keeps (before : Bool) (s : State) (t : Tid) : AdviceKeeps t s (tellHold before s t) := by
  unfold tellHold
  split_ifs
  · exact .refl t s
  · exact (computeAdvice_keeps s t).trans (withdraw_keeps _ t)
  · exact computeAdvice_keeps s t

/-! ## Transitions of the ice record (R124, R127) -/

/-- A raised finding leaves this. -/
theorem raise_adviceKeeps (x : Tid) (s : State) (k : FindingKind) (t : Option Nat) (j : Subject) (vs : List Word32) :
    AdviceKeeps x s (raise s k t j vs) :=
  ⟨rfl, rfl, rfl, rfl, fun _ _ => rfl, .refl _, fun _ _ => rfl, ⟨_, rfl⟩, fun _ => rfl⟩

/-- Raised findings leave this. -/
theorem raiseAll_adviceKeeps (t x : Tid) (fs : List (FindingKind × List Word32)) (s : State) :
    AdviceKeeps x s (fs.foldl (fun u f => raise u f.1 (some (tnum t)) .none f.2) s) := by
  induction fs generalizing s with
  | nil => exact .refl x s
  | cons f fs ih =>
    rw [List.foldl_cons]
    exact (raise_adviceKeeps x s _ _ _ _).trans (ih _)

/-- What a transition leaves, from the record written on. -/
theorem iceTransition_keeps (s : State) (t : Tid) (r : IceRec) (fs : List (FindingKind × List Word32)) :
    AdviceKeeps t (writeIce s t r) (iceTransition s t r fs) :=
  (raiseAll_adviceKeeps t t fs _).trans (tellHold_keeps _ _ t)

/-- The ice counter's gate where a record is written: it follows whether the new state stands for ice, where that changes. -/
theorem writeIce_gate (s : State) (t : Tid) (r : IceRec) :
    ((writeIce s t r).usage.get t).ice =
      { (s.usage.get t).ice with
        gate := if iceFreezes (s.ice.get t).state = iceFreezes r.state then (s.usage.get t).ice.gate
          else iceFreezes r.state } := by
  unfold writeIce iceGate
  split_ifs with h
  · rfl
  · simp [setGate, setTimeSub, timeSub]

/-- A record written leaves the streams, the items and the speeds. -/
theorem writeIce_fields (s : State) (t : Tid) (r : IceRec) :
    (writeIce s t r).streams = s.streams ∧ (writeIce s t r).items = s.items ∧ (writeIce s t r).speeds = s.speeds := by
  unfold writeIce iceGate
  split_ifs <;> exact ⟨rfl, rfl, rfl⟩

/-- What a transition writes: the record up to its block, and the gate. -/
theorem iceTransition_fields (s : State) (t : Tid) (r : IceRec) (fs : List (FindingKind × List Word32)) :
    let u := iceTransition s t r fs
    BlockOnly r (u.ice.get t) ∧ (∀ x, x ≠ t → u.ice.get x = s.ice.get x) ∧
      (u.usage.get t).ice = { (s.usage.get t).ice with
        gate := if iceFreezes (s.ice.get t).state = iceFreezes r.state then (s.usage.get t).ice.gate
          else iceFreezes r.state } ∧
      u.streams = s.streams ∧ u.items = s.items ∧ u.speeds = s.speeds := by
  intro u
  have hkeeps : AdviceKeeps t (writeIce s t r) u := iceTransition_keeps s t r fs
  obtain ⟨hstreams, hitems, hspeeds⟩ := writeIce_fields s t r
  refine ⟨?_, fun x hx => ?_, ?_, hkeeps.streams.trans hstreams, hkeeps.items.trans hitems, hkeeps.speeds.trans hspeeds⟩
  · have hblock := hkeeps.block
    rwa [writeIce_ice, get_put, if_pos rfl] at hblock
  · rw [hkeeps.others x hx, writeIce_ice, get_put, if_neg hx]
  · rw [← writeIce_gate, ← hkeeps.counters t]

/-- A record that holds no ice state ICED ends with no hold requested. -/
theorem holdRequested_iceTransition {s : State} {t : Tid} {r : IceRec} (h : r.state ≠ .iced)
    (fs : List (FindingKind × List Word32)) : holdRequested (iceTransition s t r fs) t = false := by
  obtain ⟨⟨n, m, d, hr, -⟩, -⟩ := iceTransition_fields s t r fs
  simp [holdRequested, hr, h]

/-! ## Declarations and thaws (R122, R125, R126) -/

/-- A discarded block leaves the rest of the ice record. -/
theorem discardBlock_get (c : BlockCause) (s : State) (t : Tid) :
    ∃ m d, (discardBlock c s t).ice.get t = { s.ice.get t with blockCount := 0, blockSum := m, discarded := d } :=
  ⟨_, _, by rw [discardBlock, get_upd, if_pos rfl]⟩

/-- DECLARE ICE on a present turbine. -/
theorem declareIced_fields (s : State) (t : Tid) :
    let u := declareIced s t
    (u.ice.get t).state = .iced ∧ (u.ice.get t).evidence = s.active.settings.confirm ∧ (u.ice.get t).thawTimer = 0 ∧
      (u.ice.get t).trial = 0 ∧ (u.ice.get t).blockCount = 0 ∧ (u.ice.get t).lastMean = (s.ice.get t).lastMean ∧
      ((s.ice.get t).state = .clear → (u.usage.get t).ice.gate = true) ∧ u.items = s.items ∧ u.streams = s.streams := by
  obtain ⟨m, d, hdiscard⟩ := discardBlock_get .declared s t
  intro u
  obtain ⟨⟨n, m', d', hr, hn⟩, -, hgate, hstreams, hitems, -⟩ := iceTransition_fields (discardBlock .declared s t) t
    { (discardBlock .declared s t).ice.get t with
      state := .iced, evidence := (discardBlock .declared s t).active.settings.confirm, thawTimer := 0, thawDue := false,
      trial := 0 }
    (if ((discardBlock .declared s t).ice.get t).state = .iced then []
     else [(.iceConfirmed, [vNat (iceCauseCode .declared), vOpt none,
       vOptInt ((discardBlock .declared s t).ice.get t).lastAmbient])])
  have hu : u = declareIced s t := rfl
  unfold declareIced at hu
  dsimp only at hu
  rw [← hu] at hr hgate hstreams hitems
  rw [hdiscard] at hr hn hgate
  rw [hr]
  refine ⟨rfl, rfl, rfl, rfl, hn rfl, rfl, fun hclear => ?_, hitems, hstreams⟩
  simp [hgate, hclear, iceFreezes]

/-- DECLARE CLEAR on a present turbine. -/
theorem declareCleared_fields (s : State) (t : Tid) :
    let v := declareCleared s t
    (v.ice.get t).state = .clear ∧ (v.ice.get t).evidence = 0 ∧ (v.ice.get t).thawTimer = 0 ∧ (v.ice.get t).trial = 0 ∧
      (v.ice.get t).blockCount = 0 ∧ ((s.ice.get t).state = .iced → (v.usage.get t).ice.gate = false) ∧
      v.items = s.items ∧ v.streams = s.streams := by
  obtain ⟨m, d, hdiscard⟩ := discardBlock_get .declared s t
  intro v
  obtain ⟨⟨n, m', d', hr, hn⟩, -, hgate, hstreams, hitems, -⟩ := iceTransition_fields (discardBlock .declared s t) t
    { (discardBlock .declared s t).ice.get t with
      state := .clear, evidence := 0, thawTimer := 0, thawDue := false, trial := 0 }
    (if ((discardBlock .declared s t).ice.get t).state = .clear then []
     else [(.iceCleared, [vNat (iceCauseCode .declared), vOpt none])])
  have hv : v = declareCleared s t := rfl
  unfold declareCleared at hv
  dsimp only at hv
  rw [← hv] at hr hgate hstreams hitems
  rw [hdiscard] at hr hn hgate
  rw [hr]
  refine ⟨rfl, rfl, rfl, rfl, hn rfl, fun hiced => ?_, hitems, hstreams⟩
  simp [hgate, hiced, iceFreezes]

/-- The thaw dwell reached in ICED. -/
theorem thawReached_fields {s : State} {t : Tid} (hiced : (s.ice.get t).state = .iced) :
    let u := thawReached s t
    (u.ice.get t).state = .thawing ∧ (u.ice.get t).evidence = (s.ice.get t).evidence ∧ (u.ice.get t).thawTimer = 0 ∧
      (u.ice.get t).trial = 0 ∧ holdRequested u t = false ∧ (u.usage.get t).ice = (s.usage.get t).ice ∧
      u.streams = s.streams ∧ u.items = s.items ∧ u.speeds = s.speeds ∧ (∀ x, x ≠ t → u.ice.get x = s.ice.get x) := by
  intro u
  obtain ⟨⟨n, m, d, hr, -⟩, hothers, hgate, hstreams, hitems, hspeeds⟩ := iceTransition_fields s t
    { s.ice.get t with state := .thawing, thawTimer := 0, thawDue := false, trial := 0 }
    [(.iceThawing, [vNat s.active.settings.thawDwell, vOptInt (s.ice.get t).lastAmbient])]
  have hhold : holdRequested u t = false := holdRequested_iceTransition (by simp) _
  have hu : u = thawReached s t := rfl
  unfold thawReached at hu
  dsimp only at hu
  rw [← hu] at hr hothers hgate hstreams hitems hspeeds
  rw [hr]
  refine ⟨rfl, rfl, rfl, rfl, hhold, ?_, hstreams, hitems, hspeeds, hothers⟩
  simp [hgate, hiced, iceFreezes]

/-- The step of a thaw dwell that waits. -/
theorem takeThaw_of_due {s : State} {t : Tid} (hdue : (s.ice.get t).thawDue = true) : takeThaw s t = thawReached s t := by
  rw [takeThaw, if_pos hdue]

/-- DECLARE ICE and DECLARE CLEAR on a turbine that is not present are refused. -/
theorem declare_of_absent {s : State} {t : Tid} (h : (s.turbines.get t).present = false) (o : Origin) :
    doDeclareIce o (tnum t) s = replyRefused s o 42 .notPresent 0 ∧
      doDeclareClear o (tnum t) s = replyRefused s o 43 .notPresent 0 := by
  constructor
  · rw [doDeclareIce, forTurbine_tnum, if_pos h]
  · rw [doDeclareClear, forTurbine_tnum, if_pos h]

/-- DECLARE ICE and DECLARE CLEAR on a present turbine are done. -/
theorem declare_of_present {s : State} {t : Tid} (h : (s.turbines.get t).present = true) (o : Origin) :
    doDeclareIce o (tnum t) s = replyDone (declareIced s t) o 42 [] ∧
      doDeclareClear o (tnum t) s = replyDone (declareCleared s t) o 43 [] := by
  have hne : ¬ (s.turbines.get t).present = false := by simp [h]
  constructor
  · rw [doDeclareIce, forTurbine_tnum, if_neg hne]
  · rw [doDeclareClear, forTurbine_tnum, if_neg hne]

/-- Settles O44, from the transition of the ice record that each of the three makes. -/
theorem iceStateIsDeclaredAndThaws : Obligations.IceStateIsDeclaredAndThaws := by
  refine ⟨fun o s t hacc => ⟨fun hpresent => ?_, fun habsent => ?_⟩, fun s t hs hdue hiced => ?_⟩
  · obtain ⟨hice, hclear⟩ := declare_of_present hpresent o
    obtain ⟨h1, h2, h3, h4, h5, h6, h7, h8, h9⟩ := declareIced_fields s t
    obtain ⟨k1, k2, k3, k4, k5, k6, k7, k8⟩ := declareCleared_fields s t
    exact ⟨declareIced s t, declareCleared s t, answersDone_of hacc rfl hice, answersDone_of hacc rfl hclear, h1, h2, h3, h4,
      h5, h6, k1, k2, k3, k4, k5, h7, k6, h8, k7, h9, k8⟩
  · obtain ⟨hice, hclear⟩ := declare_of_absent habsent o
    exact ⟨answersRefused_of hacc rfl hice, answersRefused_of hacc rfl hclear⟩
  · refine ⟨thawReached s t, ?_, thawReached_fields hiced⟩
    rw [← takeThaw_of_due hdue]
    exact exec_of_event (by rfl) (pathActive_of hs)

end Sys2Proof.Machine
end

section
/-! PROOF. Windows and tests of the Vibration Watch: what ends them and what that leaves (R51, R74, R85). -/

namespace Sys2Proof.Machine

/-! ## Windows and pending tests (R74, R85) -/

/-- A slot whose record has no window has nothing to abandon. -/
theorem abandonWindow_of_none {s : State} {i : SlotId} (h : windowAt s i = none) (c : AbandonCause) :
    abandonWindow c s i = s := by
  unfold abandonWindow
  rw [h]

/-- The window of a slot's record. -/
theorem windowAt_of {s : State} {i : SlotId} {r : VibRec} (h : s.vib.recs.get i = some r) : windowAt s i = r.window := by
  unfold windowAt
  rw [h]

/-- A record written to a slot's place. -/
theorem updVib_of {s : State} {i : SlotId} {r : VibRec} (h : s.vib.recs.get i = some r) (f : VibRec → VibRec) :
    updVib s i f = setVib s i (some (f r)) := by
  simp only [updVib, setVib, h, Option.map_some]

/-- An open or closing window abandoned. -/
theorem abandonWindow_of_window {s : State} {i : SlotId} {r : VibRec} {w : VibWindow} (h : s.vib.recs.get i = some r)
    (hw : r.window = some w) (c : AbandonCause) :
    let k := causeIndex c
    let u := setVib s i (some { r with
      window := none, abandoned := put r.abandoned k (min (r.abandoned.get k + 1) 4294967295),
      lastTest := if w.test then some (.abandoned, some c) else r.lastTest })
    abandonWindow c s i = if w.test then raise u .vibTest (slotTurbine s i) (.slot i) [] else u := by
  unfold abandonWindow
  rw [windowAt_of h, hw]
  dsimp only
  rw [updVib_of h]
  rfl

/-- A pending test cancelled. -/
theorem cancelTest_of_pending {s : State} {i : SlotId} {r : VibRec} (h : s.vib.recs.get i = some r)
    (hp : r.testPending = true) (c : AbandonCause) :
    cancelTest c s i = raise (setVib s i (some { r with testPending := false, lastTest := some (.cancelled, some c) })) .vibTest
      (slotTurbine s i) (.slot i) [] := by
  unfold cancelTest
  rw [h]
  dsimp only
  rw [if_pos hp, updVib_of h]

/-- Without a pending test nothing is cancelled. -/
theorem cancelTest_of_not_pending {s : State} {i : SlotId} {r : VibRec} (h : s.vib.recs.get i = some r)
    (hp : r.testPending = false) (c : AbandonCause) : cancelTest c s i = s := by
  unfold cancelTest
  rw [h]
  dsimp only
  rw [if_neg (by simp [hp])]

/-- An abandoned window is gone, the others stand. -/
theorem windowAt_abandonWindow (c : AbandonCause) (s : State) (i j : SlotId) :
    windowAt (abandonWindow c s i) j = if j = i then none else windowAt s j := by
  cases hw : windowAt s i with
  | none =>
    rw [abandonWindow_of_none hw]
    split_ifs with hj
    · rw [hj, hw]
    · rfl
  | some w =>
    obtain ⟨r, hr, hrw⟩ : ∃ r, s.vib.recs.get i = some r ∧ r.window = some w := by
      unfold windowAt at hw
      split at hw
      case h_1 r hr => exact ⟨r, hr, hw⟩
      case h_2 => cases hw
    rw [abandonWindow_of_window hr hrw]
    have hset (x : VibRec) (hx : x.window = none) :
        windowAt (setVib s i (some x)) j = if j = i then none else windowAt s j := by
      simp only [windowAt, setVib, get_put]
      split_ifs
      · exact hx
      · rfl
    cases w.test
    · exact hset _ rfl
    · exact hset _ rfl

/-- A cancelled test leaves the windows. -/
theorem windowAt_cancelTest (c : AbandonCause) (s : State) (i j : SlotId) : windowAt (cancelTest c s i) j = windowAt s j := by
  cases hr : s.vib.recs.get i with
  | none =>
    unfold cancelTest
    rw [hr]
  | some r =>
    cases hp : r.testPending with
    | false => rw [cancelTest_of_not_pending hr hp]
    | true =>
      rw [cancelTest_of_pending hr hp]
      simp only [windowAt, raise_vib, setVib, get_put]
      split_ifs with hj
      · rw [hj, hr]
      · rfl

/-- TRACKING LOST ends the window of its slot and leaves the others. -/
theorem windowAt_trackingLostAt (s : State) (i j : SlotId) :
    windowAt (trackingLostAt s i) j = if j = i then none else windowAt s j := by
  rw [trackingLostAt, windowAt_cancelTest, windowAt_abandonWindow]

/-- An action that ends the window of its own slot only, done at several slots, ends the windows of all of them. -/
theorem windowAt_foldl {f : State → SlotId → State}
    (hf : ∀ s i j, windowAt (f s i) j = if j = i then none else windowAt s j) (sl : List SlotId) (s : State) (j : SlotId) :
    windowAt (sl.foldl f s) j = if j ∈ sl then none else windowAt s j := by
  induction sl generalizing s with
  | nil => simp
  | cons i sl ih =>
    rw [List.foldl_cons, ih, hf]
    by_cases hj : j = i <;> simp [hj]

/-- After TRACKING LOST no VIB slot of the turbine has a window. -/
theorem windowAt_vibTrackingLost {s : State} {t : Tid} {i : SlotId} (h : i ∈ vibSlots s t) :
    windowAt (vibTrackingLost s t) i = none := by
  rw [vibTrackingLost, windowAt_foldl windowAt_trackingLostAt, if_pos h]

/-! ## The stop timer (R50) -/

/-- TRACKING LOST told leaves the speeds, the turbines, the streams, the counters and the commands. -/
theorem tellLost_only (was : SpeedState) (s : State) (t : Tid) : OnlyVib s (tellLost was s t) := by
  unfold tellLost
  split
  · exact vibTrackingLost_only s t
  · exact .refl s

/-- Settles O38, from what the expiry writes and what TRACKING LOST leaves. -/
theorem stopExpiryStops : Obligations.StopExpiryStops := by
  intro s t hs htimer
  have htake : takeStop s t = stopExpired s t := by rw [takeStop, if_pos htimer]
  have hmem (i : SlotId) (h : i ∈ vibSlots s t) : i ∈ vibSlots (updSpeed s t stopped) t := h
  obtain ⟨_, _, _, honly⟩ := tellLost_only (s.speeds.get t).state (updSpeed s t stopped) t
  have hspeeds : (stopExpired s t).speeds = upd s.speeds t stopped := by rw [stopExpired, honly]; rfl
  refine ⟨stopExpired s t, ?_, ?_, fun x hx => ?_, ?_, ?_, ?_, fun hnot => ?_, fun htracking i hi => ?_⟩
  · rw [← htake]
    exact exec_of_event (by rfl) (pathActive_of hs)
  · rw [hspeeds, get_upd, if_pos rfl]
    rfl
  · rw [hspeeds, get_upd, if_neg hx]
  · rw [stopExpired, honly]; rfl
  · rw [stopExpired, honly]; rfl
  · rw [stopExpired, honly]; rfl
  · rw [stopExpired, tellLost, if_neg hnot]
    rfl
  · rw [stopExpired, tellLost, if_pos htracking]
    exact windowAt_vibTrackingLost (hmem i hi)

end Sys2Proof.Machine
end

section
/-! PROOF. The Turbine Table: LOAD TURBINE, service mode, changes of the operating state (R22 to R36). -/

namespace Sys2Proof.Machine

/-! ## Service mode (R30, R32) -/

/-- An automatic window abandoned leaves the turbine table. -/
theorem vibServiceBegun_fields (s : State) (t : Tid) :
    (vibServiceBegun s t).turbines = s.turbines ∧ (vibServiceBegun s t).ice = s.ice ∧
      (vibServiceBegun s t).streams = s.streams ∧ (vibServiceBegun s t).items = s.items ∧
      (vibServiceBegun s t).speeds = s.speeds ∧ (vibServiceBegun s t).advice = s.advice := by
  obtain ⟨_, _, _, h⟩ := vibServiceBegun_only s t
  rw [h]
  exact ⟨rfl, rfl, rfl, rfl, rfl, rfl⟩

/-- The Harmonic Watch behind an advice computed afresh. -/
theorem computeAdvice_harm (s : State) (t : Tid) : (computeAdvice s t).harm = s.harm := by
  obtain ⟨-, -, -, -, h⟩ := computeAdvice_sameCauses s t
  exact h

/-- A withdrawal takes the turbine off the request list, and leaves the rest of the Harmonic Watch. -/
theorem withdraw_harm (s : State) (t : Tid) : (withdraw s t).harm = { s.harm with
    grid := { s.harm.grid with requests := s.harm.grid.requests.filter (fun x => x ≠ t) } } := by
  unfold withdraw
  split_ifs with h
  · rw [computeAdvice_harm]
    rfl
  · have hfilter : s.harm.grid.requests.filter (fun x => decide (x ≠ t)) = s.harm.grid.requests :=
      List.filter_eq_self.mpr (fun x hx => decide_eq_true (fun hxt => h (hxt ▸ hx)))
    rw [hfilter]

/-- A turbine withdrawn is on no request list. -/
theorem not_mem_withdraw (s : State) (t : Tid) : t ∉ (withdraw s t).harm.grid.requests := by
  rw [withdraw_harm]
  simp

/-- A turbine in service is wanted no advice. -/
theorem wantedAdvice_of_service {s : State} {t : Tid} (h : (s.turbines.get t).service = true) : wantedAdvice s t = .none := by
  rw [wantedAdvice, if_pos (Or.inl h)]

/-- The turbine's record behind a service limit loaded. -/
theorem loadTimer_hours (limit : Nat) : loadTimer (limit * hourTicks) = if limit = 0 then none else some (limit * 36000) := by
  unfold loadTimer hourTicks
  by_cases h : limit = 0
  · simp [h]
  · rw [if_neg (by omega), if_neg h]

/-- BEGIN SERVICE on a turbine in service loads the limit again. -/
theorem beginServiceOn_of_on {s : State} {t : Tid} (h : (s.turbines.get t).service = true) (limit : Nat) :
    beginServiceOn s t limit = { s with turbines := put s.turbines t { s.turbines.get t with
      limitTimer := (if limit = 0 then none else some (limit * 36000)), limitHours := limit, overrun := false } } := by
  rw [beginServiceOn, if_pos h, ← loadTimer_hours]
  rfl

/-- BEGIN SERVICE on a turbine with service OFF: the turbine taken into service, its automatic windows ended, its request
withdrawn, its block discarded and its advice computed. -/
theorem beginServiceOn_fields {s : State} {t : Tid} (h : (s.turbines.get t).service = false) (limit : Nat) :
    let u := beginServiceOn s t limit
    (u.turbines.get t).service = true ∧
      (u.turbines.get t).limitTimer = (if limit = 0 then none else some (limit * 36000)) ∧
      (u.turbines.get t).overrun = false ∧ (u.advice.recs.get t).advice = .none ∧ t ∉ u.harm.grid.requests ∧
      (u.ice.get t).state = (s.ice.get t).state ∧ (u.ice.get t).blockCount = 0 ∧ u.streams = s.streams ∧
      u.items = s.items ∧ u.speeds = s.speeds := by
  intro u
  obtain ⟨begun, hbegun⟩ : ∃ x, x = vibServiceBegun (updTurbine (loadServiceLimit s t limit) t
    (fun r => { r with service := true })) t := ⟨_, rfl⟩
  have hu : u = computeAdvice (discardBlock .service (withdraw begun t) t) t := by
    rw [hbegun]
    exact if_neg (by simp [h])
  have hfields := vibServiceBegun_fields (updTurbine (loadServiceLimit s t limit) t (fun r => { r with service := true })) t
  rw [← hbegun] at hfields
  obtain ⟨hturbines, hice, hstreams, hitems, hspeeds, -⟩ := hfields
  have hrec : begun.turbines.get t = { s.turbines.get t with
      limitTimer := loadTimer (limit * hourTicks), limitHours := limit, overrun := false, service := true } := by
    rw [hturbines]
    simp [updTurbine, loadServiceLimit]
  have hwithdraw := withdraw_keeps begun t
  obtain ⟨b, hb⟩ := hwithdraw.turbine
  obtain ⟨n, m, d, hblock, -⟩ := hwithdraw.block
  obtain ⟨m', d', hdiscard⟩ := discardBlock_get .service (withdraw begun t) t
  have hkeeps := computeAdvice_keeps (discardBlock .service (withdraw begun t) t) t
  rw [← hu] at hkeeps
  obtain ⟨c, hc⟩ := hkeeps.turbine
  obtain ⟨n', m'', d'', hblock', hn'⟩ := hkeeps.block
  have hservice : ((discardBlock .service (withdraw begun t) t).turbines.get t).service = true := by
    rw [discardBlock_turbines, hb, hrec]
  rw [discardBlock_turbines, hb, hrec] at hc
  rw [hdiscard, hblock] at hblock' hn'
  refine ⟨by rw [hc], by rw [hc, ← loadTimer_hours], by rw [hc], ?_, ?_, ?_, ?_, ?_, ?_, ?_⟩
  · rw [hu, (computeAdvice_stores _ t t).1, if_pos rfl, wantedAdvice_of_service hservice]
  · rw [hu, computeAdvice_harm, discardBlock_harm]
    exact not_mem_withdraw begun t
  · rw [hblock', hice]
    rfl
  · rw [hblock']
    exact hn' rfl
  · rw [hkeeps.streams, discardBlock_streams, hwithdraw.streams, hstreams]
    rfl
  · rw [hkeeps.items, discardBlock_items, hwithdraw.items, hitems]
    rfl
  · rw [hkeeps.speeds, discardBlock_speeds, hwithdraw.speeds, hspeeds]
    rfl

/-- END SERVICE on a turbine with service OFF does nothing. -/
theorem endServiceOn_of_off {s : State} {t : Tid} (h : (s.turbines.get t).service = false) : endServiceOn s t = s := by
  rw [endServiceOn, if_neg (by simp [h])]

/-- END SERVICE on a turbine in service, step by step. -/
theorem endServiceOn_of_on {s : State} {t : Tid} (h : (s.turbines.get t).service = true) :
    let off : State := { s with turbines := put s.turbines t { s.turbines.get t with
      service := false, limitTimer := none, overrun := false } }
    endServiceOn s t = requestBlanking (computeAdvice
      ((vibSlots s t).foldl (fun x i => cancelTest .serviceEnded (abandonTest .serviceEnded x i) i) off) t) t := by
  intro off
  rw [endServiceOn, if_pos h]
  rfl

/-- A blanking request: the timer of its turbine, and what ending windows writes. -/
theorem requestBlanking_fields (s : State) (t : Tid) :
    let u := requestBlanking s t
    u.turbines = put s.turbines t { s.turbines.get t with blanking := loadTimer s.active.settings.blankingTime } ∧
      u.usage = s.usage ∧ u.ice = s.ice ∧ u.items = s.items ∧ u.streams = s.streams ∧ u.speeds = s.speeds ∧
      u.harm = s.harm ∧ u.active = s.active ∧ u.advice = s.advice := by
  intro u
  obtain ⟨_, _, _, h⟩ := vibBlanking_only { s with turbines := upd s.turbines t (fun r =>
    { r with blanking := loadTimer s.active.settings.blankingTime }) } t
  have hu : u = _ := h
  rw [hu]
  exact ⟨rfl, rfl, rfl, rfl, rfl, rfl, rfl, rfl, rfl⟩

/-- END SERVICE on a turbine in service: what it writes of the turbine, and what it leaves. -/
theorem endServiceOn_fields {s : State} {t : Tid} (h : (s.turbines.get t).service = true) :
    let u := endServiceOn s t
    (u.turbines.get t).service = false ∧ (u.turbines.get t).limitTimer = none ∧ (u.turbines.get t).overrun = false ∧
      (u.turbines.get t).blanking = loadTimer s.active.settings.blankingTime ∧
      (∀ x, (u.usage.get x).main = (s.usage.get x).main) ∧
      (u.ice.get t).state = (s.ice.get t).state ∧ u.items = s.items ∧ u.streams = s.streams ∧ u.speeds = s.speeds := by
  intro u
  obtain ⟨ended, hended⟩ : ∃ x, x = vibServiceEnded (updTurbine s t
    (fun r => { r with service := false, limitTimer := none, overrun := false })) t := ⟨_, rfl⟩
  have hu : u = requestBlanking (computeAdvice ended t) t := by
    rw [hended]
    exact if_pos h
  obtain ⟨_, _, _, honly⟩ := vibServiceEnded_only (updTurbine s t
    (fun r => { r with service := false, limitTimer := none, overrun := false })) t
  rw [← hended] at honly
  have hkeeps := computeAdvice_keeps ended t
  obtain ⟨b, hb⟩ := hkeeps.turbine
  obtain ⟨n, m, d, hblock, -⟩ := hkeeps.block
  obtain ⟨hturbines, husage, hice, hitems, hstreams, hspeeds, -⟩ := requestBlanking_fields (computeAdvice ended t) t
  rw [← hu] at hturbines husage hice hitems hstreams hspeeds
  have hrec : ended.turbines.get t = { s.turbines.get t with service := false, limitTimer := none, overrun := false } := by
    rw [honly]
    simp [updTurbine]
  rw [hb, hrec, hkeeps.active] at hturbines
  refine ⟨?_, ?_, ?_, ?_, fun x => ?_, ?_, ?_, ?_, ?_⟩
  · rw [hturbines, get_put, if_pos rfl]
  · rw [hturbines, get_put, if_pos rfl]
  · rw [hturbines, get_put, if_pos rfl]
  · rw [hturbines, get_put, if_pos rfl, honly]
    rfl
  · have hx := hkeeps.counters x
    have hmain : (u.usage.get x).main = (ended.usage.get x).main := by
      rw [husage, ← hx]
    rw [hmain, honly]
    rfl
  · rw [hice, hblock, honly]
    rfl
  · rw [hitems, hkeeps.items, honly]
    rfl
  · rw [hstreams, hkeeps.streams, honly]
    rfl
  · rw [hspeeds, hkeeps.speeds, honly]
    rfl

/-- A slot without a window has no test to abandon. -/
theorem abandonTest_of_none {s : State} {i : SlotId} {r : VibRec} (h : s.vib.recs.get i = some r) (hw : r.window = none)
    (c : AbandonCause) : abandonTest c s i = s := by
  unfold abandonTest
  rw [windowAt_of h, hw]

/-- A slot with an automatic window has no test to abandon. -/
theorem abandonTest_of_automatic {s : State} {i : SlotId} {r : VibRec} {w : VibWindow} (h : s.vib.recs.get i = some r)
    (hw : r.window = some w) (hauto : w.test = false) (c : AbandonCause) : abandonTest c s i = s := by
  unfold abandonTest
  rw [windowAt_of h, hw]
  dsimp only
  rw [if_neg (by simp [hauto])]

/-- A TEST window abandoned, its outcome kept and its finding raised. -/
theorem abandonTest_of_test {s : State} {i : SlotId} {r : VibRec} {w : VibWindow} (h : s.vib.recs.get i = some r)
    (hw : r.window = some w) (htest : w.test = true) (c : AbandonCause) :
    abandonTest c s i = raise (setVib s i (some { r with
      window := none, abandoned := put r.abandoned (causeIndex c) (min (r.abandoned.get (causeIndex c) + 1) 4294967295),
      lastTest := some (.abandoned, some c) })) .vibTest (slotTurbine s i) (.slot i) [] := by
  unfold abandonTest
  rw [windowAt_of h, hw]
  dsimp only
  rw [if_pos htest, abandonWindow_of_window h hw]
  simp only [htest, if_true]

/-- BEGIN SERVICE on a present turbine within the limit's range. -/
theorem doBeginService_of_present {s : State} {t : Tid} (h : (s.turbines.get t).present = true) {limit : Nat}
    (hlimit : limit ≤ 72) (o : Origin) :
    doBeginService o (tnum t) limit s = replyDone (beginServiceOn s t limit) o 35 [] := by
  rw [doBeginService, forTurbine_tnum, if_neg (by omega), if_neg (by simp [h])]

/-- BEGIN SERVICE refuses a limit out of range. -/
theorem doBeginService_of_limit {limit : Nat} (h : 72 < limit) (t : Tid) (o : Origin) (s : State) :
    doBeginService o (tnum t) limit s = replyRefused s o 35 .badParameter 2 := by
  rw [doBeginService, forTurbine_tnum, if_pos h]
  rfl

/-- BEGIN SERVICE refuses a turbine that is not present. -/
theorem doBeginService_of_absent {s : State} {t : Tid} (h : (s.turbines.get t).present = false) {limit : Nat}
    (hlimit : limit ≤ 72) (o : Origin) : doBeginService o (tnum t) limit s = replyRefused s o 35 .notPresent 0 := by
  rw [doBeginService, forTurbine_tnum, if_neg (by omega), if_pos h]

/-- END SERVICE of a turbine. -/
theorem doEndService_tnum (o : Origin) (t : Tid) (s : State) :
    doEndService o (tnum t) s = replyDone (endServiceOn s t) o 36 [] := by
  rw [doEndService, forTurbine_tnum]

/-- Settles O35, from what the two commands do on a turbine in service and on one that is not. -/
theorem serviceBeginsAndEnds : Obligations.ServiceBeginsAndEnds := by
  refine ⟨fun o s t limit hacc hpresent hlimit => ?_, fun o s t hacc => ?_, fun s i r hr => ?_, fun o s hacc => ?_⟩
  · have hdone := answersDone_of (c := .beginService o (tnum t) limit) hacc rfl
      (doBeginService_of_present hpresent hlimit o)
    refine ⟨fun hon => ?_, fun hoff => ⟨_, hdone, beginServiceOn_fields hoff limit⟩⟩
    rwa [beginServiceOn_of_on hon] at hdone
  · have hdone := answersDone_of (c := .endService o (tnum t)) hacc rfl (doEndService_tnum o t s)
    refine ⟨fun hoff => ?_, fun hon => ?_⟩
    · rwa [endServiceOn_of_off hoff] at hdone
    · obtain ⟨h1, h2, h3, h4, h5, h6, h7, h8, h9⟩ := endServiceOn_fields hon
      exact ⟨_, hdone, h1, h2, h3, h4, h5, h6, h7, h8, h9, endServiceOn_of_on hon⟩
  · exact ⟨fun hw => abandonTest_of_none hr hw _,
      fun w hw => ⟨fun hauto => abandonTest_of_automatic hr hw hauto _, fun htest => abandonTest_of_test hr hw htest _⟩,
      fun hp => cancelTest_of_not_pending hr hp _, fun hp => cancelTest_of_pending hr hp _⟩
  · exact ⟨fun k limit hk => ⟨answersRefused_of (body := doBeginService o k limit) hacc rfl (forTurbine_out hk _ _ _ _),
        answersRefused_of (body := doEndService o k) hacc rfl (forTurbine_out hk _ _ _ _)⟩,
      fun t limit hlimit => answersRefused_of hacc rfl (doBeginService_of_limit hlimit t o s),
      fun t limit hlimit habsent => answersRefused_of hacc rfl (doBeginService_of_absent habsent hlimit o)⟩

/-! ## Changes of the operating state (R28, R29) -/

/-- The state that stands is no change. -/
theorem setOper_same {s : State} {t : Tid} {new : OperState} (h : new = (s.turbines.get t).oper) : setOper s t new = s := by
  unfold setOper
  exact if_pos h

/-- A change of the operating state, before its notices. -/
theorem setOper_of_ne {s : State} {t : Tid} {new : OperState} (h : new ≠ (s.turbines.get t).oper) :
    let u : State := { s with turbines := put s.turbines t { s.turbines.get t with oper := new } }
    setOper s t new = operNotices
      (if new = .generating ∧ startsFrom (s.turbines.get t).oper = true then startTurbine u t else u) t
      (s.turbines.get t).oper new := by
  unfold setOper
  exact if_neg h

/-- A change between two states other than GENERATING acts on no other block. -/
theorem setOper_of_idle {s : State} {t : Tid} {new : OperState} (h : new ≠ (s.turbines.get t).oper)
    (hnew : new ≠ .generating) (hold : (s.turbines.get t).oper ≠ .generating) :
    setOper s t new = { s with turbines := put s.turbines t { s.turbines.get t with oper := new } } := by
  rw [setOper_of_ne h, operNotices, if_neg hnew, if_neg hold, if_neg (fun hn => hnew hn.1)]

/-- A time counter's gate opened or closed. -/
theorem setGate_run (s : State) (t : Tid) (b : Bool) : setGate s t .run b =
    { s with usage := put s.usage t { s.usage.get t with run := { (s.usage.get t).run with gate := b } } } := rfl

/-- A change away from GENERATING: the gate closed, automatic windows ended, the block discarded. -/
theorem setOper_of_left {s : State} {t : Tid} {new : OperState} (hnew : new ≠ .generating)
    (hold : (s.turbines.get t).oper = .generating) :
    let u : State := { s with turbines := put s.turbines t { s.turbines.get t with oper := new } }
    setOper s t new = discardBlock .notGenerating (vibNotGenerating (setGate u t .run false) t) t := by
  intro u
  rw [setOper_of_ne (by rw [hold]; exact hnew), operNotices, if_neg hnew, if_pos hold, if_neg (fun hn => hnew hn.1)]

/-- An entry into GENERATING from FAULTED opens the gate only. -/
theorem setOper_of_faulted {s : State} {t : Tid} (hold : (s.turbines.get t).oper = .faulted) :
    setOper s t .generating =
      setGate { s with turbines := put s.turbines t { s.turbines.get t with oper := .generating } } t .run true := by
  rw [setOper_of_ne (by rw [hold]; decide), operNotices, if_pos rfl, if_neg (by rw [hold]; decide)]

/-- Which states an entry into GENERATING is a start from. -/
theorem startsFrom_iff (x : OperState) : startsFrom x = true ↔ x ≠ .generating ∧ x ≠ .faulted := by
  cases x <;> decide

/-- An entry into GENERATING that is a start. -/
theorem setOper_of_start {s : State} {t : Tid} (hgen : (s.turbines.get t).oper ≠ .generating)
    (hfaulted : (s.turbines.get t).oper ≠ .faulted) :
    setOper s t .generating = setGate (startTurbine
      { s with turbines := put s.turbines t { s.turbines.get t with oper := .generating } } t) t .run true := by
  rw [setOper_of_ne hgen.symm, operNotices, if_pos rfl, if_pos ⟨rfl, (startsFrom_iff _).mpr ⟨hgen, hfaulted⟩⟩]

/-- What a change to a state other than GENERATING leaves of the part, and what it writes of the turbine. -/
theorem setOper_away_fields (s : State) (t : Tid) {new : OperState} (hnew : new ≠ .generating) :
    let u := setOper s t new
    u.turbines = put s.turbines t { s.turbines.get t with oper := new } ∧ (∀ x, (u.usage.get x).main = (s.usage.get x).main) ∧
      (∀ x, (u.ice.get x).state = (s.ice.get x).state) ∧ u.harm = s.harm ∧ u.streams = s.streams ∧ u.items = s.items := by
  intro u
  by_cases hsame : new = (s.turbines.get t).oper
  · have hu : u = s := setOper_same hsame
    have hrec : { s.turbines.get t with oper := new } = s.turbines.get t := by rw [hsame]
    rw [hu, hrec, put_get]
    exact ⟨rfl, fun _ => rfl, fun _ => rfl, rfl, rfl, rfl⟩
  · by_cases hold : (s.turbines.get t).oper = .generating
    · have hu : u = _ := setOper_of_left hnew hold
      obtain ⟨_, _, _, honly⟩ := vibNotGenerating_only
        (setGate { s with turbines := put s.turbines t { s.turbines.get t with oper := new } } t .run false) t
      rw [hu, honly]
      refine ⟨rfl, fun x => ?_, fun x => ?_, rfl, rfl, rfl⟩
      · rw [discardBlock_usage, setGate_run]
        by_cases hx : x = t <;> simp [hx]
      · unfold discardBlock
        by_cases hx : x = t <;> simp [hx]
    · have hu : u = _ := setOper_of_idle hsame hnew hold
      rw [hu]
      exact ⟨rfl, fun _ => rfl, fun _ => rfl, rfl, rfl, rfl⟩

end Sys2Proof.Machine
end

section
/-! PROOF. LOAD TURBINE and the starts of a turbine (R22 to R29, R34, R83). -/

namespace Sys2Proof.Machine

/-! ## LOAD TURBINE (R22 to R24) -/

/-- LOAD TURBINE with present YES: the turbine's record, and its block where its class changes. -/
theorem configureTurbine_fields (s : State) (t : Tid) (cls rated : Nat) :
    let u := configureTurbine s t cls rated
    u = { s with turbines := u.turbines, ice := u.ice } ∧
      u.turbines.get t = { s.turbines.get t with
        present := true, cls := cls, rated := rated,
        implausible := if (s.turbines.get t).rated = rated then (s.turbines.get t).implausible else 0 } ∧
      (∀ x, x ≠ t → u.turbines.get x = s.turbines.get x) ∧
      ((s.turbines.get t).present = true → (s.turbines.get t).cls ≠ cls →
        (u.ice.get t).blockCount = 0 ∧ (u.ice.get t).blockSum = 0) ∧
      ((s.turbines.get t).present = false ∨ (s.turbines.get t).cls = cls → u.ice = s.ice) := by
  intro u
  obtain ⟨written, hwritten⟩ : ∃ x, x = updTurbine s t (fun r => { r with
    present := true, cls := cls, rated := rated,
    implausible := if r.rated = rated then r.implausible else 0 }) := ⟨_, rfl⟩
  have hrec : written.turbines.get t = { s.turbines.get t with
      present := true, cls := cls, rated := rated,
      implausible := if (s.turbines.get t).rated = rated then (s.turbines.get t).implausible else 0 } := by
    rw [hwritten, updTurbine_turbines, get_upd, if_pos rfl]
  have hothers (x : Tid) (hx : x ≠ t) : written.turbines.get x = s.turbines.get x := by
    rw [hwritten, updTurbine_turbines, get_upd, if_neg hx]
  by_cases hcls : (s.turbines.get t).present = true ∧ (s.turbines.get t).cls ≠ cls
  · have hu : u = discardBlock .cls written t := by
      rw [hwritten]
      exact if_pos hcls
    refine ⟨by rw [hu, hwritten]; rfl, by rw [hu]; exact hrec, fun x hx => by rw [hu]; exact hothers x hx, fun _ _ => ?_,
      fun h => ?_⟩
    · rw [hu, discardBlock, get_upd, if_pos rfl]
      exact ⟨rfl, rfl⟩
    · rcases h with h | h
      · exact absurd hcls.1 (by simp [h])
      · exact absurd h hcls.2
  · have hu : u = written := by
      rw [hwritten]
      exact if_neg hcls
    rw [hu]
    exact ⟨by rw [hwritten]; rfl, hrec, hothers, fun h1 h2 => absurd ⟨h1, h2⟩ hcls, fun _ => by rw [hwritten]; rfl⟩

/-- LOAD TURBINE with present NO on a present turbine: what it writes of the turbine, and what it leaves. -/
theorem removeTurbine_fields (s : State) (t : Tid) :
    let u := removeTurbine s t
    (u.turbines.get t).present = false ∧ (u.turbines.get t).cls = 0 ∧ (u.turbines.get t).rated = 0 ∧
      (u.turbines.get t).oper = .unknown ∧ (u.turbines.get t).lastPower = none ∧ (u.turbines.get t).lastWind = none ∧
      (u.turbines.get t).lastTemp = none ∧ (u.turbines.get t).service = (s.turbines.get t).service ∧
      (t ∉ s.harm.grid.requests → (u.turbines.get t).blanking = none) ∧ t ∉ u.harm.grid.requests ∧
      (∀ p ∈ u.harm.contributors, p.turbine ≠ t) ∧ (u.usage.get t).main = (s.usage.get t).main ∧
      (u.ice.get t).state = (s.ice.get t).state ∧ (∀ x, x ≠ t → u.turbines.get x = s.turbines.get x) ∧
      u.streams = s.streams ∧ u.items = s.items := by
  intro u
  obtain ⟨cleared, hcleared⟩ : ∃ x, x = updTurbine
    (setOper (updTurbine s t (fun r => { r with present := false, cls := 0, rated := 0 })) t .unknown) t (fun r =>
      { r with lastPower := none, lastWind := none, lastTemp := none, blanking := none,
               implausible := if r.rated = (s.turbines.get t).rated then r.implausible else 0 }) := ⟨_, rfl⟩
  have hu : u = setHarm (withdraw cleared t) { (withdraw cleared t).harm with
      contributors := (withdraw cleared t).harm.contributors.filter (fun p => p.turbine ≠ t) } := by
    rw [hcleared]
    rfl
  obtain ⟨hturbines, husage, hice, hharm, hstreams, hitems⟩ :=
    setOper_away_fields (updTurbine s t (fun r => { r with present := false, cls := 0, rated := 0 })) t
      (new := .unknown) (by decide)
  have hkeeps := withdraw_keeps cleared t
  obtain ⟨b, hb⟩ := hkeeps.turbine
  obtain ⟨n, m, d, hblock, -⟩ := hkeeps.block
  have hrec : ∃ k, cleared.turbines.get t = { s.turbines.get t with
      present := false, cls := 0, rated := 0, oper := .unknown, lastPower := none, lastWind := none, lastTemp := none,
      blanking := none, implausible := k } := by
    rw [hcleared, updTurbine_turbines, get_upd, if_pos rfl, hturbines, get_put, if_pos rfl, updTurbine_turbines, get_upd,
      if_pos rfl]
    exact ⟨_, rfl⟩
  obtain ⟨k, hrec⟩ := hrec
  have hturbine : u.turbines.get t = { cleared.turbines.get t with blanking := b } := by
    rw [hu]
    exact hb
  rw [hrec] at hturbine
  refine ⟨by rw [hturbine], by rw [hturbine], by rw [hturbine], by rw [hturbine], by rw [hturbine], by rw [hturbine],
    by rw [hturbine], by rw [hturbine], fun hnot => ?_, ?_, fun p hp => ?_, ?_, ?_, fun x hx => ?_, ?_, ?_⟩
  · have hsame : withdraw cleared t = cleared := by
      unfold withdraw
      refine if_neg ?_
      rw [hcleared]
      change t ∉ (setOper _ t .unknown).harm.grid.requests
      rw [hharm]
      exact hnot
    rw [hu, hsame]
    change (cleared.turbines.get t).blanking = none
    rw [hrec]
  · rw [hu]
    exact not_mem_withdraw cleared t
  · rw [hu] at hp
    simpa using (List.mem_filter.mp hp).2
  · have hx := hkeeps.counters t
    have hmain : (u.usage.get t).main = (cleared.usage.get t).main := by
      rw [hu, ← hx]
      rfl
    rw [hmain, hcleared]
    exact husage t
  · have hstate : (u.ice.get t).state = (cleared.ice.get t).state := by
      rw [hu]
      change ((withdraw cleared t).ice.get t).state = _
      rw [hblock]
    rw [hstate, hcleared]
    exact hice t
  · rw [hu]
    change (withdraw cleared t).turbines.get x = _
    rw [hkeeps.turbines x hx, hcleared, updTurbine_turbines, get_upd, if_neg hx, hturbines, get_put, if_neg hx,
      updTurbine_turbines, get_upd, if_neg hx]
  · rw [hu]
    change (withdraw cleared t).streams = _
    rw [hkeeps.streams, hcleared]
    exact hstreams
  · rw [hu]
    change (withdraw cleared t).items = _
    rw [hkeeps.items, hcleared]
    exact hitems

/-- LOAD TURBINE with present YES and its parameters in range. -/
theorem doLoadTurbine_yes (t : Tid) {cls rated : Nat} (hcls : cls ≤ 3) (h1 : 1 ≤ rated) (h2 : rated ≤ 32767) (o : Origin)
    (s : State) : doLoadTurbine o (tnum t) 1 cls rated s = replyDone (configureTurbine s t cls rated) o 32 [] := by
  have hrated : inRange 1 32767 rated = true := by
    simp only [inRange, Bool.and_eq_true, decide_eq_true_eq]
    exact ⟨h1, h2⟩
  rw [doLoadTurbine, forTurbine_tnum]
  simp only [flagOf, if_neg (Nat.not_lt.mpr hcls), hrated, Bool.true_eq_false, if_false]
  rfl

/-- LOAD TURBINE with present NO: class and rated power are not looked at. -/
theorem doLoadTurbine_no (o : Origin) (t : Tid) (cls rated : Nat) (s : State) :
    doLoadTurbine o (tnum t) 0 cls rated s =
      replyDone (if (s.turbines.get t).present then removeTurbine s t else s) o 32 [] := by
  rw [doLoadTurbine, forTurbine_tnum]
  rfl

/-- LOAD TURBINE refuses a present flag that is neither YES nor NO. -/
theorem doLoadTurbine_of_present (t : Tid) {present : Nat} (h : 2 ≤ present) (cls rated : Nat) (o : Origin) (s : State) :
    doLoadTurbine o (tnum t) present cls rated s = replyRefused s o 32 .badParameter 2 := by
  have hnone : flagOf present = none := by
    rw [← Option.not_isSome_iff_eq_none, flagOf_isSome]
    omega
  rw [doLoadTurbine, forTurbine_tnum, hnone]
  rfl

/-- LOAD TURBINE refuses a class that does not exist. -/
theorem doLoadTurbine_of_class (t : Tid) {cls : Nat} (h : 3 < cls) (rated : Nat) (o : Origin) (s : State) :
    doLoadTurbine o (tnum t) 1 cls rated s = replyRefused s o 32 .badParameter 3 := by
  rw [doLoadTurbine, forTurbine_tnum]
  simp only [flagOf, if_pos h, badParam]

/-- LOAD TURBINE refuses a rated power out of range. -/
theorem doLoadTurbine_of_rated (t : Tid) {cls rated : Nat} (hcls : cls ≤ 3) (h : rated = 0 ∨ 32767 < rated) (o : Origin)
    (s : State) : doLoadTurbine o (tnum t) 1 cls rated s = replyRefused s o 32 .badParameter 4 := by
  have hrated : inRange 1 32767 rated = false := by
    simp only [inRange, Bool.and_eq_false_iff, decide_eq_false_iff_not]
    omega
  rw [doLoadTurbine, forTurbine_tnum]
  simp only [flagOf, if_neg (Nat.not_lt.mpr hcls), hrated, if_true, badParam]

/-- A number from 1 to 24 names a turbine. -/
theorem exists_tnum {k : Nat} (h1 : 1 ≤ k) (h24 : k ≤ 24) : ∃ t : Tid, k = tnum t :=
  ⟨⟨k - 1, by omega⟩, by simp only [tnum]; omega⟩

/-- Settles O33, from what LOAD TURBINE does with present YES and with present NO, and its refusals. -/
theorem loadTurbineConfigures : Obligations.LoadTurbineConfigures := by
  refine ⟨fun o s t cls rated hacc hcls h1 h2 => ?_, fun o s t cls rated hacc hpresent => ?_,
    fun o s t cls rated hacc habsent _ _ => ?_, fun o s turbine present cls rated hacc => ?_⟩
  · exact ⟨_, answersDone_of hacc rfl (doLoadTurbine_yes t hcls h1 h2 o s), configureTurbine_fields s t cls rated⟩
  · have hdone := doLoadTurbine_no o t cls rated s
    rw [if_pos hpresent] at hdone
    exact ⟨_, answersDone_of hacc rfl hdone, removeTurbine_fields s t⟩
  · have hdone := doLoadTurbine_no o t cls rated s
    rw [if_neg (by simp [habsent])] at hdone
    exact answersDone_of hacc rfl hdone
  · refine ⟨fun hout => ?_, fun h1 h24 => ?_⟩
    · exact answersRefused_of (body := doLoadTurbine o turbine present cls rated) hacc rfl
        (forTurbine_out (by omega) _ _ _ _)
    · obtain ⟨t, rfl⟩ := exists_tnum h1 h24
      refine ⟨fun h => answersRefused_of hacc rfl (doLoadTurbine_of_present t h cls rated o s), ?_, ?_⟩
      · rintro rfl h
        exact answersRefused_of hacc rfl (doLoadTurbine_of_class t h rated o s)
      · rintro rfl hcls h
        exact answersRefused_of hacc rfl (doLoadTurbine_of_rated t hcls h o s)

end Sys2Proof.Machine
end

section
/-! PROOF. Starts, and the notices of an operating report's stream (R25 to R29, R34, R83, R114). -/

namespace Sys2Proof.Machine

/-! ## Starts (R29, R34, R83) -/

/-- A series begun writes the Vibration Watch only. -/
theorem newSeries_only (s : State) (i : SlotId) : OnlyVib s (newSeries s i) := by
  unfold newSeries
  split
  · exact updVib_only _ _ _
  · exact .refl s

/-- A series begun on a turbine's streams writes the Vibration Watch only. -/
theorem vibStart_only (s : State) (t : Tid) : OnlyVib s (vibStart s t) := .foldl newSeries_only _ _

/-- A start counted: the counter up by 1 short of its top. -/
theorem countStart_starts {s : State} {t : Tid} (h : (s.usage.get t).main.starts < 4294967295) :
    ((countStart s t).usage.get t).main.starts = (s.usage.get t).main.starts + 1 := by
  have hlt : mainAt s t .starts < 4294967295 := h
  rw [countStart, advanceMain_of_lt hlt, counterAdvance_usage, writeMain, get_upd, if_pos rfl]
  rfl

/-- What a start counted leaves. -/
theorem countStart_fields (s : State) (t : Tid) :
    (countStart s t).active = s.active ∧ (countStart s t).turbines = s.turbines := by
  unfold countStart advanceMain
  split
  · obtain ⟨_, _, _, h⟩ := counterAdvance_only (writeMain s t .starts (mainAt s t .starts + 1)) t .starts
    rw [h]
    exact ⟨rfl, rfl⟩
  · exact ⟨rfl, rfl⟩

/-- A start: the counter, and the blanking timer. -/
theorem startTurbine_fields (s : State) (t : Tid) :
    ((startTurbine s t).usage.get t).main = ((countStart s t).usage.get t).main ∧
      ((startTurbine s t).turbines.get t).blanking = loadTimer s.active.settings.blankingTime := by
  obtain ⟨hactive, -⟩ := countStart_fields s t
  obtain ⟨_, _, _, hstart⟩ := vibStart_only (countStart s t) t
  obtain ⟨hturbines, husage, -⟩ := requestBlanking_fields (vibStart (countStart s t) t) t
  constructor
  · rw [startTurbine, husage, hstart]
  · rw [startTurbine, hturbines, get_put, if_pos rfl, hstart]
    change loadTimer (countStart s t).active.settings.blankingTime = _
    rw [hactive]

/-- A gate opened or closed leaves the main counters and the turbines, and stands so. -/
theorem setGate_run_fields (s : State) (t : Tid) (b : Bool) :
    ((setGate s t .run b).usage.get t).main = (s.usage.get t).main ∧ ((setGate s t .run b).usage.get t).run.gate = b ∧
      (setGate s t .run b).turbines = s.turbines := by
  rw [setGate_run]
  simp

/-- An entry into GENERATING: counted and blanked as a start from PARKED, IDLING or UNKNOWN, the gate opened only from FAULTED. -/
theorem setOper_generating {s : State} {t : Tid} (hgen : (s.turbines.get t).oper ≠ .generating) :
    ((s.turbines.get t).oper ≠ .faulted → (s.usage.get t).main.starts < 4294967295 →
      ((setOper s t .generating).usage.get t).main.starts = (s.usage.get t).main.starts + 1 ∧
      ((setOper s t .generating).turbines.get t).blanking = loadTimer s.active.settings.blankingTime ∧
      ((setOper s t .generating).usage.get t).run.gate = true) ∧
    ((s.turbines.get t).oper = .faulted →
      ((setOper s t .generating).usage.get t).main = (s.usage.get t).main ∧
      ((setOper s t .generating).turbines.get t).blanking = (s.turbines.get t).blanking ∧
      ((setOper s t .generating).usage.get t).run.gate = true) := by
  refine ⟨fun hfaulted hlt => ?_, fun hfaulted => ?_⟩
  · rw [setOper_of_start hgen hfaulted]
    obtain ⟨hmain, hgate, hturbines⟩ := setGate_run_fields (startTurbine
      { s with turbines := put s.turbines t { s.turbines.get t with oper := .generating } } t) t true
    obtain ⟨hstart, hblanking⟩ := startTurbine_fields
      { s with turbines := put s.turbines t { s.turbines.get t with oper := .generating } } t
    refine ⟨?_, by rw [hturbines, hblanking], hgate⟩
    rw [hmain, hstart]
    exact countStart_starts (s := { s with turbines := put s.turbines t { s.turbines.get t with oper := .generating } }) hlt
  · rw [setOper_of_faulted hfaulted]
    obtain ⟨hmain, hgate, hturbines⟩ := setGate_run_fields
      { s with turbines := put s.turbines t { s.turbines.get t with oper := .generating } } t true
    refine ⟨hmain, ?_, hgate⟩
    rw [hturbines]
    simp

/-! ## Blocks, series and notices (R18, R25, R27, R83, R114, R118) -/

/-- A block discarded: emptied, and counted under its cause where it held a report. -/
theorem discardBlock_eq (s : State) (t : Tid) (cause : BlockCause) :
    let r := s.ice.get t
    let k := blockCauseIndex cause
    discardBlock cause s t = { s with ice := put s.ice t { r with
      blockCount := 0, blockSum := 0,
      discarded := if 0 < r.blockCount then put r.discarded k (min (r.discarded.get k + 1) 4294967295)
        else r.discarded } } := rfl

/-- A series begun on a stream with a record. -/
theorem newSeries_of {s : State} {i : SlotId} {e : StreamEntry} {r : VibRec} (he : entryAt s i = some e)
    (hr : s.vib.recs.get i = some r) :
    newSeries s i = { s with vib := { s.vib with recs := put s.vib.recs i (some { r with
      skip := (setOf s e).skip, post := 0 }) } } := by
  unfold newSeries
  rw [he]
  exact updVib_of hr _

/-- The values of a report stored. -/
theorem updTurbine_storeReport (s : State) (t : Tid) (p : Report) :
    let r := s.turbines.get t
    let stored : TurbineRec := if plausible r.rated p.power = true
      then { r with lastPower := some p.power, lastWind := some p.wind, lastTemp := some p.temp }
      else { r with lastWind := some p.wind, lastTemp := some p.temp, implausible := min (r.implausible + 1) 4294967295 }
    updTurbine s t (storeReport p) = { s with turbines := put s.turbines t stored } := rfl

/-- The notices of an OPSTAT stream. -/
theorem tell_opstat (s : State) {t : Tid} (i : SlotId) {e : StreamEntry} (hrole : e.role = .opstat) (hsrc : e.source = tnum t) :
    (∀ (stamp : Nat) (p : Report), tellData s i e stamp (.report p) = iceReport (operReport s t p) t p) ∧
      (∀ cause, tellEnded s i e cause = iceEnded (operEnded s t) t) ∧ tellGap s i e = s ∧
      tellLive s i e = iceLive s t := by
  have ht : entryTurbine e = some t := by rw [entryTurbine, hsrc, turbineOf_tnum]
  refine ⟨fun stamp p => ?_, fun cause => ?_, ?_, ?_⟩
  · simp only [tellData, hrole, ht]
  · simp only [tellEnded, hrole, ht]
  · simp only [tellGap, hrole, ht]
  · simp only [tellLive, hrole, ht]

/-- Settles O37, from the changes of the operating state one by one and the notices of the OPSTAT stream. -/
theorem startsAreCounted : Obligations.StartsAreCounted := by
  refine ⟨fun s t hgen => setOper_generating hgen, fun s t new => ?_, fun s t cause => discardBlock_eq s t cause,
    fun s i e r he hr => newSeries_of he hr, fun s t => rfl, fun s t i e hrole hsrc => ?_⟩
  · intro old u gate counted left
    refine ⟨fun h => setOper_same h, fun h hnew hold => setOper_of_idle h hnew hold, ?_, ?_, fun hnew hold => ?_, fun hnew => ?_⟩
    · rintro rfl hold
      exact setOper_of_faulted hold
    · rintro rfl hfaulted hgen
      exact setOper_of_start hgen hfaulted
    · exact setOper_of_left hnew hold
    · obtain ⟨hturbines, -⟩ := setOper_away_fields s t hnew
      exact hturbines
  · intro r ice
    obtain ⟨hdata, hended, hgap, hlive⟩ := tell_opstat s i hrole hsrc
    exact ⟨fun stamp p => hdata stamp p, fun cause => hended cause, hgap, hlive⟩

end Sys2Proof.Machine
end

section
/-! PROOF. Operating reports at the Icing Watch: their measure, the block and its end (R26, R115 to R124, R127). -/

namespace Sys2Proof.Machine

/-! ## Plausible power and the deficit (R26, R116) -/

/-- The bounds of plausible power, each rounded toward zero. -/
theorem plausible_iff (rated : Nat) (power : Int) :
    plausible rated power = true ↔ (-(rated : Int)).tdiv 4 ≤ power ∧ power ≤ (5 * (rated : Int)).tdiv 4 := by
  have hlow : (-(rated : Int)).tdiv 4 = -((rated / 4 : Nat) : Int) := by
    rw [Int.neg_tdiv]
    rfl
  have hhigh : (5 * (rated : Int)).tdiv 4 = ((5 * rated / 4 : Nat) : Int) := rfl
  rw [hlow, hhigh, plausible, Bool.and_eq_true, decide_eq_true_eq, decide_eq_true_eq]

/-- The deficit below, at and above the expected power, and of a negative power. -/
theorem deficit_cases {e : Nat} (he : 0 < e) (p : Int) :
    ((e : Int) ≤ p → deficit e p = 0) ∧
      (p < (e : Int) → 0 ≤ p → (deficit e p : Int) = ((e : Int) - p) * 1000 / (e : Int)) ∧ (p < 0 → deficit e p = 1000) := by
  refine ⟨fun h => ?_, fun h h0 => ?_, fun h => ?_⟩
  · have hzero : ((e : Int) - p).toNat = 0 := by omega
    rw [deficit, hzero, Nat.zero_mul, Nat.zero_div]
    rfl
  · obtain ⟨n, hn⟩ : ∃ n : Nat, (e : Int) - p = n := ⟨((e : Int) - p).toNat, by omega⟩
    have hle : n * 1000 / e ≤ 1000 := by
      rw [Nat.div_le_iff_le_mul_add_pred he]
      nlinarith [show n ≤ e by omega]
    rw [deficit, hn, Int.toNat_natCast, Nat.min_eq_left hle]
    push_cast
    rfl
  · have hge : 1000 ≤ ((e : Int) - p).toNat * 1000 / e := by
      rw [Nat.le_div_iff_mul_le he]
      have hle : e ≤ ((e : Int) - p).toNat := by omega
      nlinarith
    rw [deficit, Nat.min_eq_right hge]

/-! ## A report that qualifies (R115) -/

/-- What the temperature of a report does to the record. -/
theorem takeAmbient_eq (thawTemp temp : Int) (r : IceRec) : takeAmbient thawTemp temp r = { r with
    lastAmbient := some temp, warm := decide (thawTemp ≤ temp),
    thawTimer := if r.state = .iced ∧ temp < thawTemp then 0 else r.thawTimer } := by
  unfold takeAmbient
  simp only [decide_eq_false_iff_not, not_le]
  split_ifs <;> rfl

/-- The place of a bin that the curve holds. -/
theorem windBin_of {wind : Nat} {b : Fin 25} (h : (wind + 5) / 10 = b.val + 3) : windBin wind = some b := by
  rw [windBin, if_neg (by omega), h, Nat.add_sub_cancel, placeOf_val]

/-- A wind outside the curve has no bin. -/
theorem windBin_out {wind : Nat} (h : (wind + 5) / 10 < 3 ∨ 27 < (wind + 5) / 10) : windBin wind = none := by
  unfold windBin
  split_ifs with hlow
  · rfl
  · exact placeOf_none (by omega)

/-- The expected power of a class at a bin. -/
theorem expectedPower_of {s : State} {wind : Nat} (c : Fin 4) {b : Fin 25} (h : (wind + 5) / 10 = b.val + 3) :
    expectedPower s c.val wind =
      if (s.active.curves.get c).get b = 0 then none else some ((s.active.curves.get c).get b) := by
  simp only [expectedPower, placeOf_val, windBin_of h]

/-- A wind outside the curve has no expected power. -/
theorem expectedPower_out {s : State} {cls wind : Nat} (h : (wind + 5) / 10 < 3 ∨ 27 < (wind + 5) / 10) :
    expectedPower s cls wind = none := by
  unfold expectedPower
  rw [windBin_out h]
  split
  · contradiction
  · rfl

/-- When a report is fit for the block, the bin apart. -/
def ReportFit (s : State) (t : Tid) (p : Report) : Prop :=
  p.rotor = .generating ∧ (s.advice.recs.get t).advice = .none ∧ (s.turbines.get t).service = false ∧
    plausible (s.turbines.get t).rated p.power = true ∧
    ((s.ice.get t).state = .thawing ∨ p.temp ≤ s.active.settings.tempGate)

/-- A fit report qualifies where its bin has an expected power. -/
theorem qualifies_of_fit {s : State} {t : Tid} {p : Report} (h : ReportFit s t p) :
    qualifies s t p = (expectedPower s (s.turbines.get t).cls p.wind).map (fun e => deficit e p.power) := by
  unfold qualifies
  refine if_pos ?_
  simpa [gatePasses, ReportFit] using h

/-- A report that is not fit does not qualify. -/
theorem qualifies_of_unfit {s : State} {t : Tid} {p : Report} (h : ¬ ReportFit s t p) : qualifies s t p = none := by
  unfold qualifies
  refine if_neg (fun hfit => h ?_)
  simpa [gatePasses, ReportFit] using hfit

/-- A report that does not qualify is counted as skipped. -/
theorem iceReport_of_skipped {s : State} {t : Tid} {p : Report} {r : IceRec}
    (hr : takeAmbient s.active.settings.thawTemp p.temp (s.ice.get t) = r)
    (h : qualifies { s with ice := put s.ice t r } t p = none) :
    iceReport s t p = { s with ice := put s.ice t { r with skipped := min (r.skipped + 1) 4294967295 } } := by
  have hs : updIce s t (takeAmbient s.active.settings.thawTemp p.temp) = { s with ice := put s.ice t r } := by
    rw [← hr]
    rfl
  unfold iceReport
  rw [hs]
  dsimp only
  rw [h]
  simp only [updIce, upd, get_put, if_true, put_put, bump_eq]

/-- A report that qualifies joins the block, which ends at its size. -/
theorem iceReport_of_taken {s : State} {t : Tid} {p : Report} {r : IceRec} {d : Nat}
    (hr : takeAmbient s.active.settings.thawTemp p.temp (s.ice.get t) = r)
    (h : qualifies { s with ice := put s.ice t r } t p = some d) :
    let n := r.blockCount + 1
    let sum := r.blockSum + d
    let q := { r with blockCount := n, blockSum := sum, qualifying := min (r.qualifying + 1) 4294967295 }
    let st := s.active.settings
    iceReport s t p = if st.blockSize ≤ n
      then iceTransition { s with ice := put s.ice t r } t (blockEnd st (sum / n) q).1 (blockEnd st (sum / n) q).2
      else { s with ice := put s.ice t q } := by
  intro n sum q st
  have hs : updIce s t (takeAmbient s.active.settings.thawTemp p.temp) = { s with ice := put s.ice t r } := by
    rw [← hr]
    rfl
  unfold iceReport
  rw [hs]
  dsimp only
  rw [h]
  simp only [takeIntoBlock, get_put, if_true, put_put, bump_eq]
  rfl

/-! ## Block ends (R119, R120, R123) -/

/-- The evidence a block mean leaves. -/
theorem evidenceAfter_eq (st : Settings) (mean ev : Nat) : evidenceAfter st mean ev =
    if st.onDeficit * 10 ≤ mean then min (ev + 1) st.confirm else if mean ≤ st.offDeficit * 10 then ev - 1 else ev := by
  simp only [evidenceAfter, atOn, atOff, decide_eq_true_eq]

/-- A block end outside THAWING. -/
theorem blockEnd_of_not_thawing {r : IceRec} (h : r.state ≠ .thawing) (st : Settings) (mean : Nat) :
    blockEnd st mean r = evidenceRows st mean { r with
      lastMean := some mean, ended := min (r.ended + 1) 4294967295, blockCount := 0, blockSum := 0,
      evidence := if st.onDeficit * 10 ≤ mean then min (r.evidence + 1) st.confirm
        else if mean ≤ st.offDeficit * 10 then r.evidence - 1 else r.evidence } := by
  rw [blockEnd, if_neg h, evidenceAfter_eq, bump_eq]

/-- A block end in THAWING. -/
theorem blockEnd_of_thawing {r : IceRec} (h : r.state = .thawing) (st : Settings) (mean : Nat) :
    blockEnd st mean r = trialRow st mean { r with
      lastMean := some mean, ended := min (r.ended + 1) 4294967295, blockCount := 0, blockSum := 0 } := by
  rw [blockEnd, if_pos h, bump_eq]

/-- The rows of R120 on a record in CLEAR. -/
theorem evidenceRows_of_clear {r : IceRec} (h : r.state = .clear) (st : Settings) (mean : Nat) :
    let suspect := (FindingKind.iceSuspect, [vNat mean, vNat r.evidence, vNat st.confirm])
    let confirmed := (FindingKind.iceConfirmed, [vNat 0, vNat mean, vOptInt r.lastAmbient])
    evidenceRows st mean r = if r.evidence = 0 then (r, [])
      else if r.evidence = st.confirm
        then ({ r with state := .iced, thawTimer := 0, thawDue := false }, [suspect, confirmed])
      else ({ r with state := .suspect }, [suspect]) := by
  intro suspect confirmed
  by_cases h0 : r.evidence = 0
  · simp [evidenceRows, h, h0]
  · have h1 : 1 ≤ r.evidence := by omega
    by_cases hc : r.evidence = st.confirm
    · simp [evidenceRows, h, h0, h1, ← hc, suspect, confirmed, iceCauseCode]
    · simp [evidenceRows, h, h0, h1, hc, suspect]

/-- The rows of R120 on a record in SUSPECT. -/
theorem evidenceRows_of_suspect {r : IceRec} (h : r.state = .suspect) (st : Settings) (mean : Nat) :
    evidenceRows st mean r = if r.evidence = 0 then ({ r with state := .clear }, [(.iceCleared, [vNat 0, vNat mean])])
      else if r.evidence = st.confirm
        then ({ r with state := .iced, thawTimer := 0, thawDue := false },
          [(.iceConfirmed, [vNat 0, vNat mean, vOptInt r.lastAmbient])])
      else (r, []) := by
  by_cases h0 : r.evidence = 0
  · simp [evidenceRows, h, h0, iceCauseCode]
  · by_cases hc : r.evidence = st.confirm
    · simp [evidenceRows, h, hc ▸ h0, hc, iceCauseCode]
    · simp [evidenceRows, h, h0, hc]

/-- The rows of R120 on a record in ICED. -/
theorem evidenceRows_of_iced {r : IceRec} (h : r.state = .iced) (st : Settings) (mean : Nat) :
    evidenceRows st mean r = if r.evidence = 0
      then ({ r with state := .clear, thawTimer := 0, thawDue := false }, [(.iceCleared, [vNat 0, vNat mean])])
      else (r, []) := by
  by_cases h0 : r.evidence = 0 <;> simp [evidenceRows, h, h0, iceCauseCode]

/-- The row of R123 on a record in THAWING. -/
theorem trialRow_eq (st : Settings) (mean : Nat) (r : IceRec) : trialRow st mean r =
    if st.onDeficit * 10 ≤ mean
      then ({ r with state := .iced, evidence := st.confirm, thawTimer := 0, thawDue := false, trial := 0 },
        [(.iceReturned, [vNat mean, vNat r.trial])])
    else if st.trialBlocks ≤ r.trial + 1
      then ({ r with state := .clear, evidence := 0, trial := 0 }, [(.iceCleared, [vNat 1, vNat mean])])
    else ({ r with trial := r.trial + 1 }, []) := by
  simp only [trialRow, atOn, decide_eq_true_eq, iceCauseCode]

/-! ## Transitions of the ice state (R124, R127) -/

/-- The two ice states that the ice gate stands open in. -/
theorem iceFreezes_iff (x : IceState) : iceFreezes x = true ↔ x = .iced ∨ x = .thawing := by cases x <;> decide

/-- A record written moves the ice gate where the state enters or leaves the frozen pair. -/
theorem writeIce_cases (s : State) (t : Tid) (r : IceRec) :
    let old := (s.ice.get t).state
    let frozen (x : IceState) := x = .iced ∨ x = .thawing
    let w : State := { s with ice := put s.ice t r }
    ((frozen old ↔ frozen r.state) → writeIce s t r = w) ∧
      (frozen r.state → ¬ frozen old → writeIce s t r = setGate w t .ice true) ∧
      (frozen old → ¬ frozen r.state → writeIce s t r = setGate w t .ice false) := by
  simp only [← iceFreezes_iff, writeIce, iceGate]
  cases iceFreezes (s.ice.get t).state <;> cases iceFreezes r.state <;> simp

/-- A hold request told: its beginning to the Advice Unit and the Harmonic Watch, its end to the Advice Unit. -/
theorem tellHold_cases (before : Bool) (s : State) (t : Tid) :
    (before = holdRequested s t → tellHold before s t = s) ∧
      (before = false → holdRequested s t = true → tellHold before s t = withdraw (computeAdvice s t) t) ∧
      (before = true → holdRequested s t = false → tellHold before s t = computeAdvice s t) := by
  unfold tellHold
  cases before <;> cases holdRequested s t <;> simp

/-- A transition told: the gate, the findings, and the hold request where it begins or ends. -/
theorem iceTransition_cases (s : State) (t : Tid) (r : IceRec) (fs : List (FindingKind × List Word32)) :
    let old := (s.ice.get t).state
    let frozen (x : IceState) := x = .iced ∨ x = .thawing
    let w : State := { s with ice := put s.ice t r }
    let told (g : State) := fs.foldl (fun x f => raise x f.1 (some (tnum t)) .none f.2) g
    let hold (x : IceState) := x = .iced ∧ s.active.settings.holdOnIce = true
    ∃ g, ((frozen old ↔ frozen r.state) → g = w) ∧
      (frozen r.state → ¬ frozen old → g = setGate w t .ice true) ∧
      (frozen old → ¬ frozen r.state → g = setGate w t .ice false) ∧
      ((hold old ↔ hold r.state) → iceTransition s t r fs = told g) ∧
      (hold r.state → ¬ hold old → iceTransition s t r fs = withdraw (computeAdvice (told g) t) t) ∧
      (hold old → ¬ hold r.state → iceTransition s t r fs = computeAdvice (told g) t) := by
  intro old frozen w told hold
  obtain ⟨hsame, hopen, hclosed⟩ := writeIce_cases s t r
  obtain ⟨hice, hactive⟩ := raiseAll_keeps (some (tnum t)) fs (writeIce s t r)
  have hactive' : (writeIce s t r).active = s.active := by
    unfold writeIce iceGate
    split_ifs <;> rfl
  have hbefore : holdRequested s t = true ↔ hold old := by
    simp only [holdRequested, Bool.and_eq_true, decide_eq_true_eq, hold, old]
  have hafter : holdRequested (told (writeIce s t r)) t = true ↔ hold r.state := by
    simp only [holdRequested, told, hice, hactive, hactive', writeIce_ice, get_put, if_true, Bool.and_eq_true,
      decide_eq_true_eq, hold]
  have htell : iceTransition s t r fs = tellHold (holdRequested s t) (told (writeIce s t r)) t := rfl
  obtain ⟨hstay, hbegin, hend⟩ := tellHold_cases (holdRequested s t) (told (writeIce s t r)) t
  rw [← hbefore, ← hafter, htell]
  refine ⟨writeIce s t r, hsame, hopen, hclosed, fun h => hstay (Bool.eq_iff_iff.mpr h),
    fun h hno => hbegin (Bool.eq_false_iff.mpr hno) h, fun h hno => hend h (Bool.eq_false_iff.mpr hno)⟩

/-- A report at the Icing Watch: skipped, or taken into the block. -/
theorem iceReport_cases (s : State) (t : Tid) (p : Report) :
    let st := s.active.settings
    let turb := s.turbines.get t
    let old := s.ice.get t
    let r : IceRec := { old with
      lastAmbient := some p.temp, warm := decide (st.thawTemp ≤ p.temp),
      thawTimer := if old.state = .iced ∧ p.temp < st.thawTemp then 0 else old.thawTimer }
    let fit := p.rotor = .generating ∧ (s.advice.recs.get t).advice = .none ∧ turb.service = false ∧
      plausible turb.rated p.power = true ∧ (old.state = .thawing ∨ p.temp ≤ st.tempGate)
    let bin := (p.wind + 5) / 10
    let u (r : IceRec) : State := { s with ice := put s.ice t r }
    let skipped := u { r with skipped := min (r.skipped + 1) 4294967295 }
    (¬ fit ∨ bin < 3 ∨ 27 < bin → iceReport s t p = skipped) ∧
    (∀ (c : Fin 4) (b : Fin 25), turb.cls = c.val → bin = b.val + 3 →
      let expected := (s.active.curves.get c).get b
      (expected = 0 → iceReport s t p = skipped) ∧
      (fit → expected ≠ 0 →
        let n := r.blockCount + 1
        let sum := r.blockSum + deficit expected p.power
        let q := { r with blockCount := n, blockSum := sum, qualifying := min (r.qualifying + 1) 4294967295 }
        (n < st.blockSize → iceReport s t p = u q) ∧
        (st.blockSize ≤ n → iceReport s t p =
          iceTransition (u r) t (blockEnd st (sum / n) q).1 (blockEnd st (sum / n) q).2))) := by
  intro st turb old r fit bin u skipped
  have hr : takeAmbient s.active.settings.thawTemp p.temp (s.ice.get t) = r := takeAmbient_eq _ _ _
  have hfit : ReportFit (u r) t p ↔ fit := by
    simp only [ReportFit, u, get_put, if_true, fit, r, st, turb, old]
  have hskip (h : qualifies (u r) t p = none) : iceReport s t p = skipped := iceReport_of_skipped hr h
  have hqualifies : qualifies (u r) t p = none ∨ qualifies (u r) t p =
      (expectedPower s turb.cls p.wind).map (fun e => deficit e p.power) := by
    by_cases h : fit
    · exact Or.inr (qualifies_of_fit (hfit.mpr h))
    · exact Or.inl (qualifies_of_unfit (mt hfit.mp h))
  refine ⟨fun h => hskip ?_, fun c b hcls hbin => ⟨fun h0 => hskip ?_, fun hf h0 => ?_⟩⟩
  · rcases h with h | h
    · exact qualifies_of_unfit (mt hfit.mp h)
    · rcases hqualifies with hq | hq
      · exact hq
      · rw [hq, expectedPower_out h, Option.map_none]
  · rcases hqualifies with hq | hq
    · exact hq
    · rw [hq, hcls, expectedPower_of c hbin, if_pos h0, Option.map_none]
  · have hq : qualifies (u r) t p = some (deficit ((s.active.curves.get c).get b) p.power) := by
      refine (qualifies_of_fit (hfit.mpr hf)).trans ?_
      change (expectedPower s turb.cls p.wind).map _ = _
      rw [hcls, expectedPower_of c hbin, if_neg h0, Option.map_some]
    intro n sum q
    have htaken := iceReport_of_taken hr hq
    refine ⟨fun hlt => htaken.trans (if_neg (Nat.not_le.mpr hlt)), fun hle => htaken.trans (if_pos hle)⟩

/-- A block end, state by state. -/
theorem blockEnd_cases {st : Settings} (mean : Nat) (r : IceRec) (hconfirm : 1 ≤ st.confirm) :
    let on := st.onDeficit * 10 ≤ mean
    let off := mean ≤ st.offDeficit * 10
    let ev := if on then min (r.evidence + 1) st.confirm else if off then r.evidence - 1 else r.evidence
    let r1 := { r with
      lastMean := some mean, ended := min (r.ended + 1) 4294967295, blockCount := 0, blockSum := 0 }
    let r2 := { r1 with evidence := ev }
    let suspect := (FindingKind.iceSuspect, [vNat mean, vNat ev, vNat st.confirm])
    let confirmed := (FindingKind.iceConfirmed, [vNat 0, vNat mean, vOptInt r.lastAmbient])
    let cleared (cause : Nat) := (FindingKind.iceCleared, [vNat cause, vNat mean])
    let out := blockEnd st mean r
    (r.state = .clear → ev = 0 → out = (r2, [])) ∧
    (r.state = .clear → ev ≠ 0 → ev ≠ st.confirm → out = ({ r2 with state := .suspect }, [suspect])) ∧
    (r.state = .clear → ev ≠ 0 → ev = st.confirm →
      out = ({ r2 with state := .iced, thawTimer := 0, thawDue := false }, [suspect, confirmed])) ∧
    (r.state = .suspect → ev = 0 → out = ({ r2 with state := .clear }, [cleared 0])) ∧
    (r.state = .suspect → ev ≠ 0 → ev ≠ st.confirm → out = (r2, [])) ∧
    (r.state = .suspect → ev = st.confirm →
      out = ({ r2 with state := .iced, thawTimer := 0, thawDue := false }, [confirmed])) ∧
    (r.state = .iced → ev = 0 → out = ({ r2 with state := .clear, thawTimer := 0, thawDue := false }, [cleared 0])) ∧
    (r.state = .iced → ev ≠ 0 → out = (r2, [])) ∧
    (r.state = .thawing → on → out =
      ({ r1 with state := .iced, evidence := st.confirm, thawTimer := 0, thawDue := false, trial := 0 },
       [(.iceReturned, [vNat mean, vNat r.trial])])) ∧
    (r.state = .thawing → ¬ on → st.trialBlocks ≤ r.trial + 1 →
      out = ({ r1 with state := .clear, evidence := 0, trial := 0 }, [cleared 1])) ∧
    (r.state = .thawing → ¬ on → r.trial + 1 < st.trialBlocks → out = ({ r1 with trial := r.trial + 1 }, [])) := by
  intro on off ev r1 r2 suspect confirmed cleared out
  have hclear (h : r.state = .clear) : out = if ev = 0 then (r2, []) else if ev = st.confirm
      then ({ r2 with state := .iced, thawTimer := 0, thawDue := false }, [suspect, confirmed])
      else ({ r2 with state := .suspect }, [suspect]) :=
    (blockEnd_of_not_thawing (by simp [h]) st mean).trans (evidenceRows_of_clear (r := r2) h st mean)
  have hsuspect (h : r.state = .suspect) : out = if ev = 0 then ({ r2 with state := .clear }, [cleared 0])
      else if ev = st.confirm then ({ r2 with state := .iced, thawTimer := 0, thawDue := false }, [confirmed])
      else (r2, []) :=
    (blockEnd_of_not_thawing (by simp [h]) st mean).trans (evidenceRows_of_suspect (r := r2) h st mean)
  have hiced (h : r.state = .iced) : out = if ev = 0
      then ({ r2 with state := .clear, thawTimer := 0, thawDue := false }, [cleared 0]) else (r2, []) :=
    (blockEnd_of_not_thawing (by simp [h]) st mean).trans (evidenceRows_of_iced (r := r2) h st mean)
  have hthawing (h : r.state = .thawing) : out = if on
      then ({ r1 with state := .iced, evidence := st.confirm, thawTimer := 0, thawDue := false, trial := 0 },
        [(.iceReturned, [vNat mean, vNat r.trial])])
      else if st.trialBlocks ≤ r.trial + 1 then ({ r1 with state := .clear, evidence := 0, trial := 0 }, [cleared 1])
      else ({ r1 with trial := r.trial + 1 }, []) :=
    (blockEnd_of_thawing h st mean).trans (trialRow_eq st mean r1)
  refine ⟨fun h h0 => ?_, fun h h0 hc => ?_, fun h h0 hc => ?_, fun h h0 => ?_, fun h h0 hc => ?_, fun h hc => ?_,
    fun h h0 => ?_, fun h h0 => ?_, fun h hon => ?_, fun h hon htrial => ?_, fun h hon htrial => ?_⟩
  · rw [hclear h, if_pos h0]
  · rw [hclear h, if_neg h0, if_neg hc]
  · rw [hclear h, if_neg h0, if_pos hc]
  · rw [hsuspect h, if_pos h0]
  · rw [hsuspect h, if_neg h0, if_neg hc]
  · rw [hsuspect h, if_neg (by omega), if_pos hc]
  · rw [hiced h, if_pos h0]
  · rw [hiced h, if_neg h0]
  · rw [hthawing h, if_pos hon]
  · rw [hthawing h, if_neg hon, if_pos htrial]
  · rw [hthawing h, if_neg hon, if_neg (Nat.not_le.mpr htrial)]

/-- Settles O34, from plausible power, the deficit, the report, the block end and the transition. -/
theorem reportsAreMeasuredAndJudged : Obligations.ReportsAreMeasuredAndJudged :=
  ⟨plausible_iff, fun _ p he => deficit_cases he p, iceReport_cases, fun _ mean r hconfirm => blockEnd_cases mean r hconfirm,
    iceTransition_cases⟩

end Sys2Proof.Machine
end

section
/-! PROOF. Slots that change over, and the timeout of a commit (R5, R187 to R189). -/

namespace Sys2Proof.Machine

/-! ## Slots that change over (R5, R67, R81, R90) -/

/-- The end of an old stream leaves the Stream Table. -/
theorem leaveOld_streams (s : State) (i : SlotId) : (leaveOld s i).streams = s.streams := by
  unfold leaveOld
  split
  · unfold endIfLive
    split
    · exact tellEnded_streams _ _ _ _
    · rfl
  · rfl

/-- A slot that takes its staged copy: the slot is written, and nothing else of the Stream Table. -/
theorem takeStaged_streams (s : State) (i : SlotId) : (takeStaged s i).streams = { s.streams with
    slots := put s.streams.slots i (slotTaking (s.streams.slots.get i) (stagedAt s i)) } := by
  unfold takeStaged
  dsimp only
  split <;> rfl

/-- Taking a slot's staged copy leaves the Staging Area. -/
theorem stagedAt_takeStaged (s : State) (i j : SlotId) : stagedAt (takeStaged s i) j = stagedAt s j := by
  unfold stagedAt
  rw [(takeStaged_moves s i).beside.staged]

/-- Slots that each take their staged copy, each once: the slots named are written, the others stand. -/
theorem foldl_takeStaged_streams {g : List SlotId} (hg : g.Nodup) (s : State) :
    (g.foldl takeStaged s).streams.gen = s.streams.gen ∧ (g.foldl takeStaged s).streams.unknown = s.streams.unknown ∧
      (g.foldl takeStaged s).streams.mismatched = s.streams.mismatched ∧
      ∀ i, (g.foldl takeStaged s).streams.slots.get i =
        if i ∈ g then slotTaking (s.streams.slots.get i) (stagedAt s i) else s.streams.slots.get i := by
  induction g generalizing s with
  | nil => simp
  | cons j g ih =>
    obtain ⟨hj, hg⟩ := List.nodup_cons.mp hg
    obtain ⟨hgen, hunknown, hmismatched, hslots⟩ := ih hg (takeStaged s j)
    rw [takeStaged_streams] at hgen hunknown hmismatched
    rw [List.foldl_cons]
    refine ⟨hgen, hunknown, hmismatched, fun i => ?_⟩
    rw [hslots, stagedAt_takeStaged, takeStaged_streams]
    by_cases hi : i = j
    · simp [hi, hj]
    · simp [hi]

/-- Grades formed leave the Stream Table. -/
theorem formGrades_streams (s : State) (t : Tid) : (formGrades s t).streams = s.streams := by
  obtain ⟨_, _, _, _, h⟩ := formGrades_only s t
  rw [h]

/-- A changeover of slots: each slot named has taken its staged copy, the others stand. -/
theorem changeOver_streams {g : List SlotId} (hg : g.Nodup) (s : State) :
    (changeOver s g).streams.gen = s.streams.gen ∧ ∀ i, (changeOver s g).streams.slots.get i =
      if i ∈ g then slotTaking (s.streams.slots.get i) (stagedAt s i) else s.streams.slots.get i := by
  have hleft : (g.foldl leaveOld s).streams = s.streams := foldl_streams leaveOld_streams g s
  have hstaged (i : SlotId) : stagedAt (g.foldl leaveOld s) i = stagedAt s i := by
    unfold stagedAt
    rw [(Moves.foldl leaveOld_moves g s).beside.staged]
  obtain ⟨hgen, -, -, hslots⟩ := foldl_takeStaged_streams hg (g.foldl leaveOld s)
  have hstreams : (changeOver s g).streams = (g.foldl takeStaged (g.foldl leaveOld s)).streams := by
    unfold changeOver
    exact foldl_streams formGrades_streams _ _
  rw [hstreams]
  refine ⟨by rw [hgen, hleft], fun i => ?_⟩
  rw [hslots, hstaged, hleft]

/-! ## The timeout (R189) -/

/-- Settles O27, from the changeover of every waiting group as one. -/
theorem commitTimeoutForcesTheGroups : Obligations.CommitTimeoutForcesTheGroups := by
  intro s p hs hcmd hticks hnodup
  have htake : takeCommitTimeout s = forceCommit s p := by
    simp only [takeCommitTimeout, hcmd, hticks, if_true]
  have hkeeps := (changeOver_moves { s with cmd := .ready } p.groups.flatten).beside
  obtain ⟨hgen, hslots⟩ := changeOver_streams hnodup { s with cmd := .ready }
  have hgens : generationBytes (changeOver { s with cmd := .ready } p.groups.flatten) = generationBytes s := by
    unfold generationBytes
    rw [hgen, hkeeps.active]
  refine ⟨changeOver { s with cmd := .ready } p.groups.flatten, ?_, hkeeps.cmd, hslots, hkeeps.active, hkeeps.staged,
    hkeeps.clock, hkeeps.store⟩
  have hstep : exec .commitTimeout s = .next (settle (takeCommitTimeout s)) := exec_of_event (by rfl) (pathActive_of hs)
  rw [hstep, htake, ← hgens]
  rfl

end Sys2Proof.Machine
end

section
/-! PROOF. The Classifier: matching, the reference check, the sequence check and the dispositions (R6 to R17). -/

namespace Sys2Proof.Machine

/-! ## Slots written (R4, R17) -/

/-- A slot written as it stands changes nothing. -/
theorem setSlot_self (s : State) (i : SlotId) : setSlot s i (s.streams.slots.get i) = s := by
  rw [setSlot, put_get]

/-- The slots behind a write of one of them. -/
theorem setSlot_get (s : State) (i j : SlotId) (x : Slot) :
    (setSlot s i x).streams.slots.get j = if j = i then x else s.streams.slots.get j := by
  rw [setSlot, get_put]

/-- The slot written, read. -/
@[simp] theorem setSlot_get_same (s : State) (i : SlotId) (x : Slot) : (setSlot s i x).streams.slots.get i = x := by
  rw [setSlot_get, if_pos rfl]

/-- Of two writes to a slot the second stands. -/
theorem setSlot_setSlot (s : State) (i : SlotId) (x y : Slot) : setSlot (setSlot s i x) i y = setSlot s i y := by
  unfold setSlot
  rw [put_put]

/-- A slot changed by a function is the slot written. -/
theorem updSlot_eq {s : State} {i : SlotId} {x : Slot} (f : Slot → Slot) (h : f (s.streams.slots.get i) = x) :
    updSlot s i f = setSlot s i x := by
  rw [updSlot, h]

/-- An offer to a transit queue leaves the streams. -/
@[simp] theorem offerTransit_streams (s : State) (p : Port) (f : Frame) : (offerTransit s p f).streams = s.streams := by
  unfold offerTransit
  dsimp only
  split <;> cases p <;> rfl

/-- A malformed frame counted, by whether it has data. -/
theorem countMalformed_eq (d : Option FrameData) (x : Slot) : countMalformed d x =
    { x with malformed := if d.isSome = true then x.malformed else min (x.malformed + 1) 4294967295 } := by
  cases d <;> rfl

/-- The slot that has accepted a frame. -/
theorem acceptFrame_eq (e : StreamEntry) (q : Nat) (d : Option FrameData) (x : Slot) : acceptFrame e q d x = { x with
    expected := some ((q + 1) % 256), taken := min (x.taken + 1) 4294967295, silence := loadTimer e.silence,
    malformed := if d.isSome = true then x.malformed else min (x.malformed + 1) 4294967295 } := by
  rw [acceptFrame, countMalformed_eq, bump_eq]

/-! ## Dispositions (R17) -/

/-- PASS forwards the frame. -/
theorem disposeFrame_pass {e : StreamEntry} (h : e.disposition = .pass) (s : State) (i : SlotId) (f : Frame) :
    disposeFrame s i e f = offerTransit s .d f := by
  have hslot : updSlot s i (fun x => { x with thin := (s.streams.slots.get i).thin }) = s := setSlot_self s i
  simp only [disposeFrame, disposed, h, if_true, hslot]

/-- TAKE does not forward it. -/
theorem disposeFrame_take {e : StreamEntry} (h : e.disposition = .take) (s : State) (i : SlotId) (f : Frame) :
    disposeFrame s i e f = s := by
  have hslot : updSlot s i (fun x => { x with thin := (s.streams.slots.get i).thin }) = s := setSlot_self s i
  simp only [disposeFrame, disposed, h, Bool.false_eq_true, if_false, hslot]

/-- THIN forwards the N-th. -/
theorem disposeFrame_thin_forward {e : StreamEntry} (h : e.disposition = .thin) {s : State} {i : SlotId}
    (hn : e.thinN ≤ (s.streams.slots.get i).thin + 1) (f : Frame) :
    disposeFrame s i e f = offerTransit (setSlot s i { s.streams.slots.get i with thin := 0 }) .d f := by
  simp only [disposeFrame, disposed, h, if_pos hn, if_true]
  rfl

/-- THIN counts the others. -/
theorem disposeFrame_thin_count {e : StreamEntry} (h : e.disposition = .thin) {s : State} {i : SlotId}
    (hn : (s.streams.slots.get i).thin + 1 < e.thinN) (f : Frame) :
    disposeFrame s i e f = setSlot s i { s.streams.slots.get i with thin := (s.streams.slots.get i).thin + 1 } := by
  simp only [disposeFrame, disposed, h, if_neg (Nat.not_le.mpr hn), Bool.false_eq_true, if_false]
  rfl

/-- A disposed frame leaves the other slots. -/
theorem disposeFrame_slot_of_ne {i j : SlotId} (h : j ≠ i) (s : State) (e : StreamEntry) (f : Frame) :
    (disposeFrame s i e f).streams.slots.get j = s.streams.slots.get j := by
  unfold disposeFrame
  dsimp only
  split <;> simp [updSlot, h]

/-- The notices that hand a frame on leave the streams, but for the thinning counter of its slot. -/
theorem handOn_slot (s : State) (i : SlotId) (e : StreamEntry) (f : Frame) (d : Option FrameData) :
    (∃ n, (handOn s i e f d).streams.slots.get i = { s.streams.slots.get i with thin := n }) ∧
      ∀ j, j ≠ i → (handOn s i e f d).streams.slots.get j = s.streams.slots.get j := by
  unfold handOn
  cases d with
  | none =>
    obtain ⟨n, hn⟩ := disposeFrame_slot (tellGap s i e) i e f
    exact ⟨⟨n, by rw [hn, tellGap_streams]⟩, fun j hj => by rw [disposeFrame_slot_of_ne hj, tellGap_streams]⟩
  | some v =>
    obtain ⟨n, hn⟩ := disposeFrame_slot (tellData s i e (headerOf f.bytes).stamp v) i e f
    exact ⟨⟨n, by rw [hn, tellData_streams]⟩, fun j hj => by rw [disposeFrame_slot_of_ne hj, tellData_streams]⟩

/-! ## The sequence check (R10, R11) -/

/-- A frame in order is handed on. -/
theorem liveFrame_of_order {s : State} {i : SlotId} {f : Frame} {ex : Nat}
    (hex : (s.streams.slots.get i).expected = some ex) (hgap : ((headerOf f.bytes).seq + 256 - ex) % 256 = 0)
    (e : StreamEntry) (d : Option FrameData) :
    let x := s.streams.slots.get i
    liveFrame s i e f d = handOn (setSlot s i { x with
      expected := some (((headerOf f.bytes).seq + 1) % 256), taken := min (x.taken + 1) 4294967295,
      silence := loadTimer e.silence,
      malformed := if d.isSome = true then x.malformed else min (x.malformed + 1) 4294967295 }) i e f d := by
  intro x
  unfold liveFrame
  dsimp only
  rw [hex, Option.getD_some, seqGap, if_pos hgap, updSlot_eq _ (acceptFrame_eq e (headerOf f.bytes).seq d x)]

/-- A frame past missing ones is told as GAP and STREAM_GAP, and handed on. -/
theorem liveFrame_of_gap {s : State} {i : SlotId} {f : Frame} {ex gap : Nat}
    (hex : (s.streams.slots.get i).expected = some ex) (hgap : ((headerOf f.bytes).seq + 256 - ex) % 256 = gap)
    (h1 : 1 ≤ gap) (h127 : gap ≤ 127) (e : StreamEntry) (d : Option FrameData) :
    let x := s.streams.slots.get i
    liveFrame s i e f d = handOn (raise
      (tellGap (setSlot s i { x with
        expected := some (((headerOf f.bytes).seq + 1) % 256), taken := min (x.taken + 1) 4294967295,
        silence := loadTimer e.silence,
        malformed := if d.isSome = true then x.malformed else min (x.malformed + 1) 4294967295,
        gaps := min (x.gaps + gap) 4294967295 }) i e)
      .streamGap (sourceTurbine e.source) (.slot i)
      [vNat gap, vNat (min (x.gaps + gap) 4294967295), vNat ex, vNat (headerOf f.bytes).seq]) i e f d := by
  intro x
  unfold liveFrame
  dsimp only
  rw [hex, Option.getD_some, seqGap, hgap, if_neg (by omega), if_pos h127,
    updSlot_eq _ (acceptFrame_eq e (headerOf f.bytes).seq d { x with gaps := bumpBy x.gaps gap })]
  rfl

/-- A stale frame is counted, and forwarded under PASS. -/
theorem liveFrame_of_stale {s : State} {i : SlotId} {f : Frame} {ex : Nat}
    (hex : (s.streams.slots.get i).expected = some ex) (hgap : 128 ≤ ((headerOf f.bytes).seq + 256 - ex) % 256)
    (e : StreamEntry) (d : Option FrameData) :
    let late := setSlot s i { s.streams.slots.get i with stale := min ((s.streams.slots.get i).stale + 1) 4294967295 }
    liveFrame s i e f d = if e.disposition = .pass then offerTransit late .d f else late := by
  intro late
  unfold liveFrame
  dsimp only
  rw [hex, Option.getD_some, seqGap, if_neg (by omega), if_neg (by omega)]
  rfl

/-- The sequence check on a LIVE slot, case by case. -/
theorem liveFrame_cases {s : State} {i : SlotId} (e : StreamEntry) (f : Frame) (d : Option FrameData) {ex : Nat}
    (hex : (s.streams.slots.get i).expected = some ex) :
    let q := (headerOf f.bytes).seq
    let x := s.streams.slots.get i
    let y := (liveFrame s i e f d).streams.slots.get i
    let gap := (q + 256 - ex) % 256
    (gap ≤ 127 → y.expected = some ((q + 1) % 256) ∧ y.taken = min (x.taken + 1) 4294967295 ∧
      (1 ≤ gap → y.gaps = min (x.gaps + gap) 4294967295) ∧ (gap = 0 → y.gaps = x.gaps) ∧ y.stale = x.stale ∧
      y.silence = loadTimer e.silence ∧
      y.malformed = (if d.isSome = true then x.malformed else min (x.malformed + 1) 4294967295)) ∧
    (128 ≤ gap → y = { x with stale := min (x.stale + 1) 4294967295 }) ∧
    (128 ≤ gap →
      let late := setSlot s i { x with stale := min (x.stale + 1) 4294967295 }
      (e.disposition = .pass → liveFrame s i e f d = offerTransit late .d f) ∧
      (e.disposition = .take ∨ e.disposition = .thin → liveFrame s i e f d = late)) ∧
    (let z : Slot := { x with
       expected := some ((q + 1) % 256),
       taken := min (x.taken + 1) 4294967295,
       silence := loadTimer e.silence,
       malformed := if d.isSome = true then x.malformed else min (x.malformed + 1) 4294967295 }
     (gap = 0 → liveFrame s i e f d = handOn (setSlot s i z) i e f d) ∧
     (1 ≤ gap → gap ≤ 127 → liveFrame s i e f d = handOn (raise
       (tellGap (setSlot s i { z with gaps := min (x.gaps + gap) 4294967295 }) i e)
       .streamGap (sourceTurbine e.source) (.slot i)
       [vNat gap, vNat (min (x.gaps + gap) 4294967295), vNat ex, vNat q]) i e f d)) := by
  intro q x y gap
  refine ⟨fun h127 => ?_, fun h128 => ?_, fun h128 => ?_, fun h0 => ?_, fun h1 h127 => ?_⟩
  · by_cases h0 : gap = 0
    · obtain ⟨⟨n, hn⟩, -⟩ := handOn_slot (setSlot s i { x with
        expected := some ((q + 1) % 256), taken := min (x.taken + 1) 4294967295, silence := loadTimer e.silence,
        malformed := if d.isSome = true then x.malformed else min (x.malformed + 1) 4294967295 }) i e f d
      rw [← liveFrame_of_order hex h0 e d, setSlot_get_same] at hn
      have hy : y = _ := hn
      rw [hy]
      exact ⟨rfl, rfl, fun h => absurd h (by omega), fun _ => rfl, rfl, rfl, rfl⟩
    · obtain ⟨⟨n, hn⟩, -⟩ := handOn_slot (raise
        (tellGap (setSlot s i { x with
          expected := some ((q + 1) % 256), taken := min (x.taken + 1) 4294967295, silence := loadTimer e.silence,
          malformed := if d.isSome = true then x.malformed else min (x.malformed + 1) 4294967295,
          gaps := min (x.gaps + gap) 4294967295 }) i e)
        .streamGap (sourceTurbine e.source) (.slot i)
        [vNat gap, vNat (min (x.gaps + gap) 4294967295), vNat ex, vNat q]) i e f d
      rw [← liveFrame_of_gap hex rfl (by omega) h127 e d, raise_streams, tellGap_streams, setSlot_get_same] at hn
      have hy : y = _ := hn
      rw [hy]
      exact ⟨rfl, rfl, fun _ => rfl, fun h => absurd h h0, rfl, rfl, rfl⟩
  · have hlive := liveFrame_of_stale hex h128 e d
    dsimp only at hlive
    have hy : y = (liveFrame s i e f d).streams.slots.get i := rfl
    rw [hy, hlive]
    split_ifs
    · rw [offerTransit_streams, setSlot_get_same]
    · rw [setSlot_get_same]
  · have hlive := liveFrame_of_stale hex h128 e d
    refine ⟨fun h => hlive.trans (if_pos h), fun h => hlive.trans (if_neg ?_)⟩
    rcases h with h | h <;> simp [h]
  · exact liveFrame_of_order hex h0 e d
  · exact liveFrame_of_gap hex rfl h1 h127 e d

/-! ## Matching (R6, R7) -/

/-- When a slot holds a key. -/
theorem holdsKey_iff (source channel : Nat) (x : Slot) : holdsKey source channel x = true ↔
    x.state ≠ .empty ∧ ∃ e, x.entry = some e ∧ e.source = source ∧ e.channel = channel := by
  unfold holdsKey
  cases x.entry <;> simp

/-- A key that no slot holds is found nowhere. -/
theorem findSlot_none {s : State} {source channel : Nat}
    (h : ∀ i e, (s.streams.slots.get i).state ≠ .empty → entryAt s i = some e →
      ¬ (e.source = source ∧ e.channel = channel)) : findSlot s source channel = none := by
  refine List.find?_eq_none.mpr (fun i _ hi => ?_)
  obtain ⟨hstate, e, he, hsource, hchannel⟩ := (holdsKey_iff _ _ _).mp hi
  exact h i e hstate he ⟨hsource, hchannel⟩

/-- A key that one slot holds is found there. -/
theorem findSlot_of_unique {s : State} {source channel : Nat} {i : SlotId} {e : StreamEntry}
    (hstate : (s.streams.slots.get i).state ≠ .empty) (he : entryAt s i = some e) (hsource : e.source = source)
    (hchannel : e.channel = channel)
    (h : ∀ j e', (s.streams.slots.get j).state ≠ .empty → entryAt s j = some e' → e'.source = source →
      e'.channel = channel → j = i) : findSlot s source channel = some i := by
  have hi : holdsKey source channel (s.streams.slots.get i) = true :=
    (holdsKey_iff _ _ _).mpr ⟨hstate, e, he, hsource, hchannel⟩
  cases hfind : findSlot s source channel with
  | none => exact absurd hi (by simpa using List.find?_eq_none.mp hfind i (mem_allSlots i))
  | some j =>
    have hj := List.find?_some hfind
    obtain ⟨hjstate, e', he', hjsource, hjchannel⟩ := (holdsKey_iff _ _ _).mp hj
    rw [h j e' hjstate he' hjsource hjchannel]

/-- A sample-bearing frame of Port U is taken by the Classifier. -/
theorem exec_receiveFrame_sample {s : State} {bytes : List Byte} (hr : receives s .u = true)
    (hgood : frameGood bytes = true) (h1 : 1 ≤ (headerOf bytes).kind) (h3 : (headerOf bytes).kind ≤ 3) :
    exec (.receiveFrame .u bytes) s = .next (settle (classify s { bytes := bytes })) := by
  have hnot : ownCommand s { bytes := bytes } = false := by
    have hkind : ¬ (headerOf bytes).kind = commandKind := by
      unfold commandKind
      omega
    simp [ownCommand, hkind]
  have hsample : sampleBearing (headerOf bytes).kind = true := by
    simp only [sampleBearing, Bool.and_eq_true, decide_eq_true_eq]
    exact ⟨h1, h3⟩
  rw [exec_receiveFrame hr, received, if_pos hgood, route, hnot, if_neg (by simp), if_pos ⟨rfl, hsample⟩]

/-- A frame whose key no slot holds. -/
theorem classify_unknown {s : State} {f : Frame}
    (h : findSlot s (headerOf f.bytes).source (headerOf f.bytes).channel = none) : classify s f = unknownFrame s f := by
  unfold classify
  dsimp only
  rw [h]

/-- A frame of another kind than its slot expects. -/
theorem classify_mismatched {s : State} {f : Frame} {i : SlotId} {e : StreamEntry}
    (h : findSlot s (headerOf f.bytes).source (headerOf f.bytes).channel = some i) (he : entryAt s i = some e)
    (hkind : streamKindCode e.kind ≠ (headerOf f.bytes).kind) : classify s f = mismatchedFrame s f := by
  unfold classify
  dsimp only
  rw [h]
  dsimp only
  rw [he]
  exact if_neg hkind

/-- A frame of its slot's stream. -/
theorem classify_stream {s : State} {f : Frame} {i : SlotId} {e : StreamEntry}
    (h : findSlot s (headerOf f.bytes).source (headerOf f.bytes).channel = some i) (he : entryAt s i = some e)
    (hkind : streamKindCode e.kind = (headerOf f.bytes).kind) : classify s f = streamFrame s i e f := by
  unfold classify
  dsimp only
  rw [h]
  dsimp only
  rw [he]
  exact if_pos hkind

/-- The policy FORWARD forwards. -/
theorem byPolicy_forward {s : State} (h : s.active.settings.policy = .forward) (f : Frame) :
    byPolicy s f = offerTransit s .d f := by
  unfold byPolicy
  rw [h]

/-- The policy DISCARD drops. -/
theorem byPolicy_discard {s : State} (h : s.active.settings.policy = .discard) (f : Frame) : byPolicy s f = s := by
  unfold byPolicy
  rw [h]

/-! ## The reference check (R8) -/

/-- The roles whose streams need their turbine present. -/
theorem needsTurbine_iff (x : Role) :
    needsTurbine x = true ↔ x = .vib ∨ x = .tach ∨ x = .convI ∨ x = .opstat := by
  cases x <;> decide

/-- When the turbine an entry names is not present. -/
theorem turbineMissing_iff (s : State) (e : StreamEntry) :
    turbineMissing s e = true ↔ ∃ x : Tid, e.source = tnum x ∧ (s.turbines.get x).present = false := by
  have hname (x : Tid) : entryTurbine e = some x ↔ e.source = tnum x := by
    constructor
    · exact tnum_of_turbineOf
    · intro h
      rw [entryTurbine, h, turbineOf_tnum]
  unfold turbineMissing
  cases ht : entryTurbine e with
  | none =>
    refine iff_of_false (by simp) ?_
    rintro ⟨x, hx, -⟩
    rw [← hname x, ht] at hx
    cases hx
  | some t =>
    have hsource := (hname t).mp ht
    constructor
    · exact fun h => ⟨t, hsource, by simpa using h⟩
    · rintro ⟨x, hx, habsent⟩
      rw [(hname x).mpr hx] at ht
      obtain rfl := Option.some.inj ht
      simp [habsent]

/-- When the reference check fails. -/
theorem referenceFailure_ne_none_iff (s : State) (e : StreamEntry) : referenceFailure s e ≠ none ↔
    (e.role = .vib ∧ (setOf s e).bands = []) ∨
    ((e.role = .vib ∨ e.role = .tach ∨ e.role = .convI ∨ e.role = .opstat) ∧
      ∃ x : Tid, e.source = tnum x ∧ (s.turbines.get x).present = false) := by
  rw [← needsTurbine_iff, ← turbineMissing_iff, ← List.isEmpty_iff]
  unfold referenceFailure
  split_ifs with hset hturbine
  · exact iff_of_true (by simp) (Or.inl hset)
  · exact iff_of_true (by simp) (Or.inr hturbine)
  · exact iff_of_false (by simp) (by tauto)

/-! ## Frames of a stream, state by state (R8, R9, R13, R16) -/

/-- The state behind a frame counted on its slot. -/
theorem updSlot_counted (s : State) (i : SlotId) (d : Option FrameData) :
    updSlot s i (fun x => countMalformed d { x with taken := bump x.taken }) = setSlot s i { s.streams.slots.get i with
      taken := min ((s.streams.slots.get i).taken + 1) 4294967295,
      malformed := if d.isSome = true then (s.streams.slots.get i).malformed
        else min ((s.streams.slots.get i).malformed + 1) 4294967295 } := by
  rw [updSlot, countMalformed_eq, bump_eq]

/-- A frame of a HELD slot. -/
theorem streamFrame_held {s : State} {i : SlotId} (h : (s.streams.slots.get i).state = .held) (e : StreamEntry) (f : Frame) :
    let x := s.streams.slots.get i
    let d := frameData e.kind (payloadOf f.bytes)
    streamFrame s i e f = offerTransit (setSlot s i { x with
      taken := min (x.taken + 1) 4294967295,
      malformed := if d.isSome = true then x.malformed else min (x.malformed + 1) 4294967295 }) .d f := by
  intro x d
  have hframe : streamFrame s i e f = heldFrame s i f d := by
    unfold streamFrame
    rw [h]
  rw [hframe, heldFrame, updSlot_counted]

/-- A frame of a FAULTY slot. -/
theorem streamFrame_faulty {s : State} {i : SlotId} (h : (s.streams.slots.get i).state = .faulty) (e : StreamEntry) (f : Frame) :
    let x := s.streams.slots.get i
    let d := frameData e.kind (payloadOf f.bytes)
    streamFrame s i e f = disposeFrame (setSlot s i { x with
      taken := min (x.taken + 1) 4294967295,
      malformed := if d.isSome = true then x.malformed else min (x.malformed + 1) 4294967295 }) i e f := by
  intro x d
  have hframe : streamFrame s i e f = faultyFrame s i e f d := by
    unfold streamFrame
    rw [h]
  rw [hframe, faultyFrame, updSlot_counted]

/-- A frame that fails the reference check. -/
theorem streamFrame_fails {s : State} {i : SlotId} {e : StreamEntry} {why : FaultyReason}
    (h : (s.streams.slots.get i).state = .idle ∨ (s.streams.slots.get i).state = .live ∨
      (s.streams.slots.get i).state = .silent) (hwhy : referenceFailure s e = some why) (f : Frame) :
    let x := s.streams.slots.get i
    let d := frameData e.kind (payloadOf f.bytes)
    let told := raise (setSlot s i { x with state := .faulty, expected := none, silence := none }) .streamFaulty
      (sourceTurbine e.source) (.slot i) [vNat (faultyCode why)]
    let ended := if x.state = .live then tellEnded told i e .faulty else told
    streamFrame s i e f = disposeFrame (setSlot ended i { x with
      taken := min (x.taken + 1) 4294967295,
      malformed := if d.isSome = true then x.malformed else min (x.malformed + 1) 4294967295,
      state := .faulty, expected := none, silence := none }) i e f := by
  intro x d told ended
  have hslot : ended.streams.slots.get i = { x with state := .faulty, expected := none, silence := none } := by
    have hstreams : ended.streams = told.streams := by
      simp only [ended]
      split_ifs
      · exact tellEnded_streams _ _ _ _
      · rfl
    rw [hstreams, raise_streams, setSlot_get_same]
  have htold : raiseStream (updSlot s i (fun x => { x with state := .faulty, expected := none, silence := none })) i e
      .streamFaulty [vNat (faultyCode why)] = told := rfl
  have hgoal : becomeFaulty s i e f d why = disposeFrame (setSlot ended i { x with
      taken := min (x.taken + 1) 4294967295,
      malformed := if d.isSome = true then x.malformed else min (x.malformed + 1) 4294967295,
      state := .faulty, expected := none, silence := none }) i e f := by
    unfold becomeFaulty
    dsimp only
    rw [htold]
    change faultyFrame ended i e f d = _
    rw [faultyFrame, updSlot_counted, hslot]
  unfold streamFrame
  rcases h with h | h | h <;> simp only [h, afterReference, hwhy] <;> exact hgoal

/-- The slot that goes LIVE with a frame. -/
theorem updSlot_live (s : State) (i : SlotId) (e : StreamEntry) (q : Nat) (d : Option FrameData) :
    updSlot s i (fun x => acceptFrame e q d { x with state := .live }) = setSlot s i { s.streams.slots.get i with
      taken := min ((s.streams.slots.get i).taken + 1) 4294967295,
      malformed := if d.isSome = true then (s.streams.slots.get i).malformed
        else min ((s.streams.slots.get i).malformed + 1) 4294967295,
      state := .live, expected := some ((q + 1) % 256), silence := loadTimer e.silence } := by
  rw [updSlot, acceptFrame_eq]

/-- The first frame of an IDLE slot. -/
theorem streamFrame_idle {s : State} {i : SlotId} (h : (s.streams.slots.get i).state = .idle) {e : StreamEntry}
    (hgood : referenceFailure s e = none) (f : Frame) :
    let x := s.streams.slots.get i
    let d := frameData e.kind (payloadOf f.bytes)
    streamFrame s i e f = handOn (tellLive (setSlot s i { x with
      taken := min (x.taken + 1) 4294967295,
      malformed := if d.isSome = true then x.malformed else min (x.malformed + 1) 4294967295,
      state := .live, expected := some (((headerOf f.bytes).seq + 1) % 256), silence := loadTimer e.silence }) i e) i e f d := by
  intro x d
  unfold streamFrame
  simp only [h, afterReference, hgood, firstFrame, updSlot_live]
  rfl

/-- A frame of a SILENT slot. -/
theorem streamFrame_silent {s : State} {i : SlotId} (h : (s.streams.slots.get i).state = .silent) {e : StreamEntry}
    (hgood : referenceFailure s e = none) (f : Frame) :
    let x := s.streams.slots.get i
    let d := frameData e.kind (payloadOf f.bytes)
    streamFrame s i e f = handOn (tellLive (raise (setSlot s i { x with
      taken := min (x.taken + 1) 4294967295,
      malformed := if d.isSome = true then x.malformed else min (x.malformed + 1) 4294967295,
      state := .live, expected := some (((headerOf f.bytes).seq + 1) % 256), silence := loadTimer e.silence })
      .streamBack (sourceTurbine e.source) (.slot i) [vNat x.silentTicks]) i e) i e f d := by
  intro x d
  unfold streamFrame
  simp only [h, afterReference, hgood, frameAfterSilence, updSlot_live]
  rfl

/-- A frame of a LIVE slot past the reference check. -/
theorem streamFrame_live {s : State} {i : SlotId} (h : (s.streams.slots.get i).state = .live) {e : StreamEntry}
    (hgood : referenceFailure s e = none) (f : Frame) :
    streamFrame s i e f = liveFrame s i e f (frameData e.kind (payloadOf f.bytes)) := by
  unfold streamFrame
  simp only [h, afterReference, hgood]

/-! ## Settling the Classifier -/

/-- A PLAIN stream tells no block. -/
theorem tell_plain {e : StreamEntry} (h : e.role = .plain) (s : State) (i : SlotId) :
    tellLive s i e = s ∧ tellGap s i e = s ∧ ∀ stamp d, tellData s i e stamp d = s := by
  refine ⟨?_, ?_, fun stamp d => ?_⟩
  · unfold tellLive
    rw [h]
  · unfold tellGap
    rw [h]
  · unfold tellData
    rw [h]

/-- A frame of a PLAIN stream under TAKE is handed on without any effect. -/
theorem handOn_plain_take {e : StreamEntry} (hrole : e.role = .plain) (htake : e.disposition = .take) (s : State) (i : SlotId)
    (f : Frame) (d : Option FrameData) : handOn s i e f d = s := by
  obtain ⟨-, hgap, hdata⟩ := tell_plain hrole s i
  unfold handOn
  cases d with
  | none => rw [hgap, disposeFrame_take htake]
  | some v =>
    dsimp only
    rw [hdata, disposeFrame_take htake]

/-- The slots behind a frame that fails the reference check. -/
theorem streamFrame_fails_slots {s : State} {i : SlotId} {e : StreamEntry}
    (h : (s.streams.slots.get i).state = .idle ∨ (s.streams.slots.get i).state = .live ∨
      (s.streams.slots.get i).state = .silent) (hwhy : referenceFailure s e ≠ none) (f : Frame) :
    let x := s.streams.slots.get i
    let d := frameData e.kind (payloadOf f.bytes)
    let u := streamFrame s i e f
    (∃ n, u.streams.slots.get i = { x with
      taken := min (x.taken + 1) 4294967295,
      malformed := if d.isSome = true then x.malformed else min (x.malformed + 1) 4294967295,
      state := .faulty, expected := none, silence := none, thin := n }) ∧
      ∀ j, j ≠ i → u.streams.slots.get j = s.streams.slots.get j := by
  intro x d u
  obtain ⟨why, hwhy⟩ := Option.ne_none_iff_exists'.mp hwhy
  have hframe := streamFrame_fails h hwhy f
  dsimp only at hframe
  obtain ⟨ended, hended⟩ : ∃ y, y = (if x.state = .live then tellEnded (raise (setSlot s i
    { x with state := .faulty, expected := none, silence := none }) .streamFaulty (sourceTurbine e.source) (.slot i)
      [vNat (faultyCode why)]) i e .faulty
    else raise (setSlot s i { x with state := .faulty, expected := none, silence := none }) .streamFaulty
      (sourceTurbine e.source) (.slot i) [vNat (faultyCode why)]) := ⟨_, rfl⟩
  have hothers (j : SlotId) (hj : j ≠ i) : ended.streams.slots.get j = s.streams.slots.get j := by
    rw [hended]
    split_ifs
    · rw [tellEnded_streams, raise_streams, setSlot_get, if_neg hj]
    · rw [raise_streams, setSlot_get, if_neg hj]
  have hu : u = disposeFrame (setSlot ended i { x with
      taken := min (x.taken + 1) 4294967295,
      malformed := if d.isSome = true then x.malformed else min (x.malformed + 1) 4294967295,
      state := .faulty, expected := none, silence := none }) i e f := by
    rw [hended]
    exact hframe
  obtain ⟨n, hn⟩ := disposeFrame_slot (setSlot ended i { x with
      taken := min (x.taken + 1) 4294967295,
      malformed := if d.isSome = true then x.malformed else min (x.malformed + 1) 4294967295,
      state := .faulty, expected := none, silence := none }) i e f
  rw [setSlot_get_same] at hn
  rw [hu]
  exact ⟨⟨n, hn⟩, fun j hj => by rw [disposeFrame_slot_of_ne hj, setSlot_get, if_neg hj, hothers j hj]⟩

/-- The slots behind a frame that makes its slot LIVE. -/
theorem streamFrame_goesLive_slots {s : State} {i : SlotId} {e : StreamEntry}
    (h : (s.streams.slots.get i).state = .idle ∨ (s.streams.slots.get i).state = .silent)
    (hgood : referenceFailure s e = none) (f : Frame) :
    let x := s.streams.slots.get i
    let d := frameData e.kind (payloadOf f.bytes)
    let u := streamFrame s i e f
    (∃ n, u.streams.slots.get i = { x with
      taken := min (x.taken + 1) 4294967295,
      malformed := if d.isSome = true then x.malformed else min (x.malformed + 1) 4294967295,
      state := .live, expected := some (((headerOf f.bytes).seq + 1) % 256), silence := loadTimer e.silence, thin := n }) ∧
      ∀ j, j ≠ i → u.streams.slots.get j = s.streams.slots.get j := by
  intro x d u
  have hslots (y : State) (hy : y.streams = (setSlot s i { x with
      taken := min (x.taken + 1) 4294967295,
      malformed := if d.isSome = true then x.malformed else min (x.malformed + 1) 4294967295,
      state := .live, expected := some (((headerOf f.bytes).seq + 1) % 256), silence := loadTimer e.silence }).streams)
      (hu : u = handOn y i e f d) :
      (∃ n, u.streams.slots.get i = { x with
        taken := min (x.taken + 1) 4294967295,
        malformed := if d.isSome = true then x.malformed else min (x.malformed + 1) 4294967295,
        state := .live, expected := some (((headerOf f.bytes).seq + 1) % 256), silence := loadTimer e.silence, thin := n }) ∧
        ∀ j, j ≠ i → u.streams.slots.get j = s.streams.slots.get j := by
    obtain ⟨⟨n, hn⟩, hothers⟩ := handOn_slot y i e f d
    rw [hy, setSlot_get_same] at hn
    rw [hu]
    exact ⟨⟨n, hn⟩, fun j hj => by rw [hothers j hj, hy, setSlot_get, if_neg hj]⟩
  rcases h with h | h
  · exact hslots _ (tellLive_streams _ _ _) (streamFrame_idle h hgood f)
  · exact hslots _ (by rw [tellLive_streams, raise_streams]) (streamFrame_silent h hgood f)

/-- A sample-bearing frame of Port U whose key no slot holds. -/
theorem receive_unknown {s : State} {bytes : List Byte} (hr : receives s .u = true) (hgood : frameGood bytes = true)
    (h1 : 1 ≤ (headerOf bytes).kind) (h3 : (headerOf bytes).kind ≤ 3)
    (hnone : ∀ i e, (s.streams.slots.get i).state ≠ .empty → entryAt s i = some e →
      ¬ (e.source = (headerOf bytes).source ∧ e.channel = (headerOf bytes).channel)) :
    let f : Frame := { bytes := bytes }
    let c := exec (.receiveFrame .u bytes) s
    let unknown : State := { s with streams := { s.streams with unknown := min (s.streams.unknown + 1) 4294967295 } }
    (s.active.settings.policy = .forward → c = .next (settle (offerTransit unknown .d f))) ∧
      (s.active.settings.policy = .discard → c = .next (settle unknown)) := by
  intro f c unknown
  have hc : c = .next (settle (byPolicy unknown f)) := by
    have hclassify := classify_unknown (f := f) (findSlot_none hnone)
    rw [show c = .next (settle (classify s f)) from exec_receiveFrame_sample hr hgood h1 h3, hclassify, unknownFrame, bump_eq]
  exact ⟨fun h => by rw [hc, byPolicy_forward (s := unknown) h], fun h => by rw [hc, byPolicy_discard (s := unknown) h]⟩

/-- A sample-bearing frame of Port U whose key one slot holds. -/
theorem receive_found {s : State} {bytes : List Byte} (hr : receives s .u = true) (hgood : frameGood bytes = true)
    (h1 : 1 ≤ (headerOf bytes).kind) (h3 : (headerOf bytes).kind ≤ 3) {i : SlotId} {e : StreamEntry}
    (hstate : (s.streams.slots.get i).state ≠ .empty) (he : entryAt s i = some e)
    (hsource : e.source = (headerOf bytes).source) (hchannel : e.channel = (headerOf bytes).channel)
    (hunique : ∀ j e', (s.streams.slots.get j).state ≠ .empty → entryAt s j = some e' →
      e'.source = (headerOf bytes).source → e'.channel = (headerOf bytes).channel → j = i) :
    let f : Frame := { bytes := bytes }
    let c := exec (.receiveFrame .u bytes) s
    let mismatched : State :=
      { s with streams := { s.streams with mismatched := min (s.streams.mismatched + 1) 4294967295 } }
    (streamKindCode e.kind ≠ (headerOf bytes).kind →
      (s.active.settings.policy = .forward → c = .next (settle (offerTransit mismatched .d f))) ∧
      (s.active.settings.policy = .discard → c = .next (settle mismatched))) ∧
    (streamKindCode e.kind = (headerOf bytes).kind → c = .next (settle (streamFrame s i e f))) := by
  intro f c mismatched
  have hfind : findSlot s (headerOf f.bytes).source (headerOf f.bytes).channel = some i :=
    findSlot_of_unique hstate he hsource hchannel hunique
  have hc : c = .next (settle (classify s f)) := exec_receiveFrame_sample hr hgood h1 h3
  refine ⟨fun hkind => ?_, fun hkind => by rw [hc, classify_stream hfind he hkind]⟩
  rw [hc, classify_mismatched hfind he hkind, mismatchedFrame, bump_eq]
  exact ⟨fun h => by rw [byPolicy_forward (s := mismatched) h], fun h => by rw [byPolicy_discard (s := mismatched) h]⟩

/-- A frame handed on, and its dispositions. -/
theorem handOn_cases (s : State) (i : SlotId) (e : StreamEntry) (f : Frame) :
    let x := s.streams.slots.get i
    (∀ v, handOn s i e f (some v) = disposeFrame (tellData s i e (headerOf f.bytes).stamp v) i e f) ∧
    handOn s i e f none = disposeFrame (tellGap s i e) i e f ∧
    (e.disposition = .pass → disposeFrame s i e f = offerTransit s .d f) ∧
    (e.disposition = .take → disposeFrame s i e f = s) ∧
    (e.disposition = .thin → e.thinN ≤ x.thin + 1 →
      disposeFrame s i e f = offerTransit (setSlot s i { x with thin := 0 }) .d f) ∧
    (e.disposition = .thin → x.thin + 1 < e.thinN → disposeFrame s i e f = setSlot s i { x with thin := x.thin + 1 }) :=
  ⟨fun _ => rfl, rfl, fun h => disposeFrame_pass h s i f, fun h => disposeFrame_take h s i f,
    fun h hn => disposeFrame_thin_forward h hn f, fun h hn => disposeFrame_thin_count h hn f⟩

/-- Settles O32, from the sequence check, the matching, the reference check and the frame of each stream state. -/
theorem sequenceCheckHasThreeCases : Obligations.SequenceCheckHasThreeCases := by
  refine ⟨fun s i e f d ex hex _ => liveFrame_cases e f d hex, fun s bytes hr hgood h1 h3 => ?_,
    referenceFailure_ne_none_iff, handOn_cases, fun s bytes hr hgood h1 h3 => ?_⟩
  · intro h f c unknown mismatched
    refine ⟨fun hnone => receive_unknown hr hgood h1 h3 hnone, fun i e hstate he hsource hchannel hunique => ?_⟩
    obtain ⟨hmismatched, hstream⟩ := receive_found hr hgood h1 h3 hstate he hsource hchannel hunique
    intro x data malformed counted
    refine ⟨hmismatched, fun hkind => ?_⟩
    have hc : c = .next (settle (streamFrame s i e f)) := hstream hkind
    rw [hc]
    refine ⟨fun hx => ?_, fun hx hd => ?_, fun hx hd => ?_, fun hx hd => ⟨fun hn => ?_, fun hn => ?_⟩,
      fun hx hwhy => ?_, fun hx hgood => ?_, fun hx hgood => ?_, fun hx hgood hrole htake => ?_⟩
    · rw [streamFrame_held hx]
    · rw [streamFrame_faulty hx, disposeFrame_pass hd]
    · rw [streamFrame_faulty hx, disposeFrame_take hd]
    · rw [streamFrame_faulty hx, disposeFrame_thin_forward hd (by rw [setSlot_get_same]; exact hn), setSlot_get_same,
        setSlot_setSlot]
    · rw [streamFrame_faulty hx, disposeFrame_thin_count hd (by rw [setSlot_get_same]; exact hn), setSlot_get_same,
        setSlot_setSlot]
    · obtain ⟨⟨n, hn⟩, hothers⟩ := streamFrame_fails_slots hx hwhy f
      refine ⟨_, rfl, ?_⟩
      rw [hn]
      exact ⟨rfl, rfl, rfl, rfl, rfl, rfl, hothers⟩
    · rw [streamFrame_live hx hgood]
    · obtain ⟨⟨n, hn⟩, hothers⟩ := streamFrame_goesLive_slots hx hgood f
      refine ⟨_, rfl, ?_⟩
      rw [hn]
      exact ⟨rfl, rfl, rfl, rfl, rfl, rfl, rfl, rfl, hothers⟩
    · rw [streamFrame_silent hx hgood, (tell_plain hrole _ i).1, handOn_plain_take hrole htake]
  · intro h f c i e hstate he hsource hchannel hunique hkind x data counted live failed
    obtain ⟨-, hstream⟩ := receive_found hr hgood h1 h3 hstate he hsource hchannel hunique
    have hc : c = .next (settle (streamFrame s i e f)) := hstream hkind
    rw [hc]
    refine ⟨fun hx => ?_, fun hx why hwhy => ?_, fun hx hgood => ?_, fun hx hgood => ?_⟩
    · rw [streamFrame_faulty hx]
    · rw [streamFrame_fails hx hwhy]
      cases why <;> rfl
    · rw [streamFrame_idle hx hgood]
    · rw [streamFrame_silent hx hgood]

end Sys2Proof.Machine
end

section
/-! PROOF. The Speed Tracker: edges, boundaries, judgements and the notices of the TACH stream (R37 to R51). -/

namespace Sys2Proof.Machine

/-! ## The speed record written (R37) -/

/-- The state with a turbine's speed record written. -/
def setSpeed (s : State) (t : Tid) (x : SpeedRec) : State := { s with speeds := put s.speeds t x }

/-- A record changed by a function is the record written. -/
theorem updSpeed_eq_setSpeed (s : State) (t : Tid) (f : SpeedRec → SpeedRec) :
    updSpeed s t f = setSpeed s t (f (s.speeds.get t)) := rfl

/-- The record written, read. -/
@[simp] theorem setSpeed_get (s : State) (t : Tid) (x : SpeedRec) : (setSpeed s t x).speeds.get t = x := by
  rw [setSpeed, get_put, if_pos rfl]

/-- Of two writes the second stands. -/
@[simp] theorem setSpeed_setSpeed (s : State) (t : Tid) (x y : SpeedRec) : setSpeed (setSpeed s t x) t y = setSpeed s t y := by
  unfold setSpeed
  rw [put_put]

/-- The active tables behind a write. -/
@[simp] theorem setSpeed_active (s : State) (t : Tid) (x : SpeedRec) : (setSpeed s t x).active = s.active := rfl

/-- What writes the Vibration Watch only leaves the speeds. -/
theorem OnlyVib.speeds {s u : State} (h : OnlyVib s u) : u.speeds = s.speeds := by
  obtain ⟨_, _, _, rfl⟩ := h
  rfl

/-- A slip told leaves the speeds. -/
theorem vibSlip_speeds (s : State) (t : Tid) : (vibSlip s t).speeds = s.speeds := (vibSlip_only s t).speeds

/-! ## Slips (R41, R48) -/

/-- One of the first two slips in a row in TRACKING. -/
theorem slipInTracking_of_few {s : State} {t : Tid} (h : (s.speeds.get t).consecSlips + 1 < 3) (count expected : Nat) :
    slipInTracking s t count expected =
      vibSlip (setSpeed s t { s.speeds.get t with consecSlips := (s.speeds.get t).consecSlips + 1 }) t := by
  unfold slipInTracking
  dsimp only
  rw [vibSlip_speeds, updSpeed_eq_setSpeed, setSpeed_get, if_neg (Nat.not_le.mpr h)]

/-- The third slip in a row in TRACKING. -/
theorem slipInTracking_of_third {s : State} {t : Tid} (h : 3 ≤ (s.speeds.get t).consecSlips + 1) (count expected : Nat) :
    let slipped : SpeedRec := { s.speeds.get t with consecSlips := (s.speeds.get t).consecSlips + 1 }
    let told := vibSlip (setSpeed s t slipped) t
    slipInTracking s t count expected = vibTrackingLost (raise
      (setSpeed told t { slipped with state := .unreliable, goodRun := 0 })
      .speedUnreliable (some (tnum t)) .none [vNat count, vNat expected, vNat slipped.slips]) t := by
  intro slipped told
  have htold : told.speeds.get t = slipped := by
    simp only [told, vibSlip_speeds, setSpeed_get]
  unfold slipInTracking
  dsimp only
  rw [updSpeed_eq_setSpeed]
  change (if 3 ≤ (told.speeds.get t).consecSlips then becomeUnreliable told t count expected else told) = _
  rw [if_pos (by rw [htold]; exact h), becomeUnreliable]
  rw [updSpeed_eq_setSpeed, htold, setSpeed_get]

/-! ## Judged revolutions (R44 to R49) -/

/-- What judging a revolution does, by the speed state. -/
theorem judge_of_state {s : State} {t : Tid} (b ref : Time) (count expected : Nat) :
    ((s.speeds.get t).state = .acquiring →
      judge s t b ref count expected = judgeAcquiring s t b ref (decide (count = expected))) ∧
    ((s.speeds.get t).state = .unreliable →
      judge s t b ref count expected = judgeUnreliable s t b ref (decide (count = expected))) ∧
    ((s.speeds.get t).state = .tracking → count = expected →
      judge s t b ref count expected = goodInTracking s t b ref) ∧
    ((s.speeds.get t).state = .tracking → count ≠ expected →
      judge s t b ref count expected = slipInTracking (updSpeed s t countSlip) t count expected) ∧
    ((s.speeds.get t).state = .stopped ∨ (s.speeds.get t).state = .noSignal → judge s t b ref count expected = s) := by
  unfold judge
  refine ⟨fun h => ?_, fun h => ?_, fun h hc => ?_, fun h hc => ?_, fun h => ?_⟩
  · rw [h]
  · rw [h]
  · rw [h]
    exact if_pos (decide_eq_true hc)
  · rw [h]
    exact if_neg (by simpa using hc)
  · rcases h with h | h <;> rw [h]

/-- The step check of a good revolution. -/
theorem isStep_iff (tolerance held new : Nat) :
    isStep tolerance held new = true ↔ tolerance * held < ((new : Int) - (held : Int)).natAbs * 100 := by
  rw [isStep, decide_eq_true_eq]

/-- A good revolution in TRACKING that is a step. -/
theorem goodInTracking_of_step {s : State} {t : Tid} {b ref : Time}
    (h : isStep s.active.settings.tolerance ((s.speeds.get t).speed.getD 0) (speedBetween b ref) = true) :
    let r := s.speeds.get t
    goodInTracking s t b ref = countRevolution (vibRevolution (setSpeed (requestBlanking (vibStep s t) t) t { r with
      period := some (periodOf b ref), speed := some (speedBetween b ref), consecSlips := 0 }) t b true) t := by
  intro r
  have hspeeds : (requestBlanking (vibStep s t) t).speeds = s.speeds := by
    obtain ⟨-, -, -, -, -, hblanked, -⟩ := requestBlanking_fields (vibStep s t) t
    rw [hblanked, (vibStep_only s t).speeds]
  unfold goodInTracking
  dsimp only
  rw [h, if_pos rfl, updSpeed_eq_setSpeed, hspeeds]
  rfl

/-- A good revolution in TRACKING that is no step. -/
theorem goodInTracking_of_steady {s : State} {t : Tid} {b ref : Time}
    (h : isStep s.active.settings.tolerance ((s.speeds.get t).speed.getD 0) (speedBetween b ref) = false) :
    let r := s.speeds.get t
    goodInTracking s t b ref = countRevolution (vibRevolution (setSpeed s t { r with
      period := some (periodOf b ref), speed := some (speedBetween b ref), consecSlips := 0 }) t b false) t := by
  intro r
  unfold goodInTracking
  dsimp only
  rw [h, if_neg (by simp)]
  rfl

/-- A correct count in ACQUIRING. -/
theorem judgeAcquiring_good (s : State) (t : Tid) (b ref : Time) :
    let r := s.speeds.get t
    judgeAcquiring s t b ref true = vibBoundary (setSpeed s t { r with
      period := some (periodOf b ref), speed := some (speedBetween b ref), consecSlips := 0, state := .tracking,
      lost := min (r.lost + 1) 4294967295 }) t b := by
  unfold judgeAcquiring
  rw [if_pos rfl, updSpeed_eq_setSpeed, goodRevolution, bump_eq]

/-- A wrong count in ACQUIRING. -/
theorem judgeAcquiring_bad (s : State) (t : Tid) (b ref : Time) :
    let r := s.speeds.get t
    judgeAcquiring s t b ref false = setSpeed s t { r with
      slips := min (r.slips + 1) 4294967295, lost := min (r.lost + 1) 4294967295 } := by
  unfold judgeAcquiring
  rw [if_neg (by simp), updSpeed_eq_setSpeed, countSlip, bump_eq, bump_eq]

/-- A wrong count in UNRELIABLE. -/
theorem judgeUnreliable_bad (s : State) (t : Tid) (b ref : Time) :
    let r := s.speeds.get t
    judgeUnreliable s t b ref false = setSpeed s t { r with
      slips := min (r.slips + 1) 4294967295, lost := min (r.lost + 1) 4294967295, goodRun := 0 } := by
  unfold judgeUnreliable
  rw [if_neg (by simp), updSpeed_eq_setSpeed, countSlip, bump_eq, bump_eq]

/-- A correct count in UNRELIABLE short of the eighth. -/
theorem judgeUnreliable_good {s : State} {t : Tid} (h : (s.speeds.get t).goodRun + 1 < 8) (b ref : Time) :
    let r := s.speeds.get t
    judgeUnreliable s t b ref true = setSpeed s t { r with
      period := some (periodOf b ref), speed := some (speedBetween b ref), goodRun := r.goodRun + 1,
      lost := min (r.lost + 1) 4294967295 } := by
  intro r
  unfold judgeUnreliable
  rw [if_pos rfl, updSpeed_eq_setSpeed]
  dsimp only
  rw [setSpeed_get, if_neg (Nat.not_le.mpr h), goodRevolution, bump_eq]

/-- The eighth correct count in UNRELIABLE. -/
theorem judgeUnreliable_regained {s : State} {t : Tid} (h : 8 ≤ (s.speeds.get t).goodRun + 1) (b ref : Time) :
    let r := s.speeds.get t
    judgeUnreliable s t b ref true = vibBoundary (raise (setSpeed s t { r with
      period := some (periodOf b ref), speed := some (speedBetween b ref), goodRun := 0, consecSlips := 0,
      state := .tracking, lost := min (r.lost + 1) 4294967295 })
      .speedRegained (some (tnum t)) .none [vNat (speedBetween b ref)]) t b := by
  intro r
  unfold judgeUnreliable
  rw [if_pos rfl, updSpeed_eq_setSpeed]
  dsimp only
  rw [setSpeed_get, if_pos h, updSpeed_eq_setSpeed, setSpeed_get, setSpeed_setSpeed, goodRevolution, bump_eq]

/-- The speed record behind a slip in TRACKING. -/
theorem slipInTracking_speed (s : State) (t : Tid) (count expected : Nat) :
    let r := s.speeds.get t
    ∃ n, (slipInTracking s t count expected).speeds.get t = { r with
      consecSlips := r.consecSlips + 1, state := if 3 ≤ r.consecSlips + 1 then .unreliable else r.state, goodRun := n } := by
  intro r
  by_cases h : 3 ≤ r.consecSlips + 1
  · refine ⟨0, ?_⟩
    rw [slipInTracking_of_third h, (vibTrackingLost_only _ t).speeds, raise_speeds, setSpeed_get, if_pos h]
  · refine ⟨r.goodRun, ?_⟩
    rw [slipInTracking_of_few (Nat.not_le.mp h), vibSlip_speeds, setSpeed_get, if_neg h]

/-- A wrong count in TRACKING: what it leaves and writes of the speed record. -/
theorem judge_slip {s : State} {t : Tid} (htracking : (s.speeds.get t).state = .tracking) {count expected : Nat}
    (hc : count ≠ expected) (b ref : Time) :
    let r := s.speeds.get t
    let r' := (judge s t b ref count expected).speeds.get t
    r'.slips = min (r.slips + 1) 4294967295 ∧ r'.lost = min (r.lost + 1) 4294967295 ∧ r'.consecSlips = r.consecSlips + 1 ∧
      r'.speed = r.speed ∧ r'.period = r.period ∧
      r'.state = (if 3 ≤ r.consecSlips + 1 then .unreliable else .tracking) := by
  intro r r'
  obtain ⟨-, -, -, hslip, -⟩ := judge_of_state (s := s) (t := t) b ref count expected
  obtain ⟨n, hn⟩ := slipInTracking_speed (updSpeed s t countSlip) t count expected
  rw [← hslip htracking hc, updSpeed_eq_setSpeed, setSpeed_get, countSlip, bump_eq, bump_eq] at hn
  have hr : r' = _ := hn
  rw [hr, htracking]
  exact ⟨rfl, rfl, rfl, rfl, rfl, rfl⟩

/-- The judgement of a revolution, state by state. -/
theorem judge_cases (s : State) (t : Tid) (b ref : Time) (count expected : Nat) :
    let r := s.speeds.get t
    let v := judge s t b ref count expected
    let one (n : Nat) := min (n + 1) 4294967295
    let good : SpeedRec := { r with period := some (periodOf b ref), speed := some (speedBetween b ref) }
    let u (x : SpeedRec) : State := { s with speeds := put s.speeds t x }
    (r.state = .acquiring → count = expected →
      v = vibBoundary (u { good with consecSlips := 0, state := .tracking, lost := one r.lost }) t b) ∧
    (r.state = .acquiring → count ≠ expected → v = u { r with slips := one r.slips, lost := one r.lost }) ∧
    (r.state = .unreliable → count ≠ expected →
      v = u { r with slips := one r.slips, lost := one r.lost, goodRun := 0 }) ∧
    (r.state = .unreliable → count = expected → r.goodRun + 1 < 8 →
      v = u { good with goodRun := r.goodRun + 1, lost := one r.lost }) ∧
    (r.state = .unreliable → count = expected → 8 ≤ r.goodRun + 1 →
      v = vibBoundary (raise (u { good with goodRun := 0, consecSlips := 0, state := .tracking, lost := one r.lost })
        .speedRegained (some (tnum t)) .none [vNat (speedBetween b ref)]) t b) ∧
    (r.state = .tracking → count = expected →
      let held := r.speed.getD 0
      let step := s.active.settings.tolerance * held < ((speedBetween b ref : Int) - (held : Int)).natAbs * 100
      let told := requestBlanking (vibStep s t) t
      let counted (x : State) := { x with speeds := put x.speeds t { good with consecSlips := 0 } }
      (step → v = countRevolution (vibRevolution (counted told) t b true) t) ∧
      (¬ step → v = countRevolution (vibRevolution (counted s) t b false) t)) ∧
    (r.state = .tracking → count ≠ expected →
      let slipped : SpeedRec := { r with slips := one r.slips, lost := one r.lost, consecSlips := r.consecSlips + 1 }
      let told := vibSlip (u slipped) t
      (r.consecSlips + 1 < 3 → v = told) ∧
      (3 ≤ r.consecSlips + 1 → v = vibTrackingLost (raise
        { told with speeds := put told.speeds t { slipped with state := .unreliable, goodRun := 0 } }
        .speedUnreliable (some (tnum t)) .none [vNat count, vNat expected, vNat slipped.slips]) t)) ∧
    (r.state = .stopped ∨ r.state = .noSignal → v = s) := by
  intro r v one good u
  obtain ⟨hacquiring, hunreliable, htracking, hslip, hidle⟩ := judge_of_state (s := s) (t := t) b ref count expected
  refine ⟨fun h hc => ?_, fun h hc => ?_, fun h hc => ?_, fun h hc hrun => ?_, fun h hc hrun => ?_, fun h hc => ?_,
    fun h hc => ?_, hidle⟩
  · exact (hacquiring h).trans (by rw [decide_eq_true hc]; exact judgeAcquiring_good s t b ref)
  · exact (hacquiring h).trans (by rw [decide_eq_false hc]; exact judgeAcquiring_bad s t b ref)
  · exact (hunreliable h).trans (by rw [decide_eq_false hc]; exact judgeUnreliable_bad s t b ref)
  · exact (hunreliable h).trans (by rw [decide_eq_true hc]; exact judgeUnreliable_good hrun b ref)
  · exact (hunreliable h).trans (by rw [decide_eq_true hc]; exact judgeUnreliable_regained hrun b ref)
  · intro held step told counted
    exact ⟨fun hstep => (htracking h hc).trans (goodInTracking_of_step ((isStep_iff _ _ _).mpr hstep)),
      fun hstep => (htracking h hc).trans (goodInTracking_of_steady (Bool.eq_false_iff.mpr (mt (isStep_iff _ _ _).mp hstep)))⟩
  · intro slipped told
    have hjudge : v = slipInTracking (setSpeed s t { r with slips := one r.slips, lost := one r.lost }) t count expected := by
      refine (hslip h hc).trans ?_
      rw [updSpeed_eq_setSpeed, countSlip, bump_eq, bump_eq]
    refine ⟨fun hfew => ?_, fun hthird => ?_⟩
    · rw [hjudge, slipInTracking_of_few (by rw [setSpeed_get]; exact hfew), setSpeed_get, setSpeed_setSpeed]
      rfl
    · rw [hjudge, slipInTracking_of_third (by rw [setSpeed_get]; exact hthird), setSpeed_get, setSpeed_setSpeed]
      rfl

/-! ## Periods, boundaries and times (R39, R41, R46) -/

/-- The period and the speed of a difference that the field can hold. -/
theorem periodOf_of_fits {b ref : Time} (h1 : 1 ≤ usDiff b ref) (h2 : usDiff b ref ≤ 4294967295) :
    (periodOf b ref : Int) = usDiff b ref ∧ speedBetween b ref = min (600000000 / (usDiff b ref).toNat) 65535 := by
  refine ⟨?_, ?_⟩
  · rw [periodOf, if_pos ⟨h1, h2⟩, Int.toNat_of_nonneg (by omega)]
  · rw [speedBetween, if_pos h1, speedOf]

/-- A boundary: the revolution judged where a reference is held, then the boundary the reference. -/
theorem boundaryAt_cases (s : State) (t : Tid) (b : Time) (expected : Nat) :
    let r := s.speeds.get t
    let mark (x : State) : State := setSpeed x t { x.speeds.get t with reference := some b, edges := 0 }
    (r.reference = none → boundaryAt s t b expected = mark s) ∧
      (∀ ref, r.reference = some ref → boundaryAt s t b expected = mark (judge s t b ref r.edges expected)) := by
  unfold boundaryAt
  refine ⟨fun h => ?_, fun ref h => ?_⟩
  · rw [h]
    rfl
  · rw [h]
    rfl

/-- A revolution counted. -/
theorem countRevolution_cases (s : State) (t : Tid) :
    let x := s.usage.get t
    (x.revSub + 1 ≠ 1000 → countRevolution s t = { s with usage := put s.usage t { x with revSub := x.revSub + 1 } }) ∧
      (x.revSub + 1 = 1000 →
        countRevolution s t = advanceMain { s with usage := put s.usage t { x with revSub := 0 } } t .krev) := by
  unfold countRevolution
  exact ⟨fun h => if_neg h, fun h => if_pos h⟩

/-- The stamps' difference: their difference modulo 2^32, read as signed. -/
theorem stampDiff_spec {a : Nat} (ha : a < 4294967296) (b : Nat) :
    -2147483648 ≤ stampDiff a b ∧ stampDiff a b ≤ 2147483647 ∧
      (stampDiff a b - ((a : Int) - (b : Int))) % 4294967296 = 0 := by
  unfold stampDiff
  dsimp only
  split_ifs <;> omega

/-- Two edge times differ by their stamps' difference and their offsets'. -/
theorem timeDiff_edges (a b x y : Nat) : timeDiff { stamp := a, sub := x * 16 } { stamp := b, sub := y * 16 } =
    16 * (1000 * stampDiff a b + (x : Int) - (y : Int)) := by
  unfold timeDiff
  push_cast
  ring

/-! ## Edges (R38 to R42, R50) -/

/-- Which polarities are counted. -/
theorem polarityCounted_iff (edges : CountedEdges) (p : Polarity) : polarityCounted edges p = true ↔
    edges = .both ∨ (edges = .rising ∧ p = .rising) ∨ (edges = .falling ∧ p = .falling) := by
  cases edges <;> cases p <;> decide

/-- An edge record, by each sort. -/
theorem takeEdge_of_sort (s : State) (t : Tid) (e : StreamEntry) (stamp : Nat) (x : EdgeRec) :
    (sortOf e x = .marker → takeEdge t e stamp s x = takeMarker s t (edgeTime stamp x) (expectedCount e)) ∧
      (sortOf e x = .counted → takeEdge t e stamp s x = takeCounted s t e (edgeTime stamp x)) ∧
      (sortOf e x = .ignored → takeEdge t e stamp s x = s) := by
  refine ⟨fun h => ?_, fun h => ?_, fun h => ?_⟩ <;> rw [takeEdge, h]

/-- An edge record by its flag and its polarity. -/
theorem takeEdge_cases (s : State) (t : Tid) (e : StreamEntry) (stamp : Nat) (x : EdgeRec) :
    let expected := if e.edges = .both then 2 * e.pulses else e.pulses
    let at_ : Time := { stamp := stamp, sub := x.offset * 16 }
    let counts := e.edges = .both ∨ (e.edges = .rising ∧ x.polarity = .rising) ∨ (e.edges = .falling ∧ x.polarity = .falling)
    let c := takeEdge t e stamp s x
    (x.marker = true → e.markerPresent = true → x.polarity = e.markerPolarity → c = takeMarker s t at_ expected) ∧
    (x.marker = true → e.markerPresent = false ∨ x.polarity ≠ e.markerPolarity → c = s) ∧
    (x.marker = false → counts → c = takeCounted s t e at_) ∧
    (x.marker = false → ¬ counts → c = s) := by
  intro expected at_ counts c
  obtain ⟨hmarker, hcounted, hignored⟩ := takeEdge_of_sort s t e stamp x
  have hcounts : polarityCounted e.edges x.polarity = true ↔ counts := polarityCounted_iff _ _
  refine ⟨fun hm hp hpol => hmarker ?_, fun hm hp => hignored ?_, fun hm hc => hcounted ?_, fun hm hc => hignored ?_⟩
  · rw [sortOf, if_pos hm, if_pos ⟨hp, hpol⟩]
  · rw [sortOf, if_pos hm, if_neg]
    rintro ⟨hpresent, hpol⟩
    rcases hp with hp | hp
    · simp [hp] at hpresent
    · exact hp hpol
  · rw [sortOf, if_neg (by simp [hm]), if_pos (hcounts.mpr hc)]
  · rw [sortOf, if_neg (by simp [hm]), if_neg (mt hcounts.mp hc)]

/-- When an edge is disorder against the last of its sort. -/
theorem disordered_iff (last : Option Time) (b : Time) :
    disordered last b = true ↔ ∃ l, last = some l ∧ timeDiff b l ≤ 0 := by
  cases last <;> simp [disordered]

/-- When a counted edge is too close to the last one. -/
theorem tooClose_iff (spacing : Nat) (last : Option Time) (b : Time) :
    tooClose spacing last b = true ↔ ∃ l, last = some l ∧ timeDiff b l < (spacing : Int) * 16 := by
  cases last <;> simp [tooClose]

/-- A marker: disorder, or a boundary. -/
theorem takeMarker_cases (s : State) (t : Tid) (b : Time) (expected : Nat) :
    let r := s.speeds.get t
    let u (x : SpeedRec) : State := { s with speeds := put s.speeds t x }
    (∀ l, r.lastMarker = some l → timeDiff b l ≤ 0 →
      takeMarker s t b expected = u { r with disorderRejects := min (r.disorderRejects + 1) 4294967295 }) ∧
    ((∀ l, r.lastMarker = some l → 0 < timeDiff b l) →
      takeMarker s t b expected = boundaryAt (u { r with lastMarker := some b }) t b expected) := by
  intro r u
  refine ⟨fun l hl hle => ?_, fun h => ?_⟩
  · rw [takeMarker, if_pos ((disordered_iff _ _).mpr ⟨l, hl, hle⟩), updSpeed_eq_setSpeed, bump_eq]
    rfl
  · have hnot : ¬ disordered r.lastMarker b = true := by
      rw [disordered_iff]
      rintro ⟨l, hl, hle⟩
      exact absurd (h l hl) (not_lt.mpr hle)
    rw [takeMarker, if_neg hnot, updSpeed_eq_setSpeed]
    rfl

/-- The record that an accepted counted edge leaves. -/
theorem acceptCounted_eq (stop : Timer) (b : Time) (r : SpeedRec) : acceptCounted stop b r = { r with
    state := if r.state = .stopped then .acquiring else r.state, speed := if r.state = .stopped then none else r.speed,
    lastCounted := some b, stopTimer := stop, edges := if r.reference = none then r.edges else r.edges + 1 } := by
  unfold acceptCounted
  by_cases hs : r.state = .stopped <;> cases hr : r.reference <;> simp [hs, hr]

/-- An accepted counted edge, by whether the entry has a marker. -/
theorem actCounted_cases (s : State) (t : Tid) (e : StreamEntry) (b : Time) :
    let r := s.speeds.get t
    let expected := if e.edges = .both then 2 * e.pulses else e.pulses
    (e.markerPresent = true → r.reference ≠ none → r.edges = 2 * expected →
      actCounted s t e b = missingMarker s t r.edges expected) ∧
    (e.markerPresent = true → r.reference = none ∨ r.edges ≠ 2 * expected → actCounted s t e b = s) ∧
    (e.markerPresent = false → r.reference = none ∨ r.edges = expected → actCounted s t e b = boundaryAt s t b expected) ∧
    (e.markerPresent = false → r.reference ≠ none → r.edges ≠ expected → actCounted s t e b = s) := by
  intro r expected
  have hpresent (h : e.markerPresent = true) : actCounted s t e b =
      if r.reference.isSome = true ∧ r.edges = 2 * expected then missingMarker s t r.edges expected else s := if_pos h
  have habsent (h : e.markerPresent = false) : actCounted s t e b =
      if r.reference.isNone = true ∨ r.edges = expected then boundaryAt s t b expected else s := if_neg (by simp [h])
  rw [← Option.isSome_iff_ne_none, ← Option.isNone_iff_eq_none]
  refine ⟨fun h hr hn => (hpresent h).trans (if_pos ⟨hr, hn⟩), fun h hor => (hpresent h).trans (if_neg ?_),
    fun h hor => (habsent h).trans (if_pos hor), fun h hr hn => (habsent h).trans (if_neg ?_)⟩
  · rintro ⟨hr, hn⟩
    rcases hor with hor | hor
    · simp [Option.isNone_iff_eq_none.mp hor] at hr
    · exact hor hn
  · rintro (hor | hor)
    · simp [Option.isNone_iff_eq_none.mp hor] at hr
    · exact hn hor

/-- A counted edge: disorder, too close, or accepted. -/
theorem takeCounted_cases (s : State) (t : Tid) (e : StreamEntry) (b : Time) :
    let r := s.speeds.get t
    let u (x : SpeedRec) : State := { s with speeds := put s.speeds t x }
    let expected := if e.edges = .both then 2 * e.pulses else e.pulses
    let c := takeCounted s t e b
    let n := if r.reference = none then r.edges else r.edges + 1
    let taken : SpeedRec := { r with
      state := if r.state = .stopped then .acquiring else r.state, speed := if r.state = .stopped then none else r.speed,
      lastCounted := some b, stopTimer := loadTimer s.active.settings.stopTime, edges := n }
    (∀ l, r.lastCounted = some l → timeDiff b l ≤ 0 →
      c = u { r with disorderRejects := min (r.disorderRejects + 1) 4294967295 }) ∧
    (∀ l, r.lastCounted = some l → 0 < timeDiff b l → timeDiff b l < (e.spacing : Int) * 16 →
      c = u { r with spacingRejects := min (r.spacingRejects + 1) 4294967295 }) ∧
    ((∀ l, r.lastCounted = some l → 0 < timeDiff b l ∧ (e.spacing : Int) * 16 ≤ timeDiff b l) →
      (e.markerPresent = true → r.reference ≠ none → n = 2 * expected → c = missingMarker (u taken) t n expected) ∧
      (e.markerPresent = true → r.reference = none ∨ n ≠ 2 * expected → c = u taken) ∧
      (e.markerPresent = false → r.reference = none ∨ n = expected → c = boundaryAt (u taken) t b expected) ∧
      (e.markerPresent = false → r.reference ≠ none → n ≠ expected → c = u taken)) := by
  intro r u expected c n taken
  refine ⟨fun l hl hle => ?_, fun l hl hlt hclose => ?_, fun h => ?_⟩
  · exact (if_pos ((disordered_iff _ _).mpr ⟨l, hl, hle⟩)).trans (by rw [updSpeed_eq_setSpeed, bump_eq]; rfl)
  · have hnot : ¬ disordered r.lastCounted b = true := by
      rw [disordered_iff]
      rintro ⟨l', hl', hle⟩
      obtain rfl := Option.some.inj (hl.symm.trans hl')
      exact absurd hlt (not_lt.mpr hle)
    have hclose : tooClose e.spacing r.lastCounted b = true := (tooClose_iff _ _ _).mpr ⟨l, hl, hclose⟩
    exact ((if_neg hnot).trans (if_pos hclose)).trans (by rw [updSpeed_eq_setSpeed, bump_eq]; rfl)
  · have hnot : ¬ disordered r.lastCounted b = true := by
      rw [disordered_iff]
      rintro ⟨l, hl, hle⟩
      exact absurd (h l hl).1 (not_lt.mpr hle)
    have hfar : ¬ tooClose e.spacing r.lastCounted b = true := by
      rw [tooClose_iff]
      rintro ⟨l, hl, hclose⟩
      exact absurd (h l hl).2 (not_le.mpr hclose)
    have hc : c = actCounted (setSpeed s t taken) t e b := by
      refine ((if_neg hnot).trans (if_neg hfar)).trans ?_
      rw [updSpeed_eq_setSpeed, acceptCounted_eq]
      rfl
    have hact := actCounted_cases (setSpeed s t taken) t e b
    dsimp only at hact
    rw [setSpeed_get] at hact
    rw [hc]
    exact hact

/-- What a missing marker does, by the speed state. -/
theorem missingMarker_of_state (s : State) (t : Tid) (count expected : Nat) :
    ((s.speeds.get t).state = .acquiring → missingMarker s t count expected =
      updSpeed s t (fun r => { countSlip r with reference := none, edges := 0 })) ∧
    ((s.speeds.get t).state = .unreliable → missingMarker s t count expected =
      updSpeed (updSpeed s t (fun r => { countSlip r with reference := none, edges := 0 })) t
        (fun r => { r with goodRun := 0 })) ∧
    ((s.speeds.get t).state = .tracking → missingMarker s t count expected =
      slipInTracking (updSpeed s t (fun r => { countSlip r with reference := none, edges := 0 })) t count expected) := by
  unfold missingMarker
  refine ⟨fun h => ?_, fun h => ?_, fun h => ?_⟩ <;> rw [h]

/-- A missing marker: a slip and a lost revolution, told in TRACKING. -/
theorem missingMarker_cases (s : State) (t : Tid) (count expected : Nat) :
    let r := s.speeds.get t
    let u (x : SpeedRec) : State := { s with speeds := put s.speeds t x }
    let one (n : Nat) := min (n + 1) 4294967295
    let missed : SpeedRec := { r with slips := one r.slips, lost := one r.lost, reference := none, edges := 0 }
    let slipped : SpeedRec := { missed with consecSlips := r.consecSlips + 1 }
    let told := vibSlip (u slipped) t
    let c := missingMarker s t count expected
    (r.state = .acquiring → c = u missed) ∧ (r.state = .unreliable → c = u { missed with goodRun := 0 }) ∧
    (r.state = .tracking → r.consecSlips + 1 < 3 → c = told) ∧
    (r.state = .tracking → 3 ≤ r.consecSlips + 1 → c = vibTrackingLost (raise
      { told with speeds := put told.speeds t { slipped with state := .unreliable, goodRun := 0 } }
      .speedUnreliable (some (tnum t)) .none [vNat count, vNat expected, vNat slipped.slips]) t) := by
  intro r u one missed slipped told c
  have hmissed : updSpeed s t (fun r => { countSlip r with reference := none, edges := 0 }) = setSpeed s t missed := by
    rw [updSpeed_eq_setSpeed, countSlip, bump_eq, bump_eq]
  have hof := missingMarker_of_state s t count expected
  rw [hmissed] at hof
  obtain ⟨hacquiring, hunreliable, htracking⟩ := hof
  refine ⟨hacquiring, fun h => (hunreliable h).trans ?_, fun h hfew => (htracking h).trans ?_,
    fun h hthird => (htracking h).trans ?_⟩
  · rw [updSpeed_eq_setSpeed, setSpeed_get, setSpeed_setSpeed]
    rfl
  · rw [slipInTracking_of_few (by rw [setSpeed_get]; exact hfew), setSpeed_get, setSpeed_setSpeed]
    rfl
  · rw [slipInTracking_of_third (by rw [setSpeed_get]; exact hthird), setSpeed_get, setSpeed_setSpeed]
    rfl

/-! ## Notices of the TACH stream (R43, R51) -/

/-- The notices of a TACH stream reach the Speed Tracker. -/
theorem tell_tach (s : State) {t : Tid} (i : SlotId) {e : StreamEntry} (hrole : e.role = .tach) (hsrc : e.source = tnum t) :
    tellLive s i e = speedLive s t ∧ tellGap s i e = speedGap s t ∧ (∀ cause, tellEnded s i e cause = speedEnded s t) ∧
      (∀ stamp xs, tellData s i e stamp (.edges xs) = speedData s t e stamp xs) := by
  have ht : entryTurbine e = some t := by rw [entryTurbine, hsrc, turbineOf_tnum]
  refine ⟨?_, ?_, fun cause => ?_, fun stamp xs => ?_⟩
  · simp only [tellLive, hrole, ht]
  · simp only [tellGap, hrole, ht]
  · simp only [tellEnded, hrole, ht]
  · simp only [tellData, hrole, ht]

/-- What the notices of a TACH stream do. -/
theorem tach_cases (s : State) (t : Tid) (i : SlotId) (e : StreamEntry) (hrole : e.role = .tach) (hsrc : e.source = tnum t) :
    let r := s.speeds.get t
    let u (x : SpeedRec) : State := { s with speeds := put s.speeds t x }
    let fresh : SpeedRec := { r with
      state := .acquiring, reference := none, edges := 0, speed := none, period := none, consecSlips := 0, goodRun := 0,
      stopTimer := loadTimer s.active.settings.stopTime }
    let gone : SpeedRec := { r with
      state := .noSignal, reference := none, lastCounted := none, lastMarker := none, speed := none, period := none, edges := 0,
      consecSlips := 0, goodRun := 0, stopTimer := none }
    let told (x : SpeedRec) := if r.state = .tracking then vibTrackingLost (u x) t else u x
    (r.state = .noSignal → tellLive s i e = u fresh ∧ tellGap s i e = s) ∧
    (r.state ≠ .noSignal → tellGap s i e = told fresh) ∧
    (∀ cause, tellEnded s i e cause = told gone) ∧
    (∀ stamp xs, tellData s i e stamp (.edges xs) = xs.foldl (takeEdge t e stamp) s) := by
  intro r u fresh gone told
  obtain ⟨hlive, hgap, hended, hdata⟩ := tell_tach s i hrole hsrc
  refine ⟨fun h => ⟨hlive.trans (if_pos h), hgap.trans (if_pos h)⟩, fun h => hgap.trans (if_neg h),
    fun cause => (hended cause).trans rfl, fun stamp xs => hdata stamp xs⟩

/-- Settles O39, from the judgements, the boundaries, the edges and the notices one by one. -/
theorem revolutionsAreJudged : Obligations.RevolutionsAreJudged :=
  ⟨fun _ _ b ref _ _ htracking hc => judge_slip htracking hc b ref, judge_cases, fun _ _ h1 h2 => periodOf_of_fits h1 h2,
    boundaryAt_cases, fun s t _ => ⟨rfl, fun _ => rfl, countRevolution_cases s t⟩,
    fun a b x y ha _ => by
      obtain ⟨hlow, hhigh, hmod⟩ := stampDiff_spec ha b
      exact ⟨stampDiff a b, hlow, hhigh, hmod, timeDiff_edges a b x y⟩,
    takeEdge_cases, takeMarker_cases, takeCounted_cases, missingMarker_cases, tach_cases,
    fun _ _ _ _ cause => ⟨rfl, fun hr => ⟨fun hp => cancelTest_of_not_pending hr hp cause,
      fun hp => cancelTest_of_pending hr hp cause⟩⟩⟩

end Sys2Proof.Machine
end

section
/-! PROOF. The grading of a band and of a window of a stream, and the window series (R76 to R83). -/

namespace Sys2Proof.Machine

/-! ## The grading of a band (R78, R79) -/

/-- A band brought up to date, graded: the rises where one takes place, else the fall. -/
def gradeRun (p : Nat) (b : Band) (l : Nat) (w : BandState) : BandState :=
  if (risen p w).grade = w.grade then fallCheck p b l w else risen p w

/-- A band is graded once its runs are up to date. -/
theorem gradeBand_eq_gradeRun (p : Nat) (b : Band) (l : Nat) (x : BandState) :
    gradeBand p b l x = gradeRun p b l (withRuns b l x) := rfl

/-- The rises keep the runs. -/
theorem risen_runs (p : Nat) (w : BandState) : (risen p w).exceed = w.exceed ∧ (risen p w).alarm = w.alarm := by
  unfold risen riseToAlarm riseToAlert
  constructor <;> split_ifs <;> rfl

/-- The fall keeps the runs. -/
theorem fallCheck_runs (p : Nat) (b : Band) (l : Nat) (w : BandState) :
    (fallCheck p b l w).exceed = w.exceed ∧ (fallCheck p b l w).alarm = w.alarm := by
  unfold fallCheck
  constructor <;> split_ifs <;> rfl

/-- Grading keeps the runs that it was given. -/
theorem gradeRun_runs (p : Nat) (b : Band) (l : Nat) (w : BandState) :
    (gradeRun p b l w).exceed = w.exceed ∧ (gradeRun p b l w).alarm = w.alarm := by
  unfold gradeRun
  split
  · exact fallCheck_runs p b l w
  · exact risen_runs p w

/-- From GOOD a band rises as far as its runs have come. -/
theorem gradeRun_of_good {p : Nat} {w : BandState} (h : w.grade = .good) (b : Band) (l : Nat) :
    (gradeRun p b l w).grade = if p ≤ w.exceed then (if p ≤ w.alarm then .alarm else .alert) else .good := by
  by_cases he : p ≤ w.exceed <;> by_cases ha : p ≤ w.alarm <;>
    simp [gradeRun, risen, riseToAlert, riseToAlarm, fallCheck, h, he, ha]

/-- From ALERT a band whose alarm run has come up rises to ALARM. -/
theorem gradeRun_of_alert_of_le {p : Nat} {w : BandState} (h : w.grade = .alert) (ha : p ≤ w.alarm) (b : Band) (l : Nat) :
    (gradeRun p b l w).grade = .alarm ∧ (gradeRun p b l w).fall = 0 := by
  constructor <;> simp [gradeRun, risen, riseToAlert, riseToAlarm, h, ha]

/-- From ALERT with no rise a band is judged for its fall. -/
theorem gradeRun_of_alert_of_lt {p : Nat} {w : BandState} (h : w.grade = .alert) (ha : w.alarm < p) (b : Band) (l : Nat) :
    gradeRun p b l w = fallCheck p b l w := by
  simp [gradeRun, risen, riseToAlert, riseToAlarm, h, Nat.not_le.mpr ha]

/-- From ALARM a band is judged for its fall. -/
theorem gradeRun_of_alarm {p : Nat} {w : BandState} (h : w.grade = .alarm) (b : Band) (l : Nat) :
    gradeRun p b l w = fallCheck p b l w := by
  simp [gradeRun, risen, riseToAlert, riseToAlarm, h]

/-- The fall of a band at ALERT or ALARM, by the lower level of its grade. -/
theorem fallCheck_cases {w : BandState} (h : w.grade = .alert ∨ w.grade = .alarm) (p : Nat) (b : Band) (l : Nat) :
    (7 * lowerLevel b w.grade ≤ 8 * l → (fallCheck p b l w).grade = w.grade ∧ (fallCheck p b l w).fall = 0) ∧
    (8 * l < 7 * lowerLevel b w.grade → w.fall + 1 < p →
      (fallCheck p b l w).grade = w.grade ∧ (fallCheck p b l w).fall = w.fall + 1) ∧
    (8 * l < 7 * lowerLevel b w.grade → p ≤ w.fall + 1 →
      (fallCheck p b l w).grade = stepDown w.grade ∧ (fallCheck p b l w).fall = 0) := by
  unfold fallCheck
  rw [if_pos h]
  refine ⟨fun hl => ?_, fun hl hf => ?_, fun hl hf => ?_⟩
  · rw [if_neg (Nat.not_lt.mpr hl)]
    exact ⟨rfl, rfl⟩
  · rw [if_pos hl, if_neg (Nat.not_le.mpr hf)]
    exact ⟨rfl, rfl⟩
  · rw [if_pos hl, if_pos hf]
    exact ⟨rfl, rfl⟩

/-- The fall leaves a band's grade or takes it one step down. -/
theorem fallCheck_grade (p : Nat) (b : Band) (l : Nat) (w : BandState) :
    (fallCheck p b l w).grade = w.grade ∨ (fallCheck p b l w).grade = stepDown w.grade := by
  unfold fallCheck
  split_ifs
  · exact .inr rfl
  · exact .inl rfl
  · exact .inl rfl
  · exact .inl rfl

/-- The rises take no grade down. -/
theorem gradeCode_le_risen (p : Nat) (w : BandState) : gradeCode w.grade ≤ gradeCode (risen p w).grade := by
  have halert : gradeCode w.grade ≤ gradeCode (riseToAlert p w).grade := by
    unfold riseToAlert
    split_ifs with h
    · rw [h.1]
      exact (by decide : gradeCode .good ≤ gradeCode .alert)
    · exact le_refl _
  have halarm : ∀ v : BandState, gradeCode v.grade ≤ gradeCode (riseToAlarm p v).grade := by
    intro v
    unfold riseToAlarm
    split_ifs with h
    · rw [h.1]
      exact (by decide : gradeCode .alert ≤ gradeCode .alarm)
    · exact le_refl _
  exact halert.trans (halarm _)

/-- A step down is one step. -/
theorem gradeCode_stepDown (g : Grade) : gradeCode g ≤ gradeCode (stepDown g) + 1 ∧ gradeCode (stepDown g) ≤ gradeCode g := by
  cases g <;> decide

/-- Grading takes a band down by one step at most. -/
theorem gradeCode_le_gradeRun (p : Nat) (b : Band) (l : Nat) (w : BandState) :
    gradeCode w.grade ≤ gradeCode (gradeRun p b l w).grade + 1 := by
  unfold gradeRun
  split
  · rcases fallCheck_grade p b l w with h | h <;> rw [h]
    · exact Nat.le_succ _
    · exact (gradeCode_stepDown _).1
  · exact (gradeCode_le_risen p w).trans (Nat.le_succ _)

/-- Without a run no band rises. -/
theorem risen_of_no_run {p : Nat} {w : BandState} (hp : 1 ≤ p) (he : w.exceed = 0) (ha : w.alarm = 0) : risen p w = w := by
  have hnot : ¬ p ≤ 0 := by omega
  simp [risen, riseToAlert, riseToAlarm, he, ha, hnot]

/-- Without a run grading takes no band up. -/
theorem gradeRun_of_no_run {p : Nat} {w : BandState} (hp : 1 ≤ p) (he : w.exceed = 0) (ha : w.alarm = 0) (b : Band) (l : Nat) :
    gradeCode (gradeRun p b l w).grade ≤ gradeCode w.grade := by
  unfold gradeRun
  rw [risen_of_no_run hp he ha, if_pos rfl]
  rcases fallCheck_grade p b l w with h | h <;> rw [h]
  exact (gradeCode_stepDown _).2

/-- A band with a grade has one after it is graded. -/
theorem gradeRun_ne_unknown {p : Nat} {w : BandState} (h : w.grade ≠ .unknown) (b : Band) (l : Nat) :
    (gradeRun p b l w).grade ≠ .unknown := by
  unfold gradeRun
  split
  · rcases fallCheck_grade p b l w with h' | h' <;> rw [h']
    · exact h
    · cases hg : w.grade
      · exact absurd hg h
      all_goals exact Grade.noConfusion
  · intro hu
    have hle := gradeCode_le_risen p w
    rw [hu] at hle
    cases hg : w.grade
    · exact h hg
    all_goals (rw [hg] at hle; exact absurd hle (by decide))

/-- The grade that a band is judged from: GOOD for one without a grade. -/
theorem withRuns_grade (b : Band) (l : Nat) (x : BandState) :
    (withRuns b l x).grade = if x.grade = .unknown then .good else x.grade := rfl

/-- A band brought up to date has a grade. -/
theorem withRuns_ne_unknown (b : Band) (l : Nat) (x : BandState) : (withRuns b l x).grade ≠ .unknown := by
  rw [withRuns_grade]
  split
  · exact Grade.noConfusion
  · assumption

/-- A run up to date. -/
theorem runOn_decide (a l n : Nat) : runOn (decide (a < l)) n = if a < l then min (n + 1) 15 else 0 := by
  unfold runOn
  by_cases h : a < l <;> simp [h]

/-- The rules of the grading of a band. -/
theorem gradeBand_rules {p : Nat} (hp : 1 ≤ p) (b : Band) (l : Nat) (x : BandState) :
    let y := gradeBand p b l x
    let base := if x.grade = .unknown then Grade.good else x.grade
    y.exceed = (if b.alert < l then min (x.exceed + 1) 15 else 0) ∧ y.alarm = (if b.alarm < l then min (x.alarm + 1) 15 else 0) ∧
    (base = .good → y.grade = (if p ≤ y.exceed then (if p ≤ y.alarm then .alarm else .alert) else .good)) ∧
    (base = .alert → p ≤ y.alarm → y.grade = .alarm ∧ y.fall = 0) ∧
    (base = .alert → y.alarm < p →
      (7 * b.alert ≤ 8 * l → y.grade = .alert ∧ y.fall = 0) ∧
      (8 * l < 7 * b.alert → x.fall + 1 < p → y.grade = .alert ∧ y.fall = x.fall + 1) ∧
      (8 * l < 7 * b.alert → p ≤ x.fall + 1 → y.grade = .good ∧ y.fall = 0)) ∧
    (base = .alarm →
      (7 * b.alarm ≤ 8 * l → y.grade = .alarm ∧ y.fall = 0) ∧
      (8 * l < 7 * b.alarm → x.fall + 1 < p → y.grade = .alarm ∧ y.fall = x.fall + 1) ∧
      (8 * l < 7 * b.alarm → p ≤ x.fall + 1 → y.grade = .alert ∧ y.fall = 0)) ∧
    gradeCode y.grade + 1 ≥ gradeCode x.grade ∧
    (l ≤ b.alert → b.alert < b.alarm → x.grade ≠ .unknown → gradeCode y.grade ≤ gradeCode x.grade) ∧
    y.grade ≠ .unknown := by
  intro y base
  obtain ⟨w, hw⟩ : ∃ w, w = withRuns b l x := ⟨_, rfl⟩
  have hy : y = gradeRun p b l w := by rw [hw]; rfl
  have hbase : w.grade = base := by rw [hw]; rfl
  have hfall : w.fall = x.fall := by rw [hw]; rfl
  have hexceed : w.exceed = if b.alert < l then min (x.exceed + 1) 15 else 0 := by rw [hw]; exact runOn_decide ..
  have halarm : w.alarm = if b.alarm < l then min (x.alarm + 1) 15 else 0 := by rw [hw]; exact runOn_decide ..
  obtain ⟨hye, hya⟩ := gradeRun_runs p b l w
  rw [hy, ← hfall]
  refine ⟨hye.trans hexceed, hya.trans halarm, fun h => ?_, fun h ha => ?_, fun h ha => ?_, fun h => ?_, ?_, ?_, ?_⟩
  · rw [hye, hya]
    exact gradeRun_of_good (hbase.trans h) b l
  · exact gradeRun_of_alert_of_le (hbase.trans h) (hya ▸ ha) b l
  · have hg : w.grade = .alert := hbase.trans h
    have hcases := fallCheck_cases (.inl hg) p b l
    rw [hg] at hcases
    rw [gradeRun_of_alert_of_lt hg (hya ▸ ha)]
    exact hcases
  · have hg : w.grade = .alarm := hbase.trans h
    have hcases := fallCheck_cases (.inr hg) p b l
    rw [hg] at hcases
    rw [gradeRun_of_alarm hg]
    exact hcases
  · refine le_trans ?_ (gradeCode_le_gradeRun p b l w)
    rw [hbase]
    simp only [base]
    cases x.grade <;> decide
  · intro hl hlt hu
    have hx : x.grade = w.grade := by rw [hbase]; exact (if_neg hu).symm
    rw [hx]
    refine gradeRun_of_no_run hp ?_ ?_ b l
    · rw [hexceed, if_neg (Nat.not_lt.mpr hl)]
    · rw [halarm, if_neg (by omega)]
  · exact gradeRun_ne_unknown (by rw [hw]; exact withRuns_ne_unknown b l x) b l

/-! ## A band of a window (R76, R77, R80, R82) -/

/-- A band beyond range is not graded. -/
theorem judgeBand_of_beyond {b : Band} {meanSpeed hz : Nat} (h : beyondRange b meanSpeed hz = true) (set : BandSet) (ice : IceState)
    (l : Nat) (x : BandState) : judgeBand set ice meanSpeed hz b l x = ({ x with latest := some 0, beyond := true }, []) := by
  unfold judgeBand
  rw [if_pos h]

/-- A frozen band within range is not graded, and takes its level. -/
theorem judgeBand_of_frozen {b : Band} {meanSpeed hz : Nat} {ice : IceState} (h : beyondRange b meanSpeed hz = false)
    (hf : b.iceSensitive = true ∧ (ice = .iced ∨ ice = .thawing)) (set : BandSet) (l : Nat) (x : BandState) :
    judgeBand set ice meanSpeed hz b l x = ({ x with latest := some l, beyond := false }, []) := by
  unfold judgeBand
  rw [if_neg (by rw [h]; exact Bool.false_ne_true), frozen_eq, if_pos (decide_eq_true hf)]

/-- Another band is graded. -/
theorem judgeBand_of_graded {b : Band} {meanSpeed hz : Nat} {ice : IceState} (h : beyondRange b meanSpeed hz = false)
    (hf : ¬ (b.iceSensitive = true ∧ (ice = .iced ∨ ice = .thawing))) (set : BandSet) (l : Nat) (x : BandState) :
    judgeBand set ice meanSpeed hz b l x =
      ({ gradeBand set.persistence b l x with latest := some l, beyond := false }, bandFindings set b l meanSpeed x) := by
  unfold judgeBand
  rw [if_neg (by rw [h]; exact Bool.false_ne_true), frozen_eq, if_neg (by rw [decide_eq_true_eq]; exact hf)]

/-- The latest level of a judged band within range. -/
theorem judgeBand_latest {b : Band} {meanSpeed hz : Nat} (h : beyondRange b meanSpeed hz = false) (set : BandSet) (ice : IceState)
    (l : Nat) (x : BandState) : (judgeBand set ice meanSpeed hz b l x).1.latest = some l := by
  by_cases hf : b.iceSensitive = true ∧ (ice = .iced ∨ ice = .thawing)
  · rw [judgeBand_of_frozen h hf]
  · rw [judgeBand_of_graded h hf]

/-- A frozen band and one beyond range keep grade, runs and fall, and raise nothing. -/
theorem judgeBand_kept {b : Band} {meanSpeed hz : Nat} {ice : IceState}
    (h : (b.iceSensitive = true ∧ (ice = .iced ∨ ice = .thawing)) ∨ beyondRange b meanSpeed hz = true) (set : BandSet)
    (l : Nat) (x : BandState) :
    (judgeBand set ice meanSpeed hz b l x).2 = [] ∧ (judgeBand set ice meanSpeed hz b l x).1.grade = x.grade ∧
    (judgeBand set ice meanSpeed hz b l x).1.exceed = x.exceed ∧ (judgeBand set ice meanSpeed hz b l x).1.alarm = x.alarm ∧
    (judgeBand set ice meanSpeed hz b l x).1.fall = x.fall := by
  cases hb : beyondRange b meanSpeed hz
  · have hf := h.resolve_right (by rw [hb]; exact Bool.false_ne_true)
    rw [judgeBand_of_frozen hb hf]
    exact ⟨rfl, rfl, rfl, rfl, rfl⟩
  · rw [judgeBand_of_beyond hb]
    exact ⟨rfl, rfl, rfl, rfl, rfl⟩

/-- What is told of each change of grade. -/
theorem map_changes {α : Type} (f : Grade × Grade → α) (base now : Grade) :
    (if now = base then [] else if base = .good ∧ now = .alarm then [(Grade.good, Grade.alert), (.alert, .alarm)]
      else [(base, now)]).map f =
    if now = base then [] else if base = .good ∧ now = .alarm then [f (.good, .alert), f (.alert, .alarm)]
      else [f (base, now)] := by
  split_ifs <;> rfl

/-- The findings of a graded band. -/
theorem bandFindings_eq (set : BandSet) (b : Band) (l meanSpeed : Nat) (x : BandState) :
    let y := gradeBand set.persistence b l x
    let base := if x.grade = .unknown then Grade.good else x.grade
    let change (g h : Grade) : BandFinding :=
      (.vibGrade, [vNat (gradeCode g), vNat (gradeCode h), vNat l, vNat b.alert, vNat b.alarm, vNat meanSpeed])
    let changes := if y.grade = base then []
      else if base = .good ∧ y.grade = .alarm then [change .good .alert, change .alert .alarm]
      else [change base y.grade]
    let level : List BandFinding := if set.report = .level ∧ (y.grade = .alert ∨ y.grade = .alarm)
      then [(.vibLevel, [vNat (gradeCode y.grade), vNat l, vNat b.alert, vNat b.alarm])] else []
    bandFindings set b l meanSpeed x = changes ++ level := by
  intro y base change changes level
  refine congrArg (· ++ level) ?_
  rw [gradeChanges_eq]
  exact map_changes _ base y.grade

/-! ## The level of a band (R60, R76, R77) -/

/-- When a band is beyond range. -/
theorem beyondRange_iff (b : Band) (meanSpeed hz : Nat) :
    beyondRange b meanSpeed hz = true ↔
      (b.kind = .fixed ∧ hz ≤ 2 * b.upper) ∨ (b.kind = .order ∧ 6000 * hz ≤ 2 * b.upper * meanSpeed) := by
  unfold beyondRange
  cases b.kind <;> simp

/-- The lines of a spectrum lie above 0 Hz and below half the sample rate. -/
theorem le_lineCount_iff {k : Nat} (hk : 1 ≤ k) (hz us : Nat) : k ≤ lineCount hz us ↔ 2 * (k * 1000000) < hz * us := by
  unfold lineCount
  generalize hz * us = n
  omega

/-- Which lines lie in a band. -/
theorem lineInBand_iff (b : Band) (meanSpeed us k : Nat) :
    lineInBand b meanSpeed us k = true ↔
      (b.kind = .fixed → b.lower * us ≤ k * 1000000 ∧ k * 1000000 ≤ b.upper * us) ∧
      (b.kind = .order → b.lower * meanSpeed * us ≤ k * 6000000000 ∧ k * 6000000000 ≤ b.upper * meanSpeed * us) := by
  unfold lineInBand
  cases b.kind <;> simp

/-- Which spectrum lines of a record lie in a band. -/
theorem mem_bandLines (b : Band) (meanSpeed hz us k : Nat) :
    k ∈ bandLines b meanSpeed hz us ↔ 1 ≤ k ∧ 2 * (k * 1000000) < hz * us ∧
      (b.kind = .fixed → b.lower * us ≤ k * 1000000 ∧ k * 1000000 ≤ b.upper * us) ∧
      (b.kind = .order → b.lower * meanSpeed * us ≤ k * 6000000000 ∧ k * 6000000000 ≤ b.upper * meanSpeed * us) := by
  have hrange : k ∈ (List.range (lineCount hz us)).map (fun k => k + 1) ↔ 1 ≤ k ∧ k ≤ lineCount hz us := by
    rw [List.mem_map]
    constructor
    · rintro ⟨j, hj, rfl⟩
      exact ⟨Nat.le_add_left 1 j, List.mem_range.mp hj⟩
    · rintro ⟨hk, hle⟩
      exact ⟨k - 1, List.mem_range.mpr (by omega), by omega⟩
  rw [bandLines, List.mem_filter, hrange, lineInBand_iff, and_assoc]
  exact and_congr_right fun hk => and_congr_left' (le_lineCount_iff hk hz us)

/-- The level of a window with samples and a positive span is the nearest whole root of the content of the band's lines. -/
theorem bandLevel_of_samples {r : VibRecord} (hus : 0 < spanUs r.opening r.closing) (hs : r.samples ≠ []) (scale : Nat) (b : Band) :
    bandLevel r scale b = nearestSqrt
      (((bandLines b r.meanSpeed (rateHz r.rate) (spanUs r.opening r.closing)).map (lineNum r)).sum * 4 ^ scale)
      (powerDen r.samples.length) := by
  have hempty : r.samples.isEmpty = false := by
    rw [Bool.eq_false_iff, ne_eq, List.isEmpty_iff]
    exact hs
  unfold bandLevel
  simp only [hempty, decide_eq_false hus.ne', Bool.false_and, Bool.or_self, Bool.false_eq_true, if_false]

/-- The level a window reports for a band. -/
theorem reportedLevel_rules (r : VibRecord) (scale : Nat) (b : Band) :
    let us := spanUs r.opening r.closing
    let hz := rateHz r.rate
    let lines := bandLines b r.meanSpeed hz us
    let total := (lines.map (lineNum r)).sum * 4 ^ scale
    let den := powerDen r.samples.length
    let l := reportedLevel r scale b
    (beyondRange b r.meanSpeed hz = true ↔
      (b.kind = .fixed ∧ hz ≤ 2 * b.upper) ∨ (b.kind = .order ∧ 6000 * hz ≤ 2 * b.upper * r.meanSpeed)) ∧
    (beyondRange b r.meanSpeed hz = true → l = 0) ∧
    (beyondRange b r.meanSpeed hz = false → 0 < us → r.samples ≠ [] →
      4 * total < (2 * l + 1) ^ 2 * den ∧ (l ≠ 0 → (2 * l - 1) ^ 2 * den ≤ 4 * total)) ∧
    (∀ k, k ∈ lines ↔ 1 ≤ k ∧ 2 * (k * 1000000) < hz * us ∧
      (b.kind = .fixed → b.lower * us ≤ k * 1000000 ∧ k * 1000000 ≤ b.upper * us) ∧
      (b.kind = .order → b.lower * r.meanSpeed * us ≤ k * 6000000000 ∧ k * 6000000000 ≤ b.upper * r.meanSpeed * us)) := by
  intro us hz lines total den l
  refine ⟨beyondRange_iff .., fun hb => if_pos hb, fun hb hus hs => ?_, mem_bandLines b r.meanSpeed hz us⟩
  have hl : l = nearestSqrt total den := by
    refine Eq.trans ?_ (bandLevel_of_samples hus hs scale b)
    exact if_neg (by rw [hb]; exact Bool.false_ne_true)
  rw [hl]
  exact nearestSqrt_spec total den (powerDen_pos (List.length_pos_iff.mpr hs))

/-! ## A graded window and its series (R76 to R83) -/

/-- The summary counters after a graded window. -/
theorem summaryStep_rules {s : State} {i : SlotId} {r : VibRec} (h : s.vib.recs.get i = some r) (set : BandSet) :
    let u (skip post : Nat) := setVib s i (some { r with skip := skip, post := post })
    (set.postscale = 0 → summaryStep s i set = s) ∧
    (set.postscale ≠ 0 → 0 < r.skip → summaryStep s i set = u (r.skip - 1) r.post) ∧
    (set.postscale ≠ 0 → r.skip = 0 → r.post + 1 < set.postscale → summaryStep s i set = u 0 (r.post + 1)) ∧
    (set.postscale ≠ 0 → r.skip = 0 → set.postscale ≤ r.post + 1 →
      summaryStep s i set = raise (u 0 0) .vibSummary (slotTurbine s i) (.slot i)
        (r.bands.map (fun x => vNat (x.latest.getD 0)))) := by
  intro u
  unfold summaryStep
  rw [h]
  dsimp only
  refine ⟨fun h0 => if_pos h0, fun h0 hskip => ?_, fun h0 hskip hpost => ?_, fun h0 hskip hpost => ?_⟩
  · rw [if_neg h0, if_pos hskip, updVib_of h]
  · rw [if_neg h0, if_neg (by omega), if_pos hpost, updVib_of h]
    simp only [u, hskip]
  · rw [if_neg h0, if_neg (by omega), if_neg (by omega), updVib_of h]
    simp only [u, hskip]

/-- A window of a stream graded at its delivery. -/
theorem deliverVib_of_graded {s : State} {r : VibRecord} {v : VibRec} {e : StreamEntry} (hid : vibIdentity s r = true)
    (htest : r.test = false) (hv : s.vib.recs.get r.slot = some v) (he : entryAt s r.slot = some e) :
    let set := setOf s e
    let judged := set.bands.zipIdx.map (fun p => judgeBand set (s.ice.get r.turbine).state r.meanSpeed (rateHz r.rate) p.1
      (reportedLevel r e.scale p.1) (v.bands.getD p.2 .fresh))
    let told := (judged.zipIdx.map (fun p => p.1.2.map (fun f => (p.2 + 1, f)))).flatten
    let graded : State := { s with vib := { s.vib with recs := put s.vib.recs r.slot (some { v with
      graded := min (v.graded + 1) 4294967295, meanSpeed := some r.meanSpeed, bands := judged.map (fun j => j.1),
      grade := worstGrade (judged.map (fun j => j.1.grade)) }) } }
    let raised := told.foldl (fun u p => raise u p.2.1 (sourceTurbine e.source) (.slotBand r.slot p.1) p.2.2) graded
    deliverVib s r = summaryStep (formGrades raised r.turbine) r.slot set := by
  intro set judged told graded raised
  have hturbine : slotTurbine s r.slot = sourceTurbine e.source := by
    unfold slotTurbine
    rw [he]
  have hjudged : judgeBands set (s.ice.get r.turbine).state r.meanSpeed (rateHz r.rate) set.bands
      (set.bands.map (reportedLevel r e.scale)) (fitBands set.bands.length v.bands) = judged := judgeBands_eq ..
  have hraised : raiseBandFindings r.slot (sourceTurbine e.source) 1 (judged.map (fun j => j.2)) graded = raised := by
    rw [raiseBandFindings_eq, List.zipIdx_eq_map_add, List.map_map]
    simp only [Function.comp_def, Nat.add_comm 1]
    rfl
  unfold deliverVib
  rw [if_pos hid]
  unfold vibResult
  rw [he]
  dsimp only
  rw [htest, if_neg Bool.false_ne_true]
  unfold gradeWindow
  rw [hv]
  dsimp only
  rw [hjudged, hturbine]
  exact congrArg (fun u => summaryStep (formGrades u r.turbine) r.slot set) hraised

/-- The analysis of a vibration record complete in the ACTIVE part: the result is delivered and the engine goes on. -/
theorem exec_analysisComplete_vib {s : State} {r : VibRecord} (hs : s.standing = .active)
    (ha : s.engine.analysing = some (.vib r)) : exec .analysisComplete s = .next (settle (engineIdle (deliverVib s r))) := by
  rw [exec_of_event (u := analysisDone s) (b := pathActive s) rfl (pathActive_of hs)]
  unfold analysisDone
  rw [ha]

/-- Settles O41: the grading by its runs, the levels, and a graded window from its bands to its series. -/
theorem bandGradesMoveByTheRules : Obligations.BandGradesMoveByTheRules := by
  unfold Obligations.BandGradesMoveByTheRules
  refine ⟨fun p b l x hp => gradeBand_rules hp b l x, fun set ice meanSpeed hz l b x h => judgeBand_kept h set l x,
    reportedLevel_rules, fun set ice meanSpeed hz l b x hf hb => ?_, fun s r v e hs ha hid htest hv he => ?_, fun s => rfl,
    fun s i set r h => summaryStep_rules h set,
    fun set ice meanSpeed hz l b x => ⟨fun hb => ?_, fun hb => judgeBand_latest hb set ice l x⟩⟩
  · rw [judgeBand_of_graded hb hf, bandFindings_eq]
  · rw [exec_analysisComplete_vib hs ha, deliverVib_of_graded hid htest hv he]
  · rw [judgeBand_of_beyond hb]

end Sys2Proof.Machine
end

section
/-! PROOF. The vibration windows: the test request, the opening check, the notices that open, fill, close and abandon a
window, and the queue of the closed ones (R68 to R75, R84, R85). -/

namespace Sys2Proof.Machine

/-! ## A record written (R67) -/

/-- A record written, read. -/
@[simp] theorem setVib_get (s : State) (i : SlotId) (r : VibRec) : (setVib s i (some r)).vib.recs.get i = some r := by
  rw [setVib, get_put, if_pos rfl]

/-- Of two writes the second stands. -/
@[simp] theorem setVib_setVib (s : State) (i : SlotId) (x y : Option VibRec) : setVib (setVib s i x) i y = setVib s i y := by
  unfold setVib
  rw [put_put]

/-- A change of a record just written. -/
theorem updVib_setVib (s : State) (i : SlotId) (r : VibRec) (f : VibRec → VibRec) :
    updVib (setVib s i (some r)) i f = setVib s i (some (f r)) := by
  rw [updVib_of (setVib_get s i r), setVib_setVib]

/-! ## TRIGGER WINDOW (R84) -/

/-- The turbine of a vibration stream is the one whose number its entry gives. -/
theorem vibTurbine_eq_some {e? : Option StreamEntry} {t : Tid} :
    vibTurbine e? = some t ↔ ∃ e, e? = some e ∧ e.role = .vib ∧ e.source = tnum t := by
  cases e? with
  | none => simp [vibTurbine]
  | some e =>
    have hturbine : entryTurbine e = some t ↔ e.source = tnum t :=
      ⟨fun h => tnum_of_turbineOf h, fun h => by rw [entryTurbine, h, turbineOf_tnum]⟩
    by_cases hr : e.role = .vib <;> simp [vibTurbine, hr, hturbine]

/-- The slots that a test can be asked for. -/
theorem testable_iff (s : State) (t : Tid) (i : SlotId) :
    testable s t i = true ↔
      (s.streams.slots.get i).state = .live ∧ ∃ e, entryAt s i = some e ∧ e.role = .vib ∧ e.source = tnum t := by
  rw [testable, Bool.and_eq_true, decide_eq_true_eq, decide_eq_true_eq, vibTurbine_eq_some]

/-- When a test waits on a slot. -/
theorem testWaiting_iff (s : State) (i : SlotId) :
    testWaiting s i = true ↔
      ∃ r, s.vib.recs.get i = some r ∧ (r.testPending = true ∨ ∃ w, r.window = some w ∧ w.test = true) := by
  unfold testWaiting
  cases hr : s.vib.recs.get i with
  | none => simp
  | some r => cases hw : r.window <;> simp [hw]

/-- TRIGGER WINDOW with both numbers in range. -/
theorem doTriggerWindow_val (o : Origin) (s : State) (t : Tid) (i : SlotId) :
    doTriggerWindow o (tnum t) i.val s = triggerOn o s t i := by
  rw [doTriggerWindow, forTurbine_tnum, placeOf_val]

/-- TRIGGER WINDOW with a number out of range. -/
theorem triggerWindow_out {o : Origin} {s : State} (h : accepts s o) :
    (∀ k slot, k = 0 ∨ 25 ≤ k → answersRefused (.triggerWindow o k slot) s o 37 .badParameter 1) ∧
    (∀ (t : Tid) slot, 192 ≤ slot → answersRefused (.triggerWindow o (tnum t) slot) s o 37 .badParameter 2) := by
  refine ⟨fun k slot hk => answersRefused_of (body := doTriggerWindow o k slot) h rfl (forTurbine_out hk _ _ _ _),
    fun t slot hslot => answersRefused_of (body := doTriggerWindow o (tnum t) slot) h rfl ?_⟩
  rw [doTriggerWindow, forTurbine_tnum, placeOf_none hslot]
  rfl

/-- TRIGGER WINDOW on a slot of a turbine, by the conditions in their order. -/
theorem triggerWindow_cases {o : Origin} {s : State} (hacc : accepts s o) (t : Tid) (i : SlotId) :
    let good := (s.streams.slots.get i).state = .live ∧ ∃ e, entryAt s i = some e ∧ e.role = .vib ∧ e.source = tnum t
    (∀ r, (s.turbines.get t).present = true → (s.turbines.get t).service = true → good → (s.speeds.get t).state = .tracking →
      testWaiting s i = false → s.vib.recs.get i = some r →
      answersDone (.triggerWindow o (tnum t) i.val) s o 37
        { s with vib := { s.vib with recs := put s.vib.recs i (some { r with testPending := true }) } } []) ∧
    ((s.turbines.get t).present = false → answersRefused (.triggerWindow o (tnum t) i.val) s o 37 .notPresent 0) ∧
    ((s.turbines.get t).present = true → (s.turbines.get t).service = false →
      answersRefused (.triggerWindow o (tnum t) i.val) s o 37 .notInService 0) ∧
    ((s.turbines.get t).present = true → (s.turbines.get t).service = true → ¬ good →
      answersRefused (.triggerWindow o (tnum t) i.val) s o 37 .badParameter 2) ∧
    ((s.turbines.get t).present = true → (s.turbines.get t).service = true → good → (s.speeds.get t).state ≠ .tracking →
      answersRefused (.triggerWindow o (tnum t) i.val) s o 37 .badParameter 1) ∧
    ((s.turbines.get t).present = true → (s.turbines.get t).service = true → good → (s.speeds.get t).state = .tracking →
      testWaiting s i = true → answersRefused (.triggerWindow o (tnum t) i.val) s o 37 .windowPending 0) := by
  intro good
  have refused {why : Reason} {d : Nat} (h : triggerOn o s t i = replyRefused s o 37 why d) :
      answersRefused (.triggerWindow o (tnum t) i.val) s o 37 why d :=
    answersRefused_of hacc rfl ((doTriggerWindow_val o s t i).trans h)
  have hgood (h : good) : testable s t i = true := (testable_iff s t i).mpr h
  refine ⟨fun r hp hs hg ht hw hr => answersDone_of hacc rfl ((doTriggerWindow_val o s t i).trans ?_), fun hp => refused ?_,
    fun hp hs => refused ?_, fun hp hs hg => refused ?_, fun hp hs hg ht => refused ?_, fun hp hs hg ht hw => refused ?_⟩
  · simp [triggerOn, hp, hs, hgood hg, ht, hw, updVib_of hr, setVib]
  · simp [triggerOn, hp]
  · simp [triggerOn, hp, hs]
  · have hbad : testable s t i = false := Bool.eq_false_iff.mpr fun h => hg ((testable_iff s t i).mp h)
    simp [triggerOn, hp, hs, hbad, badParam]
  · simp [triggerOn, hp, hs, hgood hg, ht, badParam]
  · simp [triggerOn, hp, hs, hgood hg, ht, hw]

/-! ## The opening check (R70, R87) -/

/-- When the conditions of an automatic window hold. -/
theorem automaticAllowed_iff (r : TurbineRec) :
    automaticAllowed r = true ↔ r.present = true ∧ r.oper = .generating ∧ r.service = false ∧ timerTicks r.blanking = 0 := by
  simp [automaticAllowed, and_assoc]

/-- The opening check of a stream. -/
theorem openingCheck_rules {s : State} {i : SlotId} {r : VibRec} {e : StreamEntry} (hr : s.vib.recs.get i = some r)
    (he : entryAt s i = some e) (t : Tid) (b : Time) :
    let set := setOf s e
    let turb := s.turbines.get t
    let mayOpen := r.window = none ∧ (s.streams.slots.get i).state = .live ∧ set.bands ≠ [] ∧
      ¬ ∃ p, s.cmd = .commit p ∧ ∃ g ∈ p.groups, i ∈ g
    let automatic := turb.present = true ∧ turb.oper = .generating ∧ turb.service = false ∧ timerTicks turb.blanking = 0
    let opened (test : Bool) : VibWindow :=
      { test := test, opening := b, closing := none, revs := 0, target := set.revolutions,
        rate := r.recent.head?.map (fun f => f.rate), samples := recentFrom r.recent b }
    (mayOpen → r.testPending = true →
      openingCheck t b s i = setVib s i (some { r with window := some (opened true), testPending := false })) ∧
    (mayOpen → r.testPending = false → automatic →
      openingCheck t b s i = setVib s i (some { r with window := some (opened false) })) ∧
    (mayOpen → r.testPending = false → ¬ automatic → openingCheck t b s i = s) ∧
    (¬ mayOpen → openingCheck t b s i = s) := by
  intro set turb mayOpen automatic opened
  have hmay : (r.window.isNone = true ∧ (s.streams.slots.get i).state = .live ∧ set.bands.isEmpty = false ∧
      commitHolds s i = false) ↔ mayOpen := by
    rw [Option.isNone_iff_eq_none, ← Bool.not_eq_true, List.isEmpty_iff, ← Bool.not_eq_true (commitHolds s i), commitHolds_iff]
  have hauto : automaticAllowed turb = true ↔ automatic := automaticAllowed_iff turb
  have hpending : r.testPending = false → ¬ r.testPending = true := fun h => by rw [h]; exact Bool.false_ne_true
  unfold openingCheck
  rw [hr, he]
  dsimp only
  refine ⟨fun hm hp => ?_, fun hm hp ha => ?_, fun hm hp ha => ?_, fun hm => if_neg (mt hmay.mp hm)⟩
  · rw [if_pos (hmay.mpr hm), if_pos hp]
    rfl
  · rw [if_pos (hmay.mpr hm), if_neg (hpending hp), if_pos (hauto.mpr ha)]
    rfl
  · rw [if_pos (hmay.mpr hm), if_neg (hpending hp), if_neg (mt hauto.mp ha)]

/-- The samples that a window takes from the recent store. -/
theorem mem_recentFrom (fs : List StoredFrame) (b : Time) (x : Sample) :
    x ∈ recentFrom fs b ↔ (∃ f ∈ fs, x ∈ timed f.stamp f.rate f.samples) ∧ 0 ≤ timeDiff x.time b := by
  rw [recentFrom, List.mem_filter, List.mem_flatten, atOrAfter, decide_eq_true_eq]
  refine and_congr_left' ⟨?_, ?_⟩
  · rintro ⟨_, hmem, hx⟩
    obtain ⟨f, hf, rfl⟩ := List.mem_map.mp hmem
    exact ⟨f, (inStampOrder_perm fs).mem_iff.mp hf, hx⟩
  · rintro ⟨f, hf, hx⟩
    exact ⟨_, List.mem_map.mpr ⟨f, (inStampOrder_perm fs).mem_iff.mpr hf, rfl⟩, hx⟩

/-- The samples of a store of one frame. -/
theorem recentFrom_one (f : StoredFrame) (b : Time) :
    recentFrom [f] b = (timed f.stamp f.rate f.samples).filter (fun x => decide (0 ≤ timeDiff x.time b)) := by
  rw [recentFrom, inStampOrder_one, List.map_singleton, List.flatten_singleton]
  rfl

/-- The samples of a store of two frames. -/
theorem recentFrom_two (f g : StoredFrame) (b : Time) :
    recentFrom [f, g] b = (if stampDiff g.stamp f.stamp < 0
      then timed g.stamp g.rate g.samples ++ timed f.stamp f.rate f.samples
      else timed f.stamp f.rate f.samples ++ timed g.stamp g.rate g.samples).filter
        (fun x => decide (0 ≤ timeDiff x.time b)) := by
  rw [recentFrom, inStampOrder_two]
  have htwo (x y : StoredFrame) : ([x, y].map (fun f => timed f.stamp f.rate f.samples)).flatten =
      timed x.stamp x.rate x.samples ++ timed y.stamp y.rate y.samples := by
    rw [List.map_cons, List.map_singleton, List.flatten_cons, List.flatten_singleton]
  split_ifs <;> rw [htwo] <;> rfl

/-! ## A revolution at a stream (R72) -/

/-- What a revolution does at a stream. -/
theorem revolutionAt_rules {s : State} {i : SlotId} {r : VibRec} (hr : s.vib.recs.get i = some r) (t : Tid) (b : Time) :
    (r.window = none → revolutionAt t b false s i = openingCheck t b s i ∧ revolutionAt t b true s i = s) ∧
    (∀ (w : VibWindow) (isStep : Bool), r.window = some w →
      let cut := { w with
        revs := w.revs + 1, closing := some b, samples := w.samples.filter (fun x => decide (timeDiff x.time b < 0)) }
      (w.closing ≠ none → revolutionAt t b isStep s i = s) ∧
      (w.closing = none → w.revs + 1 < w.target →
        revolutionAt t b isStep s i = setVib s i (some { r with window := some { w with revs := w.revs + 1 } })) ∧
      (w.closing = none → w.target ≤ w.revs + 1 → (∀ x ∈ w.samples, timeDiff (stampTime x.time.stamp) b < 0) →
        revolutionAt t b isStep s i = setVib s i (some { r with window := some cut })) ∧
      (∀ x rate, w.closing = none → w.target ≤ w.revs + 1 → x ∈ w.samples → 0 ≤ timeDiff (stampTime x.time.stamp) b →
        w.rate = some rate → revolutionAt t b isStep s i = closeWindow s t i cut b rate)) := by
  refine ⟨fun hw => ?_, fun w isStep hw => ?_⟩
  · unfold revolutionAt
    rw [windowAt_of hr, hw]
    exact ⟨rfl, rfl⟩
  intro cut
  have hcount : revolutionAt t b isStep s i = countWindow t b s i w := by
    unfold revolutionAt
    rw [windowAt_of hr, hw]
  have hcut : ({ w with
      revs := w.revs + 1, closing := some b, samples := w.samples.filter (fun x => !atOrAfter x.time b) } : VibWindow) = cut := by
    simp only [cut, not_atOrAfter]
  have hlast (hc : w.closing = none) (ht : w.target ≤ w.revs + 1) : countWindow t b s i w =
      match w.samples.any (fun x => atOrAfter (stampTime x.time.stamp) b), w.rate with
      | true, some rate => closeWindow s t i cut b rate
      | _, _ => updVib s i (fun r => { r with window := some cut }) := by
    unfold countWindow
    rw [hc, ← hcut]
    exact if_neg (Nat.not_lt.mpr ht)
  rw [hcount]
  refine ⟨fun hc => ?_, fun hc ht => ?_, fun hc ht hbefore => ?_, fun x rate hc ht hx hafter hrate => ?_⟩
  · obtain ⟨c, hc'⟩ := Option.ne_none_iff_exists'.mp hc
    unfold countWindow
    rw [hc']
  · unfold countWindow
    rw [hc]
    dsimp only
    rw [if_pos ht, updVib_of hr]
  · have hnone : w.samples.any (fun x => atOrAfter (stampTime x.time.stamp) b) = false := by
      rw [List.any_eq_false]
      intro x hx
      rw [atOrAfter, decide_eq_true_eq]
      exact not_le.mpr (hbefore x hx)
    rw [hlast hc ht, hnone, updVib_of hr]
  · have hsome : w.samples.any (fun x => atOrAfter (stampTime x.time.stamp) b) = true :=
      List.any_eq_true.mpr ⟨x, hx, decide_eq_true hafter⟩
    rw [hlast hc ht, hsome, hrate]

/-! ## A frame of a stream (R68, R71) -/

/-- The recent store after a frame. -/
theorem recentWith_eq (fs : List StoredFrame) (f : StoredFrame) :
    recentWith fs f =
      let kept := if ∀ g ∈ fs, g.rate = f.rate then fs else []
      (kept ++ [f]).drop (kept.length + 1 - 8) := by
  have hall : (fs.all (fun g => decide (g.rate = f.rate)) = true) ↔ ∀ g ∈ fs, g.rate = f.rate := by simp
  have hkept : (if fs.all (fun g => decide (g.rate = f.rate)) = true then fs else []) =
      if ∀ g ∈ fs, g.rate = f.rate then fs else [] := if_congr hall rfl rfl
  unfold recentWith
  rw [hkept]
  dsimp only
  rw [List.length_append, List.length_singleton]

/-- A frame's samples given to a window of the record just written. -/
theorem giveSamples_setVib (s : State) (i : SlotId) (r : VibRec) (w : VibWindow) (rate : RateCode) (new : List Sample) :
    let u := setVib s i (some r)
    giveSamples u i w rate new =
      if w.rate ≠ none ∧ w.rate ≠ some rate then abandonWindow .rateChange u i
      else if 16384 < w.samples.length + new.length then
        raise (abandonWindow .tooLong u i) .windowTooLong (slotTurbine s i) (.slot i)
          [vNat w.revs, vNat w.target, vNat (rateCodeNum rate)]
      else setVib s i (some { r with window := some { w with samples := w.samples ++ new, rate := some rate } }) := by
  intro u
  unfold giveSamples
  refine if_congr (and_congr_left' (by cases w.rate <;> simp)) rfl (if_congr Iff.rfl rfl ?_)
  exact updVib_setVib ..

/-- DATA at a vibration stream. -/
theorem vibData_rules {s : State} {i : SlotId} {r : VibRec} (hr : s.vib.recs.get i = some r) (t : Tid) (stamp : Nat)
    (rate : RateCode) (xs : List Int) :
    let kept := if ∀ g ∈ r.recent, g.rate = rate then r.recent else []
    let frame : StoredFrame := { stamp := stamp, rate := rate, samples := xs }
    let recent := (kept ++ [frame]).drop (kept.length + 1 - 8)
    let u := setVib s i (some { r with recent := recent })
    (r.window = none → vibData s t i stamp rate xs = u) ∧
    (∀ w, r.window = some w →
      let mine := (timed stamp rate xs).filter (fun x => decide (0 ≤ timeDiff x.time w.opening))
      let give (new : List Sample) : State :=
        if w.rate ≠ none ∧ w.rate ≠ some rate then abandonWindow .rateChange u i
        else if 16384 < w.samples.length + new.length then
          raise (abandonWindow .tooLong u i) .windowTooLong (slotTurbine s i) (.slot i)
            [vNat w.revs, vNat w.target, vNat (rateCodeNum rate)]
        else setVib s i (some { r with
          recent := recent, window := some { w with samples := w.samples ++ new, rate := some rate } })
      (w.closing = none → vibData s t i stamp rate xs = give mine) ∧
      (∀ c, w.closing = some c → timeDiff (stampTime stamp) c < 0 →
        vibData s t i stamp rate xs = give (mine.filter (fun x => decide (timeDiff x.time c < 0)))) ∧
      (∀ c q, w.closing = some c → 0 ≤ timeDiff (stampTime stamp) c → w.rate = some q →
        vibData s t i stamp rate xs = closeWindow u t i w c q)) := by
  intro kept frame recent u
  have hstored : updVib s i (fun r => { r with recent := recentWith r.recent frame }) = u := by
    rw [updVib_of hr, recentWith_eq]
  have hat : windowAt u i = r.window := (windowAt_of (r := { r with recent := recent }) (setVib_get s i _)).trans rfl
  have hdata : vibData s t i stamp rate xs =
      match r.window with
      | none => u
      | some w => dataToWindow u t i w stamp rate xs := by
    rw [← hat, ← hstored]
    rfl
  refine ⟨fun hw => by rw [hdata, hw], fun w hw => ?_⟩
  intro mine give
  have hgive (new : List Sample) : giveSamples u i w rate new = give new := giveSamples_setVib s i _ w rate new
  have hwindow : vibData s t i stamp rate xs = dataToWindow u t i w stamp rate xs := by rw [hdata, hw]
  rw [hwindow]
  unfold dataToWindow
  refine ⟨fun hc => ?_, fun c hc hbefore => ?_, fun c q hc hafter hq => ?_⟩
  · rw [hc]
    exact hgive mine
  · rw [hc]
    dsimp only
    rw [if_neg (by rw [atOrAfter, decide_eq_true_eq]; exact not_le.mpr hbefore)]
    simp only [not_atOrAfter]
    exact hgive _
  · rw [hc]
    dsimp only
    rw [if_pos (show atOrAfter (stampTime stamp) c = true from decide_eq_true hafter), hq]
    rfl

/-! ## Closing and abandoning (R73, R74, R85) -/

/-- A window that closes. -/
theorem closeWindow_rules {s : State} {i : SlotId} {r : VibRec} (hr : s.vib.recs.get i = some r) (t : Tid) (w : VibWindow)
    (c : Time) (rate : RateCode) :
    let made : VibRecord :=
      { turbine := t, slot := i, inst := (s.streams.slots.get i).inst, gen := s.active.bandGen, opening := w.opening,
        closing := c, meanSpeed := windowMeanSpeed w.target w.opening c, rate := rate, samples := w.samples,
        test := w.test }
    let u := queueVib (setVib s i (some { r with window := none, queued := min (r.queued + 1) 4294967295 })) made
    closeWindow s t i w c rate = (if w.test = true then u else openingCheck t c u i) ∧
    (0 < usDiff c w.opening →
      windowMeanSpeed w.target w.opening c = min (600000000 * w.target / (usDiff c w.opening).toNat) 65535) := by
  intro made u
  refine ⟨?_, fun h => if_pos h⟩
  unfold closeWindow
  rw [updVib_of hr]
  rfl

/-- An abandoned window of a stream. -/
theorem abandonWindow_rules {s : State} {i : SlotId} {r : VibRec} (hr : s.vib.recs.get i = some r) (cause : AbandonCause) :
    (r.window = none → abandonWindow cause s i = s) ∧
    (∀ w, r.window = some w →
      let k := causeIndex cause
      let u (last : Option (TestOutcome × Option AbandonCause)) := setVib s i (some { r with
        window := none, abandoned := put r.abandoned k (min (r.abandoned.get k + 1) 4294967295), lastTest := last })
      (w.test = false → abandonWindow cause s i = u r.lastTest ∧ abandonAutomatic cause s i = u r.lastTest) ∧
      (w.test = true → abandonAutomatic cause s i = s ∧
        abandonWindow cause s i =
          raise (u (some (.abandoned, some cause))) .vibTest (slotTurbine s i) (.slot i) [])) := by
  refine ⟨fun hw => abandonWindow_of_none ((windowAt_of hr).trans hw) cause, fun w hw => ?_⟩
  intro k u
  have habandon := abandonWindow_of_window hr hw cause
  have hauto : abandonAutomatic cause s i = if w.test = true then s else abandonWindow cause s i := by
    unfold abandonAutomatic
    rw [windowAt_of hr, hw]
  rw [hauto]
  refine ⟨fun ht => ?_, fun ht => ?_⟩
  · rw [ht] at habandon ⊢
    exact ⟨habandon, habandon⟩
  · rw [ht] at habandon ⊢
    exact ⟨rfl, habandon⟩

/-! ## A record queued (R55, R56, R75) -/

/-- A record that finds room in its class. -/
theorem queueVib_of_room {s : State} (h : s.engine.vibQueue.length < 8) (r : VibRecord) :
    queueVib s r = engineLook { s with engine := { s.engine with
      vibQueue := s.engine.vibQueue ++ [r],
      vibCounts := { s.engine.vibCounts with queued := min (s.engine.vibCounts.queued + 1) 4294967295 } } } := by
  unfold queueVib
  exact if_pos h

/-- A record that finds its class full. -/
theorem queueVib_of_full {s : State} (h : 8 ≤ s.engine.vibQueue.length) (r : VibRecord) :
    let e := s.engine
    let one (n : Nat) := min (n + 1) 4294967295
    let counted : State := { s with engine := { e with
      vibCounts := { e.vibCounts with overrun := one e.vibCounts.overrun } } }
    let told := raise counted .windowOverrun none (.cls .vib)
      [vNat (one e.vibCounts.overrun), vNat r.slot.val, vNat ((r.closing.stamp + r.closing.sub / 16000) % 4294967296)]
    queueVib s r = vibDiscarded told r := by
  intro e one counted told
  unfold queueVib
  exact if_neg (Nat.not_lt.mpr h)

/-- A discarded record counts at the slot that still holds its stream, and ends a test. -/
theorem vibDiscarded_rules (s : State) (r : VibRecord) :
    let left := if (s.streams.slots.get r.slot).inst = r.inst
      then updVib s r.slot (fun x => { x with
        discarded := min (x.discarded + 1) 4294967295,
        lastTest := if r.test = true then some (.discarded, none) else x.lastTest })
      else s
    (r.test = false → vibDiscarded s r = left) ∧
    (r.test = true → vibDiscarded s r = raise left .vibTest (some (tnum r.turbine)) (.slot r.slot) []) := by
  intro left
  have hdiscard : vibDiscarded s r =
      if r.test = true then raise left .vibTest (some (tnum r.turbine)) (.slot r.slot) [] else left := rfl
  refine ⟨fun ht => hdiscard.trans (if_neg (by rw [ht]; exact Bool.false_ne_true)), fun ht => hdiscard.trans (if_pos ht)⟩

/-- Settles O42: the test request, and the windows from their opening to the record queued or discarded. -/
theorem triggeredAndAutomaticWindows : Obligations.TriggeredAndAutomaticWindows := by
  unfold Obligations.TriggeredAndAutomaticWindows
  refine ⟨fun o s h => triggerWindow_out h, fun o s t i h => triggerWindow_cases h t i,
    fun s t b i r e hr he => openingCheck_rules hr he t b,
    fun fs b => ⟨mem_recentFrom fs b, fun f => recentFrom_one f b, fun f g => recentFrom_two f g b⟩,
    fun s t b i r hr => revolutionAt_rules hr t b, fun s t i stamp rate xs r hr => vibData_rules hr t stamp rate xs,
    fun s t i r w c rate hr => closeWindow_rules hr t w c rate, fun s i r cause hr => abandonWindow_rules hr cause,
    fun s t => ⟨rfl, rfl, rfl, rfl, rfl, fun i => rfl, fun i cause h => if_neg h⟩, testWaiting_iff,
    fun s r => ⟨fun h => queueVib_of_room h r, fun h => ?_⟩⟩
  intro counted told left
  rw [queueVib_of_full h r]
  exact vibDiscarded_rules told r

end Sys2Proof.Machine
end

section
/-! PROOF. The grid record through requests, withdrawals and the release (R101 to R106). -/

namespace Sys2Proof.Machine

/-! ## Writes of the grid record and of the advice (R98, R106) -/

/-- From `s` to `u` only the grid record and what a change of advice writes may differ. -/
def GridOnly (s u : State) : Prop := ∃ g, OnlyAdvice (setGrid s g) u

/-- What writes only the advice. -/
theorem OnlyAdvice.gridOnly {s u : State} (h : OnlyAdvice s u) : GridOnly s u := ⟨s.harm.grid, h⟩

/-- Nothing written. -/
theorem GridOnly.refl (s : State) : GridOnly s s := (OnlyAdvice.refl s).gridOnly

/-- The grid record written. -/
theorem GridOnly.setGrid (s : State) (g : GridRec) : GridOnly s (setGrid s g) := ⟨g, .refl _⟩

/-- A finding raised. -/
theorem GridOnly.raise (s : State) (k : FindingKind) (t : Option Nat) (j : Subject) (vs : List Word32) :
    GridOnly s (raise s k t j vs) := ⟨s.harm.grid, _, _, _, _, _, _, _, _, rfl⟩

/-- One write after another. -/
theorem GridOnly.trans {s u v : State} (h1 : GridOnly s u) (h2 : GridOnly u v) : GridOnly s v := by
  obtain ⟨g, _, _, _, _, _, _, _, _, rfl⟩ := h1
  obtain ⟨g', _, _, _, _, _, _, _, _, rfl⟩ := h2
  exact ⟨g', _, _, _, _, _, _, _, _, rfl⟩

/-- Writes over a list. -/
theorem GridOnly.foldl {α : Type} {f : State → α → State} (h : ∀ s a, GridOnly s (f s a)) (as : List α) (s : State) :
    GridOnly s (as.foldl f s) := by
  induction as generalizing s with
  | nil => exact .refl s
  | cons a as ih => exact (h s a).trans (ih (f s a))

/-- What such writes leave. -/
theorem GridOnly.keeps {s u : State} (h : GridOnly s u) :
    u.streams = s.streams ∧ u.speeds = s.speeds ∧ u.items = s.items ∧ u.active = s.active ∧ u.engine = s.engine ∧
      u.harm = { s.harm with grid := u.harm.grid } := by
  obtain ⟨g, _, _, _, _, _, _, _, _, rfl⟩ := h
  exact ⟨rfl, rfl, rfl, rfl, rfl, rfl⟩

/-- A withdrawal. -/
theorem withdraw_gridOnly (s : State) (t : Tid) : GridOnly s (withdraw s t) := by
  unfold withdraw
  split
  · exact (GridOnly.setGrid s _).trans (computeAdvice_only _ _).gridOnly
  · exact .refl s

/-- A request. -/
theorem requestCurtail_gridOnly (s : State) (t : Tid) : GridOnly s (requestCurtail s t) :=
  (GridOnly.setGrid s _).trans (computeAdvice_only _ _).gridOnly

/-- The release. -/
theorem releaseGrid_gridOnly (s : State) (c : ReleaseCause) : GridOnly s (releaseGrid s c) := by
  unfold releaseGrid
  exact ((GridOnly.setGrid s _).trans (.foldl withdraw_gridOnly _ _)).trans (.raise ..)

/-- The entry into CONDITION. -/
theorem enterCondition_gridOnly (s : State) : GridOnly s (enterCondition s) := by
  have hblanked (g : GridRec) (j : Subject) (vs : List Word32) :
      GridOnly s (blankPresent (raise (setGrid s g) .gridCondition (some 0) j vs)) :=
    ((GridOnly.setGrid s g).trans (.raise ..)).trans (OnlyAdvice.foldl requestBlanking_only _ _).gridOnly
  unfold enterCondition
  dsimp only
  split
  · exact (hblanked _ _ _).trans (requestCurtail_gridOnly ..)
  · exact hblanked _ _ _

/-- An escalation. -/
theorem escalate_gridOnly (s : State) : GridOnly s (escalate s) := by
  unfold escalate
  dsimp only
  split
  · split
    · exact ((GridOnly.setGrid s _).trans (requestCurtail_gridOnly ..)).trans (.raise ..)
    · exact .setGrid s _
  · exact .setGrid s _

/-- An exceeding window in CONDITION. -/
theorem exceedInCondition_gridOnly (s : State) : GridOnly s (exceedInCondition s) := by
  unfold exceedInCondition
  dsimp only
  split
  · exact escalate_gridOnly s
  · exact .setGrid s _

/-- A clean window in CONDITION. -/
theorem cleanInCondition_gridOnly (s : State) : GridOnly s (cleanInCondition s) := by
  unfold cleanInCondition
  split
  · exact releaseGrid_gridOnly ..
  · split
    · exact releaseGrid_gridOnly ..
    · exact .refl s

/-- The grid state brought up to date. -/
theorem gridStep_gridOnly (s : State) (v : Verdict) (openMs : Nat) : GridOnly s (gridStep s v openMs) := by
  unfold gridStep
  dsimp only
  split
  · split
    · exact (GridOnly.setGrid s _).trans (enterCondition_gridOnly _)
    · exact .setGrid s _
  · exact .setGrid s _
  · split
    · exact (GridOnly.setGrid s _).trans (enterCondition_gridOnly _)
    · exact .setGrid s _
  · exact .setGrid s _
  · exact (GridOnly.setGrid s _).trans (exceedInCondition_gridOnly _)
  · exact (GridOnly.setGrid s _).trans (cleanInCondition_gridOnly _)

/-! ## The grid record after each (R102 to R104) -/

/-- Withdrawals take their turbines off the request list. -/
theorem foldl_withdraw_grid (ts : List Tid) (s : State) : (ts.foldl withdraw s).harm.grid =
    { s.harm.grid with requests := s.harm.grid.requests.filter (fun x => x ∉ ts) } := by
  induction ts generalizing s with
  | nil => simp
  | cons t ts ih =>
    rw [List.foldl_cons, ih, withdraw_harm]
    simp only [List.filter_filter, List.mem_cons, not_or]
    simp [Bool.and_comm]

/-- The release withdraws every request. -/
theorem releaseGrid_grid (s : State) (c : ReleaseCause) : (releaseGrid s c).harm.grid =
    { s.harm.grid with
      state := .normal, onset := none, escalation := 0, armed := false, requests := [] } := by
  have hall : s.harm.grid.requests.filter (fun x => x ∉ s.harm.grid.requests) = [] := by
    rw [List.filter_eq_nil_iff]
    intro x hx
    simpa using hx
  unfold releaseGrid
  dsimp only
  rw [raise_harm, foldl_withdraw_grid]
  simp only [setGrid, hall]

/-- A request joins the end of the list. -/
theorem requestCurtail_grid (s : State) (t : Tid) : (requestCurtail s t).harm.grid =
    { s.harm.grid with requests := s.harm.grid.requests ++ [t] } := by
  unfold requestCurtail
  rw [computeAdvice_harm]
  rfl

/-- The entry into CONDITION, with its first request where one is chosen. -/
theorem enterCondition_grid (s : State) : (enterCondition s).harm.grid = { s.harm.grid with
    state := .condition, escalation := 0, armed := false, requests := s.harm.grid.requests ++ (selectPlace s).toList } := by
  unfold enterCondition
  dsimp only
  cases selectPlace s with
  | some t =>
    dsimp only
    rw [requestCurtail_grid, blankPresent_harm, raise_harm]
    rfl
  | none =>
    dsimp only
    rw [blankPresent_harm, raise_harm, Option.toList_none, List.append_nil]
    rfl

/-- An escalation, with its request where there is room and one is chosen. -/
theorem escalate_grid (s : State) : (escalate s).harm.grid = { s.harm.grid with
    escalation := 0,
    requests := if s.harm.grid.requests.length < s.active.settings.cmax
      then s.harm.grid.requests ++ (selectPlace s).toList else s.harm.grid.requests } := by
  obtain ⟨zeroed, hz⟩ : ∃ zeroed, zeroed = setGrid s { s.harm.grid with escalation := 0 } := ⟨_, rfl⟩
  have hescalate : escalate s =
      if s.harm.grid.requests.length < s.active.settings.cmax then
        match selectPlace s with
        | some t => raise (requestCurtail zeroed t) .gridEscalated (some 0) (worstSubject (requestCurtail zeroed t).harm.grid)
            [vNat (tnum t), vNat (requestCurtail zeroed t).harm.grid.requests.length,
              vOpt (requestCurtail zeroed t).harm.grid.worstRatio, vOpt (requestCurtail zeroed t).harm.grid.onset]
        | none => zeroed
      else zeroed := by
    rw [hz]
    rfl
  have hgrid : zeroed.harm.grid = { s.harm.grid with escalation := 0 } := by rw [hz]; rfl
  rw [hescalate]
  split
  · cases selectPlace s with
    | some t =>
      dsimp only
      rw [raise_harm, requestCurtail_grid, hgrid]
      rfl
    | none =>
      dsimp only
      rw [hgrid, Option.toList_none, List.append_nil]
  · exact hgrid

end Sys2Proof.Machine
end

section
/-! PROOF. CLEAR GRID, and the windows of the Harmonic Watch: the detector, the former, the collecting stores and the queue
of the closed ones (R88 to R94, R105). -/

namespace Sys2Proof.Machine

/-! ## CLEAR GRID (R105) -/

/-- CLEAR GRID, by the grid state. -/
theorem clearGrid_cases {o : Origin} {s : State} (hacc : accepts s o) :
    (s.harm.grid.state = .condition → s.harm.grid.verdict = some .clean →
      ∃ u, answersDone (.clearGrid o) s o 44 u (u8 0) ∧ u.harm.grid.state = .normal ∧ u.harm.grid.onset = none ∧
        u.harm.grid.escalation = 0 ∧ u.harm.grid.armed = false ∧ u.harm.grid.requests = [] ∧
        u.harm.contributors = s.harm.contributors ∧ u.streams = s.streams ∧ u.items = s.items ∧ u.speeds = s.speeds) ∧
    (s.harm.grid.state = .condition → s.harm.grid.verdict ≠ some .clean →
      answersDone (.clearGrid o) s o 44 { s with harm := { s.harm with grid := { s.harm.grid with armed := true } } } (u8 1)) ∧
    (s.harm.grid.state ≠ .condition → answersDone (.clearGrid o) s o 44 s (u8 2)) := by
  have done {u : State} {rs : List Byte} (h : doClearGrid o s = replyDone u o 44 rs) : answersDone (.clearGrid o) s o 44 u rs :=
    answersDone_of hacc rfl h
  refine ⟨fun hs hv => ⟨releaseGrid s .clearGrid, done ?_, ?_⟩, fun hs hv => done ?_, fun hs => done ?_⟩
  · unfold doClearGrid
    rw [hs, hv]
  · obtain ⟨hstreams, hspeeds, hitems, -, -, hharm⟩ := (releaseGrid_gridOnly s .clearGrid).keeps
    have hcontributors := congrArg HarmWatch.contributors hharm
    rw [releaseGrid_grid]
    exact ⟨rfl, rfl, rfl, rfl, rfl, hcontributors, hstreams, hitems, hspeeds⟩
  · unfold doClearGrid
    rw [hs]
    cases hverdict : s.harm.grid.verdict with
    | none => rfl
    | some v =>
      cases v with
      | clean => exact absurd hverdict hv
      | exceeding => rfl
  · unfold doClearGrid
    cases hstate : s.harm.grid.state with
    | condition => exact absurd hstate hs
    | normal => rfl
    | exceeding => rfl

/-! ## The detector (R90) -/

/-- When a sample makes a rising crossing. -/
theorem crossingAt_eq_some (d : Detector) (x p : Sample) :
    crossingAt d x = some p ↔ d.armed = true ∧ d.prev = some p ∧ p.value < 0 ∧ 0 ≤ x.value := by
  unfold crossingAt
  cases hprev : d.prev with
  | none => simp
  | some q =>
    dsimp only
    by_cases hc : d.armed = true ∧ q.value < 0 ∧ 0 ≤ x.value
    · rw [if_pos hc, Option.some.injEq]
      constructor
      · rintro rfl
        exact ⟨hc.1, rfl, hc.2⟩
      · exact fun h => h.2.1
    · rw [if_neg hc, Option.some.injEq]
      constructor
      · exact fun h => absurd h.symm (Option.some_ne_none p)
      · rintro ⟨ha, rfl, hx⟩
        exact absurd ⟨ha, hx⟩ hc

/-- The detector is armed after a sample that makes no crossing and finds it armed, or lies deep enough. -/
theorem detectorAfter_armed (d : Detector) (x : Sample) :
    (detectorAfter d x).armed = true ↔ crossingAt d x = none ∧ (d.armed = true ∨ x.value ≤ -(d.h : Int)) := by
  unfold detectorAfter
  cases crossingAt d x <;> simp

/-- A crossing's time lies in its whole µs. -/
theorem crossingTime_rules (rate : RateCode) {p x : Sample} (hp : p.value < 0) (hx : 0 ≤ x.value) :
    let q := crossingTime rate p x
    let rise := (x.value - p.value).toNat
    let exact := p.time.sub * rise + rateSpacing rate * (-p.value).toNat
    q.stamp = p.time.stamp ∧ q.sub % 16 = 0 ∧ q.sub * rise ≤ exact ∧ exact < (q.sub + 16) * rise := by
  intro q rise exact
  have hrise : 0 < 16 * rise := by
    have : 0 < rise := by simp only [rise]; omega
    omega
  have hq : q.sub = exact / (16 * rise) * 16 := rfl
  have hle := Nat.div_mul_le_self exact (16 * rise)
  have hlt := Nat.lt_div_mul_add (a := exact) hrise
  have hsplit : exact / (16 * rise) * 16 * rise = exact / (16 * rise) * (16 * rise) := Nat.mul_assoc ..
  refine ⟨rfl, Nat.mul_mod_left _ 16, ?_, ?_⟩
  · rw [hq, hsplit]
    exact hle
  · rw [hq, Nat.add_mul, hsplit]
    exact hlt

/-! ## The former (R91, R92, R93) -/

/-- What a sample of the reference does, by the state of the former. -/
theorem refSample_rules (s : State) (i : SlotId) (rate : RateCode) (x : Sample) :
    let d := s.harm.detector
    let u : State := { s with harm := { s.harm with detector := detectorAfter d x } }
    let v := refSample i rate s x
    (s.harm.former = .suspended → v = u) ∧
    (s.harm.former = .waiting → crossingAt d x = none → v = u) ∧
    (∀ p, s.harm.former = .waiting → crossingAt d x = some p → v = openHarm u i (crossingTime rate p x) rate [p, x]) ∧
    (∀ w, s.harm.former = .opened w → crossingAt d x = none → v = extendHarm u w x) ∧
    (∀ w p, s.harm.former = .opened w → crossingAt d x = some p → w.cycles + 1 < w.target →
      v = extendHarm u { w with cycles := w.cycles + 1 } x) ∧
    (∀ w p, s.harm.former = .opened w → crossingAt d x = some p → w.target ≤ w.cycles + 1 →
      v = closeHarm u i w (crossingTime rate p x) (w.samples ++ [x])) := by
  intro d u v
  have hv : v = match crossingAt d x, s.harm.former with
      | some p, .waiting => openHarm u i (crossingTime rate p x) rate [p, x]
      | some p, .opened w =>
        if w.cycles + 1 < w.target then extendHarm u { w with cycles := w.cycles + 1 } x
        else closeHarm u i w (crossingTime rate p x) (w.samples ++ [x])
      | none, .opened w => extendHarm u w x
      | none, .waiting => u
      | _, .suspended => u := rfl
  rw [hv]
  refine ⟨fun hf => ?_, fun hf hc => ?_, fun p hf hc => ?_, fun w hf hc => ?_, fun w p hf hc ht => ?_, fun w p hf hc ht => ?_⟩
  · rw [hf]
    cases crossingAt d x <;> rfl
  · rw [hf, hc]
  · rw [hf, hc]
  · rw [hf, hc]
  · rw [hf, hc]
    exact if_pos ht
  · rw [hf, hc]
    exact if_neg (Nat.not_lt.mpr ht)

/-- The opening of a window at a crossing. -/
theorem openHarm_rules (s : State) (i : SlotId) (b : Time) (rate : RateCode) (xs : List Sample) :
    let held := ∃ p, s.cmd = .commit p ∧ ∃ g ∈ p.groups, i ∈ g
    let late (ys : List Sample) := ys.filter (fun x => decide (0 ≤ timeDiff x.time b))
    let w : HarmWindow :=
      { opening := b, target := s.active.settings.cycles, nominal := s.active.settings.nominal, cycles := 0,
        rate := rate, samples := late xs }
    (held → openHarm s i b rate xs = { s with harm := { s.harm with former := .waiting } }) ∧
    (¬ held → openHarm s i b rate xs = { s with harm := { s.harm with
      former := .opened w,
      collect := mapTab (fun c => c.map (fun c => { c with samples := late c.samples })) s.harm.collect } }) := by
  intro held late w
  refine ⟨fun h => ?_, fun h => ?_⟩
  · exact if_pos ((commitHolds_iff s i).mpr h)
  · exact if_neg (mt (commitHolds_iff s i).mp h)

/-- An open window takes a sample, or is abandoned where its span has passed. -/
theorem extendHarm_rules (s : State) (w : HarmWindow) (x : Sample) :
    let passed := (w.target : Int) * 20000000 * 16 < timeDiff x.time w.opening * (19 * (w.nominal : Int))
    (¬ passed → extendHarm s w x =
      { s with harm := { s.harm with former := .opened { w with samples := w.samples ++ [x] } } }) ∧
    (passed → extendHarm s w x = { s with harm := abandonHarm s.harm .gridFreq .waiting }) := by
  intro passed
  refine ⟨fun h => if_neg ?_, fun h => if_pos ?_⟩
  · rw [spanPassed, decide_eq_true_eq]
    exact h
  · rw [spanPassed, decide_eq_true_eq]
    exact h

/-- An open window abandoned. -/
theorem abandonHarm_of_opened {h : HarmWatch} {w : HarmWindow} (hf : h.former = .opened w) (cause : GridAbandon) (after : Former) :
    abandonHarm h cause after =
      let k := gridAbandonIndex cause
      { h with former := after, abandoned := put h.abandoned k (min (h.abandoned.get k + 1) 4294967295) } := by
  unfold abandonHarm
  rw [hf]
  rfl

/-- Without an open window none is abandoned. -/
theorem abandonHarm_of_not_opened {h : HarmWatch} (hf : ∀ w, h.former ≠ .opened w) (cause : GridAbandon) (after : Former) :
    abandonHarm h cause after = h := by
  unfold abandonHarm
  cases hformer : h.former with
  | opened w => exact absurd hformer (hf w)
  | suspended => rfl
  | waiting => rfl

/-- The former after an open window, if there is one, is abandoned for one that waits. -/
theorem abandonHarm_waiting_former (h : HarmWatch) (cause : GridAbandon) :
    (abandonHarm h cause .waiting).former = match h.former with
      | .opened _ => .waiting
      | other => other := by
  unfold abandonHarm
  cases hformer : h.former <;> simp [hformer]

/-- When a span's mean fundamental is kept. -/
theorem frequencyKept_iff (w : HarmWindow) (us : Int) :
    frequencyKept w us = true ↔
      0 < us ∧ 100 * (((w.target * 1000000000 / us.toNat : Nat) : Int) - ((w.nominal * 1000 : Nat) : Int)).natAbs ≤
        5 * (w.nominal * 1000) := by
  rw [frequencyKept, Bool.and_eq_true, decide_eq_true_eq, decide_eq_true_eq, meanFundamental, Nat.cast_mul w.nominal 1000]
  exact Iff.rfl

/-- A window of the reference that closes. -/
theorem closeHarm_rules (s : State) (i : SlotId) (w : HarmWindow) (c : Time) (held : List Sample) :
    let us := usDiff c w.opening
    let mean := w.target * 1000000000 / us.toNat
    let nominal := w.nominal * 1000
    let kept := 0 < us ∧ 100 * ((mean : Int) - (nominal : Int)).natAbs ≤ 5 * nominal
    let secs := admitted s us.toNat w.opening c
    let record : HarmRecord :=
      { slot := i, inst := (s.streams.slots.get i).inst, secondaries := secs, gen := s.active.limitGen,
        opening := w.opening, closing := c, meanFund := mean, rate := w.rate,
        samples := held.filter (fun x => decide (timeDiff x.time c < 0)) }
    let u := queueHarm { s with harm := { s.harm with
      former := .waiting, queued := min (s.harm.queued + 1) 4294967295,
      omissions := min (s.harm.omissions + ((collectingSlots s).length - secs.length)) 4294967295 } } record
    (kept → closeHarm s i w c held = openHarm { u with harm := dropOlder u.harm c } i c w.rate held) ∧
    (¬ kept → closeHarm s i w c held =
      openHarm { s with harm := abandonHarm s.harm .gridFreq .waiting } i c w.rate held) := by
  intro us mean nominal kept secs record u
  have hkept : frequencyKept w us = true ↔ kept := frequencyKept_iff w us
  have hcut : held.filter (fun x => !atOrAfter x.time c) = held.filter (fun x => decide (timeDiff x.time c < 0)) := by
    simp only [not_atOrAfter]
  unfold closeHarm
  rw [hcut]
  exact ⟨fun h => if_pos (hkept.mpr h), fun h => if_neg (mt hkept.mp h)⟩

/-! ## The collecting stores (R89, R92) -/

/-- The samples of a store inside a window. -/
theorem samplesInside_eq (c : Collect) (b e : Time) :
    samplesInside c b e = c.samples.filter (fun y => decide (0 ≤ timeDiff y.time b ∧ timeDiff y.time e < 0)) := by
  simp only [samplesInside, not_atOrAfter, Bool.decide_and]
  rfl

/-- When a store covers a window. -/
theorem covers_iff (c : Collect) (us : Nat) (b e : Time) :
    covers c us b e = true ↔
      ∃ rate, c.rate = some rate ∧ 9 * (us * rateHz rate / 1000000) ≤ 10 * (samplesInside c b e).length := by
  unfold covers
  cases c.rate <;> simp

/-- What a covering store gives. -/
theorem secondaryOf_fields (s : State) (i : SlotId) {c : Collect} {rate : RateCode} (hrate : c.rate = some rate) (b e : Time) :
    let x := secondaryOf s i c b e
    x.slot = i ∧ x.inst = (s.streams.slots.get i).inst ∧ x.rate = rate ∧ x.samples = samplesInside c b e ∧
      ∀ en, entryAt s i = some en → x.role = en.role ∧ x.phase = en.phase ∧
        x.turbine = (if en.role = .convI then turbineOf en.source else none) := by
  intro x
  have hx : x = secondaryOf s i c b e := rfl
  unfold secondaryOf at hx
  rw [hrate] at hx
  rw [hx]
  cases entryAt s i with
  | none => exact ⟨rfl, rfl, rfl, rfl, fun en h => absurd h.symm (Option.some_ne_none en)⟩
  | some en' =>
    refine ⟨rfl, rfl, rfl, rfl, fun en h => ?_⟩
    cases h
    exact ⟨rfl, rfl, rfl⟩

/-- The secondary streams admitted to a window are those of the covering stores. -/
theorem mem_admitted (s : State) (us : Nat) (b e : Time) (x : SecStream) :
    x ∈ admitted s us b e ↔
      ∃ i col, s.harm.collect.get i = some col ∧ covers col us b e = true ∧ x = secondaryOf s i col b e := by
  simp only [admitted, collectingSlots, List.mem_map, List.mem_filter]
  constructor
  · rintro ⟨i, ⟨⟨-, -⟩, hcovers⟩, rfl⟩
    unfold slotCovers at hcovers
    cases hcol : s.harm.collect.get i with
    | none =>
      rw [hcol] at hcovers
      exact absurd hcovers Bool.false_ne_true
    | some col =>
      rw [hcol] at hcovers
      exact ⟨i, col, hcol, hcovers, rfl⟩
  · rintro ⟨i, col, hcol, hcovers, rfl⟩
    refine ⟨i, ⟨⟨mem_allSlots i, by rw [hcol]; rfl⟩, ?_⟩, by rw [hcol]; rfl⟩
    unfold slotCovers
    rw [hcol]
    exact hcovers

/-- The secondary streams of a window. -/
theorem admitted_rules (s : State) (us : Nat) (b e : Time) (x : SecStream) :
    x ∈ admitted s us b e ↔ ∃ i col rate, s.harm.collect.get i = some col ∧ col.rate = some rate ∧
      (let inside := col.samples.filter (fun y => decide (0 ≤ timeDiff y.time b ∧ timeDiff y.time e < 0))
       9 * (us * rateHz rate / 1000000) ≤ 10 * inside.length ∧ x = secondaryOf s i col b e ∧ x.slot = i ∧
       x.inst = (s.streams.slots.get i).inst ∧ x.rate = rate ∧ x.samples = inside ∧
       (∀ en, entryAt s i = some en → x.role = en.role ∧ x.phase = en.phase ∧
         x.turbine = (if en.role = .convI then turbineOf en.source else none))) := by
  rw [mem_admitted]
  constructor
  · rintro ⟨i, col, hcol, hcovers, rfl⟩
    obtain ⟨rate, hrate, hnine⟩ := (covers_iff ..).mp hcovers
    have hfields := secondaryOf_fields s i hrate b e
    rw [samplesInside_eq] at hnine hfields
    exact ⟨i, col, rate, hcol, hrate, hnine, rfl, hfields⟩
  · rintro ⟨i, col, rate, hcol, hrate, hnine, hx, -⟩
    rw [← samplesInside_eq] at hnine
    exact ⟨i, col, hcol, (covers_iff ..).mpr ⟨rate, hrate, hnine⟩, hx⟩

/-! ## The notices (R88 to R90, R93) -/

/-- The reference is the feeder voltage of phase A. -/
theorem isReference_iff (e : StreamEntry) : isReference e = true ↔ e.role = .gridV ∧ e.phase = .a := by
  simp [isReference]

/-- The rate of a frame of the reference. -/
theorem refRate_rules (h : HarmWatch) (rate : RateCode) :
    ((refRate h rate).former = match h.former with
      | .opened w => if w.rate = rate then .opened w else .waiting
      | other => other) ∧
    ((refRate h rate).detector = (if h.detector.rate = some rate then h.detector
      else { h.detector with armed := false, prev := none, rate := some rate })) ∧
    (∀ w, h.former = .opened w → w.rate ≠ rate → (refRate h rate).abandoned =
      (abandonHarm h .rateChange .waiting).abandoned) := by
  obtain ⟨h1, hh1⟩ : ∃ h1, h1 = match h.former with
    | .opened w => if w.rate = rate then h else abandonHarm h .rateChange .waiting
    | .suspended => h
    | .waiting => h := ⟨_, rfl⟩
  have hrefRate : refRate h rate = if h1.detector.rate = some rate then h1
      else { h1 with detector := { h1.detector with armed := false, prev := none, rate := some rate } } := by
    rw [hh1]
    rfl
  have hformer : h1.former = match h.former with
      | .opened w => if w.rate = rate then .opened w else .waiting
      | other => other := by
    rw [hh1]
    cases hf : h.former with
    | opened w =>
      dsimp only
      split_ifs
      · exact hf
      · rw [abandonHarm_of_opened hf]
    | suspended => exact hf
    | waiting => exact hf
  have hdetector : h1.detector = h.detector := by
    rw [hh1]
    cases hf : h.former with
    | opened w =>
      dsimp only
      split_ifs
      · rfl
      · rw [abandonHarm_of_opened hf]
    | suspended => rfl
    | waiting => rfl
  rw [hrefRate, hdetector]
  refine ⟨?_, ?_, fun w hf hw => ?_⟩
  · rw [← hformer]
    split_ifs <;> rfl
  · split_ifs
    · exact hdetector
    · rfl
  · have hone : h1 = abandonHarm h .rateChange .waiting := by
      rw [hh1, hf]
      exact if_neg hw
    rw [← hone]
    split_ifs <;> rfl

/-- The notices of the reference. -/
theorem reference_notices {e : StreamEntry} (hrole : e.role = .gridV) (hphase : e.phase = .a) (s : State) (i : SlotId) :
    let h := s.harm
    (harmLive s i e).harm.former = (match h.former with | .opened w => .opened w | _ => .waiting) ∧
    harmGap s i e = { s with harm :=
      (let g := abandonHarm h .gap .waiting
       { g with detector := { g.detector with armed := false, prev := none } }) } ∧
    harmEnded s i e = { s with harm :=
      { abandonHarm h .streamEnded .suspended with
        former := .suspended, detector := { armed := false, prev := none, rate := none, h := 0 } } } ∧
    (∀ (stamp : Nat) (rate : RateCode) (xs : List Int),
      harmData s i e stamp rate xs = (timed stamp rate xs).foldl (refSample i rate) { s with harm := refRate h rate } ∧
      ((refRate h rate).former = match h.former with
        | .opened w => if w.rate = rate then .opened w else .waiting
        | other => other) ∧
      (refRate h rate).detector = (if h.detector.rate = some rate then h.detector
        else { h.detector with armed := false, prev := none, rate := some rate }) ∧
      (∀ w, h.former = .opened w → w.rate ≠ rate → (refRate h rate).abandoned =
        (abandonHarm h .rateChange .waiting).abandoned)) := by
  intro h
  have href : isReference e = true := (isReference_iff e).mpr ⟨hrole, hphase⟩
  refine ⟨?_, if_pos href, if_pos href, fun stamp rate xs => ⟨if_pos href, refRate_rules h rate⟩⟩
  unfold harmLive
  rw [if_pos href]
  cases hf : s.harm.former <;> simp [hf, setHarm]

/-- The notices of another stream with a collecting store. -/
theorem collecting_notices {e : StreamEntry} (h : ¬ (e.role = .gridV ∧ e.phase = .a)) (s : State) (i : SlotId) (stamp : Nat)
    (rate : RateCode) (xs : List Int) :
    (harmLive s i e).harm.collect.get i = some { rate := none, samples := [] } ∧
    (harmEnded s i e).harm.collect.get i = none ∧
    (∀ c, s.harm.collect.get i = some c →
      let all := (if c.rate = some rate then c.samples else []) ++ timed stamp rate xs
      (harmGap s i e).harm.collect.get i = some { rate := none, samples := [] } ∧
      (harmData s i e stamp rate xs).harm.collect.get i =
        some { rate := some rate, samples := all.drop (all.length - 16384) }) := by
  have href : ¬ isReference e = true := mt (isReference_iff e).mp h
  refine ⟨?_, ?_, fun c hc => ⟨?_, ?_⟩⟩
  · rw [harmLive, if_neg href, setHarm, get_put, if_pos rfl]
  · rw [harmEnded, if_neg href, setHarm, get_put, if_pos rfl]
  · rw [harmGap, if_neg href, setHarm, get_upd, if_pos rfl, hc]
    rfl
  · rw [harmData, if_neg href, setHarm, get_upd, if_pos rfl, hc]
    rfl

/-! ## A record queued (R55, R56, R94) -/

/-- A harmonic record that its watch queues. -/
theorem queueHarm_rules (s : State) (r : HarmRecord) :
    let e := s.engine
    let one (n : Nat) := min (n + 1) 4294967295
    (e.harmQueue.length < 4 → queueHarm s r = engineLook { s with engine := { e with
      harmQueue := e.harmQueue ++ [r], harmCounts := { e.harmCounts with queued := one e.harmCounts.queued } } }) ∧
    (4 ≤ e.harmQueue.length →
      let counted : State := { s with engine := { e with
        harmCounts := { e.harmCounts with overrun := one e.harmCounts.overrun } } }
      let told := raise counted .windowOverrun none (.cls .harm)
        [vNat (one e.harmCounts.overrun), vNat r.slot.val, vNat ((r.closing.stamp + r.closing.sub / 16000) % 4294967296)]
      queueHarm s r = { told with harm := { told.harm with discarded := one s.harm.discarded } }) :=
  ⟨fun h => if_pos h, fun h => if_neg (Nat.not_lt.mpr h)⟩

/-- Settles O43: CLEAR GRID, and the windows of the reference with the stores beside them. -/
theorem gridWindowsAndClearGrid : Obligations.GridWindowsAndClearGrid := by
  unfold Obligations.GridWindowsAndClearGrid
  exact ⟨fun o s h => clearGrid_cases h, fun d x => ⟨crossingAt_eq_some d x, rfl, rfl, rfl, detectorAfter_armed d x⟩,
    fun rate p x hp hx => crossingTime_rules rate hp hx, refSample_rules, openHarm_rules, extendHarm_rules,
    fun h cause after => ⟨fun w hf => abandonHarm_of_opened hf cause after,
      fun hf => abandonHarm_of_not_opened hf cause after⟩,
    closeHarm_rules, admitted_rules, fun s i e hrole hphase => reference_notices hrole hphase s i,
    fun s i e stamp rate xs h => collecting_notices h s i stamp rate xs, queueHarm_rules⟩

end Sys2Proof.Machine
end

section
/-! PROOF. The engine's choice, and the vibration result at its delivery (R56 to R59, R62, R75, R85). -/

namespace Sys2Proof.Machine

/-! ## The choice and the start check (R56 to R58) -/

/-- An engine in analysis takes nothing. -/
theorem engineLoop_of_analysing {s : State} {a : JobRecord} (h : s.engine.analysing = some a) (k : Nat) : engineLoop k s = s := by
  cases k with
  | zero => rfl
  | succ k =>
    unfold engineLoop
    rw [h]

/-- An IDLE engine without a record does nothing. -/
theorem engineLoop_of_empty {s : State} (hh : s.engine.harmQueue = []) (hv : s.engine.vibQueue = []) (k : Nat) :
    engineLoop k s = s := by
  have honce : engineOnce s = s := by
    unfold engineOnce
    rw [hh, hv]
  induction k with
  | zero => rfl
  | succ k ih =>
    unfold engineLoop
    rw [honce, ih]
    cases s.engine.analysing <;> rfl

/-- The look of an IDLE engine that starts an analysis ends there. -/
theorem engineLook_of_starts {s u : State} {a : JobRecord} (ha : s.engine.analysing = none) (honce : engineOnce s = u)
    (hu : u.engine.analysing = some a) : engineLook s = u := by
  have hlook : engineLook s = engineLoop 11 (engineOnce s) := by
    have hnext : engineLook s = match s.engine.analysing with
        | some _ => s
        | none => engineLoop 11 (engineOnce s) := rfl
    rw [hnext, ha]
  rw [hlook, honce, engineLoop_of_analysing hu]

/-- The oldest harmonic record is chosen unless three were taken running while a vibration record waits. -/
theorem engineOnce_harm {s : State} {h : HarmRecord} {hs : List HarmRecord} (hq : s.engine.harmQueue = h :: hs)
    (hfree : s.engine.vibQueue = [] ∨ s.engine.harmRun < 3) : engineOnce s = startHarm s h hs := by
  unfold engineOnce
  rw [hq]
  cases hv : s.engine.vibQueue with
  | nil => rfl
  | cons v vs => exact if_pos (hfree.resolve_left (by rw [hv]; exact List.cons_ne_nil v vs))

/-- The oldest vibration record is chosen where no harmonic one waits or three were taken running. -/
theorem engineOnce_vib {s : State} {v : VibRecord} {vs : List VibRecord} (hq : s.engine.vibQueue = v :: vs)
    (hfree : s.engine.harmQueue = [] ∨ 3 ≤ s.engine.harmRun) : engineOnce s = startVib s v vs := by
  unfold engineOnce
  rw [hq]
  cases hh : s.engine.harmQueue with
  | nil => rfl
  | cons h hs =>
    exact if_neg (Nat.not_lt.mpr (hfree.resolve_left (by rw [hh]; exact List.cons_ne_nil h hs)))

/-- A harmonic record that passes its start check. -/
theorem startHarm_of_identity {s : State} {h : HarmRecord} (hid : harmIdentity s h = true) (hs : List HarmRecord) :
    startHarm s h hs = { s with engine := { s.engine with
      harmQueue := hs,
      analysing := some (.harm { h with secondaries := keptSecondaries s h }), harmRun := min (s.engine.harmRun + 1) 3,
      harmCounts := { s.engine.harmCounts with analysed := min (s.engine.harmCounts.analysed + 1) 4294967295 },
      omitted := min (s.engine.omitted + (h.secondaries.length - (keptSecondaries s h).length)) 4294967295 } } := if_pos hid

/-- A vibration record that passes its start check. -/
theorem startVib_of_identity {s : State} {v : VibRecord} (hid : vibIdentity s v = true) (vs : List VibRecord) :
    startVib s v vs = { s with engine := { s.engine with
      vibQueue := vs, analysing := some (.vib v), harmRun := 0,
      vibCounts := { s.engine.vibCounts with analysed := min (s.engine.vibCounts.analysed + 1) 4294967295 } } } := if_pos hid

/-- A condition that is false does not hold. -/
theorem ne_true_of_false {b : Bool} (h : b = false) : ¬ b = true := by
  rw [h]
  exact Bool.false_ne_true

/-- What an IDLE engine takes where the record passes its check. -/
theorem engineLook_starts {s : State} (ha : s.engine.analysing = none) :
    (s.engine.harmQueue = [] → s.engine.vibQueue = [] → engineLook s = s) ∧
    (∀ h hs, s.engine.harmQueue = h :: hs → s.engine.vibQueue = [] ∨ s.engine.harmRun < 3 → harmIdentity s h = true →
      engineLook s = { s with engine := { s.engine with
        harmQueue := hs,
        analysing := some (.harm { h with secondaries := keptSecondaries s h }), harmRun := min (s.engine.harmRun + 1) 3,
        harmCounts := { s.engine.harmCounts with analysed := min (s.engine.harmCounts.analysed + 1) 4294967295 },
        omitted := min (s.engine.omitted + (h.secondaries.length - (keptSecondaries s h).length)) 4294967295 } }) ∧
    (∀ v vs, s.engine.vibQueue = v :: vs → s.engine.harmQueue = [] ∨ 3 ≤ s.engine.harmRun → vibIdentity s v = true →
      engineLook s = { s with engine := { s.engine with
        vibQueue := vs, analysing := some (.vib v), harmRun := 0,
        vibCounts := { s.engine.vibCounts with analysed := min (s.engine.vibCounts.analysed + 1) 4294967295 } } }) :=
  ⟨fun hh hv => engineLoop_of_empty hh hv _,
    fun _ hs hq hfree hid =>
      engineLook_of_starts ha ((engineOnce_harm hq hfree).trans (startHarm_of_identity hid hs)) rfl,
    fun _ vs hq hfree hid =>
      engineLook_of_starts ha ((engineOnce_vib hq hfree).trans (startVib_of_identity hid vs)) rfl⟩

/-- What an IDLE engine does where the record fails its check. -/
theorem engineLook_discards {s : State} (ha : s.engine.analysing = none) (hvib : s.engine.vibQueue.length ≤ 8)
    (hharm : s.engine.harmQueue.length ≤ 4) :
    (∀ h hs, s.engine.harmQueue = h :: hs → s.engine.vibQueue = [] ∨ s.engine.harmRun < 3 → harmIdentity s h = false →
      engineLook s = engineLook { s with
        engine := { s.engine with
          harmQueue := hs,
          harmCounts := { s.engine.harmCounts with
            staleAtStart := min (s.engine.harmCounts.staleAtStart + 1) 4294967295 } },
        harm := { s.harm with discarded := min (s.harm.discarded + 1) 4294967295 } }) ∧
    (∀ v vs, s.engine.vibQueue = v :: vs → s.engine.harmQueue = [] ∨ 3 ≤ s.engine.harmRun → vibIdentity s v = false →
      let left : State := { s with engine := { s.engine with
        vibQueue := vs,
        vibCounts := { s.engine.vibCounts with
          staleAtStart := min (s.engine.vibCounts.staleAtStart + 1) 4294967295 } } }
      let told : State :=
        if (s.streams.slots.get v.slot).inst = v.inst then
          updVib left v.slot (fun x => { x with
            discarded := min (x.discarded + 1) 4294967295,
            lastTest := if v.test then some (.discarded, none) else x.lastTest })
        else left
      engineLook s = engineLook
        (if v.test then raise told .vibTest (some (tnum v.turbine)) (.slot v.slot) [] else told)) := by
  refine ⟨fun h hs hq hfree hid => ?_, fun v vs hq hfree hid => ?_⟩
  · rw [engineLook_again s hvib hharm ha, engineOnce_harm hq hfree]
    exact congrArg engineLook (if_neg (ne_true_of_false hid))
  · intro left told
    rw [engineLook_again s hvib hharm ha, engineOnce_vib hq hfree]
    exact congrArg engineLook (if_neg (ne_true_of_false hid))

/-! ## A vibration result (R62, R75, R85) -/

/-- What the check of a vibration record asks. -/
theorem vibIdentity_iff (s : State) (r : VibRecord) :
    vibIdentity s r = true ↔ (s.streams.slots.get r.slot).state ≠ .empty ∧ (s.streams.slots.get r.slot).inst = r.inst ∧
      r.gen = s.active.bandGen := by
  simp [vibIdentity, instanceHolds, and_assoc]

/-- A state with its engine IDLE. -/
def idled (s : State) : State := { s with engine := { s.engine with analysing := none } }

/-- A discarded vibration record leaves every grade that streams form together. -/
theorem vibDiscarded_grades (s : State) (r : VibRecord) :
    (vibDiscarded s r).vib.grades = s.vib.grades ∧ (vibDiscarded s r).vib.linked = s.vib.linked := by
  unfold vibDiscarded
  dsimp only
  split <;> split <;> exact ⟨rfl, rfl⟩

/-- A stale vibration result is discarded. -/
theorem delivery_of_stale_vib {s : State} {r : VibRecord} (hs : s.standing = .active)
    (ha : s.engine.analysing = some (.vib r)) (hid : vibIdentity s r = false) :
    ∃ u, exec .analysisComplete s = .next (settle (engineLook u)) ∧
      u.engine = { s.engine with
        analysing := none,
        vibCounts := { s.engine.vibCounts with
          staleAtDelivery := min (s.engine.vibCounts.staleAtDelivery + 1) 4294967295 } } ∧
      u.vib.grades = s.vib.grades ∧ u.vib.linked = s.vib.linked ∧ u.items = s.items ∧ u.streams = s.streams ∧
      u.harm = s.harm ∧ (r.test = false → u.findings = s.findings) := by
  obtain ⟨counted, hc⟩ : ∃ counted : State, counted = { s with engine := { s.engine with
    vibCounts := { s.engine.vibCounts with staleAtDelivery := bump s.engine.vibCounts.staleAtDelivery } } } := ⟨_, rfl⟩
  have hdeliver : deliverVib s r = vibDiscarded counted r := by
    rw [hc]
    exact if_neg (ne_true_of_false hid)
  refine ⟨idled (vibDiscarded counted r), by rw [exec_analysisComplete_vib hs ha, hdeliver]; rfl, ?_⟩
  have hfindings : r.test = false → (vibDiscarded counted r).findings = s.findings := by
    intro ht
    rw [(vibDiscarded_rules counted r).1 ht, hc]
    split_ifs <;> rfl
  obtain ⟨hgrades, hlinked⟩ := vibDiscarded_grades counted r
  obtain ⟨vib, f, q, hdiscard⟩ := vibDiscarded_only counted r
  have hkept : (vibDiscarded counted r).items = s.items ∧ (vibDiscarded counted r).streams = s.streams ∧
      (vibDiscarded counted r).harm = s.harm := by
    rw [hdiscard, hc]
    exact ⟨rfl, rfl, rfl⟩
  obtain ⟨hitems, hstreams, hharm⟩ := hkept
  have hcounted : counted.vib = s.vib := by rw [hc]
  rw [hcounted] at hgrades hlinked
  refine ⟨?_, hgrades, hlinked, hitems, hstreams, hharm, hfindings⟩
  rw [idled, vibDiscarded_engine, hc]
  rfl

/-- A vibration result that passes its check and is no test. -/
theorem delivery_of_graded {s : State} {r : VibRecord} {v : VibRec} {e : StreamEntry} (hs : s.standing = .active)
    (ha : s.engine.analysing = some (.vib r)) (hid : vibIdentity s r = true) (htest : r.test = false)
    (hv : s.vib.recs.get r.slot = some v) (he : entryAt s r.slot = some e) :
    let set := setOf s e
    let judged := fun (k : Nat) (b : Band) => (judgeBand set (s.ice.get r.turbine).state r.meanSpeed (rateHz r.rate) b
      (reportedLevel r e.scale b) (v.bands.getD k .fresh)).1
    ∃ u v', exec .analysisComplete s = .next (settle (engineLook u)) ∧ u.engine = { s.engine with analysing := none } ∧
      u.vib.recs.get r.slot = some v' ∧ v'.graded = min (v.graded + 1) 4294967295 ∧ v'.meanSpeed = some r.meanSpeed ∧
      v'.window = v.window ∧ u.streams = s.streams ∧ u.speeds = s.speeds ∧ u.harm = s.harm ∧
      (∀ i, i ≠ r.slot → u.vib.recs.get i = s.vib.recs.get i) ∧
      v'.bands.length = set.bands.length ∧ (∀ k b, set.bands[k]? = some b → v'.bands[k]? = some (judged k b)) ∧
      v'.grade = worstGrade (v'.bands.map (fun x => x.grade)) ∧
      (∀ t, u.vib.grades.get t =
        if t = r.turbine then worstGrade ((vibSlots u t).map (streamGrade u)) else s.vib.grades.get t) ∧
      (∀ t b, (u.vib.linked.get t).get b =
        if t = r.turbine then worstGrade ((slotsNaming u (vibSlots u t) b).map (streamGrade u))
        else (s.vib.linked.get t).get b) := by
  intro set judged
  have hdeliver : deliverVib s r =
      gradeWindow s r.turbine r.slot set r.meanSpeed (rateHz r.rate) (set.bands.map (reportedLevel r e.scale)) := by
    unfold deliverVib
    rw [if_pos hid]
    unfold vibResult
    rw [he]
    exact if_neg (ne_true_of_false htest)
  obtain ⟨v', items, f, q, linked, hu, hgraded, hspeed, hwindow, hlen, hbands, hgrade, hothers, hlinked⟩ :=
    gradeWindow_spec s r.turbine r.slot set r.meanSpeed (rateHz r.rate) (reportedLevel r e.scale) v hv
  obtain ⟨u, hgw⟩ : ∃ u, u =
      gradeWindow s r.turbine r.slot set r.meanSpeed (rateHz r.rate) (set.bands.map (reportedLevel r e.scale)) := ⟨_, rfl⟩
  rw [← hgw] at hdeliver hu hlinked
  have hrecs : u.vib.recs = put s.vib.recs r.slot (some v') := by rw [hu]; rfl
  have hgrades : u.vib.grades = put s.vib.grades r.turbine (worstGrade ((vibSlots u r.turbine).map (streamGrade u))) :=
    congrArg (fun x : State => x.vib.grades) hu
  have hlinkedOf : u.vib.linked = linked := by rw [hu]; rfl
  refine ⟨idled u, v', by rw [exec_analysisComplete_vib hs ha, hdeliver]; rfl, ?_, ?_, hgraded, hspeed, hwindow, ?_, ?_, ?_,
    fun i hi => ?_, hlen, hbands, hgrade, fun t => ?_, fun t b => ?_⟩
  · rw [idled, hu]
    rfl
  · change u.vib.recs.get r.slot = _
    rw [hrecs, get_put, if_pos rfl]
  · rw [idled, hu]
    rfl
  · rw [idled, hu]
    rfl
  · rw [idled, hu]
    rfl
  · change u.vib.recs.get i = _
    rw [hrecs, get_put, if_neg hi]
  · change u.vib.grades.get t = if t = r.turbine then worstGrade ((vibSlots u t).map (streamGrade u)) else _
    rw [hgrades, get_put]
    split_ifs with ht
    · rw [ht]
    · rfl
  · change (u.vib.linked.get t).get b =
      if t = r.turbine then worstGrade ((slotsNaming u (vibSlots u t) b).map (streamGrade u)) else _
    rw [hlinkedOf]
    split_ifs with ht
    · rw [ht]
      exact hlinked b
    · rw [hothers t ht]

/-- The result of a test. -/
theorem delivery_of_test {s : State} {r : VibRecord} {v : VibRec} {e : StreamEntry} (hs : s.standing = .active)
    (ha : s.engine.analysing = some (.vib r)) (hid : vibIdentity s r = true) (htest : r.test = true)
    (hv : s.vib.recs.get r.slot = some v) (he : entryAt s r.slot = some e) :
    let set := setOf s e
    let flagged : VibRec := { v with
      lastTest := some (.completed, none),
      bands := (set.bands.zip (fitBands set.bands.length v.bands)).map (fun p =>
        { p.2 with beyond := beyondRange p.1 r.meanSpeed (rateHz r.rate) }) }
    exec .analysisComplete s = .next (settle (engineLook (raise
      { s with engine := { s.engine with analysing := none }, vib := { s.vib with recs := put s.vib.recs r.slot (some flagged) } }
      .vibTest (sourceTurbine e.source) (.slot r.slot) (set.bands.map (fun b => vNat (reportedLevel r e.scale b)))))) := by
  intro set flagged
  have hturbine : slotTurbine s r.slot = sourceTurbine e.source := by
    unfold slotTurbine
    rw [he]
  have hdeliver : deliverVib s r = raise (setVib s r.slot (some flagged)) .vibTest (sourceTurbine e.source) (.slot r.slot)
      (set.bands.map (fun b => vNat (reportedLevel r e.scale b))) := by
    unfold deliverVib
    rw [if_pos hid]
    unfold vibResult
    rw [he]
    dsimp only
    rw [if_pos htest]
    unfold testCompleted
    rw [updVib_of hv, hturbine, List.map_map]
    rfl
  rw [exec_analysisComplete_vib hs ha, hdeliver]
  rfl

end Sys2Proof.Machine
end

section
/-! PROOF. The ratios, the verdict, the Contributor List and the magnitudes of a harmonic result (R61, R90, R97 to R99, R108). -/

namespace Sys2Proof.Machine

/-! ## Ratios (R97) -/

/-- A whole root of a quotient, held to products. -/
theorem isqrt_div_spec (n : Nat) {d : Nat} (hd : 0 < d) :
    isqrt (n / d) * isqrt (n / d) * d ≤ n ∧ n < (isqrt (n / d) + 1) * (isqrt (n / d) + 1) * d := by
  obtain ⟨hle, hlt⟩ := isqrt_spec (n / d)
  exact ⟨(Nat.le_div_iff_mul_le hd).mp hle, (Nat.div_lt_iff_lt_mul hd).mp hlt⟩

/-- A ratio is the root in thousandths rounded down, held at 65,535. -/
theorem ratioOf_rules {n f L : Nat} (hf : 0 < f) (hL : 0 < L) :
    let q := ratioOf n f L
    q ≤ 65535 ∧ (q * L) * (q * L) * f ≤ n * 100000000000000 ∧
      (q < 65535 → n * 100000000000000 < ((q + 1) * L) * ((q + 1) * L) * f) := by
  intro q
  obtain ⟨hle, hlt⟩ := isqrt_div_spec (n * 100000000000000) (d := f * (L * L)) (by positivity)
  obtain ⟨k, hk⟩ : ∃ k, k = isqrt (n * 100000000000000 / (f * (L * L))) := ⟨_, rfl⟩
  rw [← hk] at hle hlt
  have hq : q = min k 65535 := by rw [hk]; rfl
  have hshape (a : Nat) : a * L * (a * L) * f = a * a * (f * (L * L)) := by ring
  refine ⟨by omega, ?_, fun hsmall => ?_⟩
  · rw [hshape]
    have hqk : q ≤ k := by omega
    exact le_trans (Nat.mul_le_mul_right _ (Nat.mul_le_mul hqk hqk)) hle
  · rw [hshape, show q = k by omega]
    exact hlt

/-! ## Comparisons on the feeder streams (R95, R97) -/

/-- The fundamental's mean square of a stream, 0 where it is absent. -/
def streamFund (m : StreamMags) : Nat := (m.nums.getD 0 none).getD 0

/-- The limit of a pair that holds for a stream. -/
def streamLimit (m : StreamMags) (p : LimitPair) : Nat := if m.role = .gridV then p.voltage else p.current

/-- A feeder stream. -/
def FeederStream (m : StreamMags) : Prop := m.role = .gridV ∨ m.role = .gridI

/-- The mean squares of a stream above the fundamental, together. -/
def streamTotal (m : StreamMags) : Nat := ((m.nums.drop 1).map (fun n => n.getD 0)).sum

/-- Order `k + 2` gives a ratio on a stream of the result. -/
def GivenOrder (l : Limits) (ms : List StreamMags) (m : StreamMags) (k : Fin 39) (n : Nat) : Prop :=
  m ∈ ms ∧ FeederStream m ∧ m.nums[k.val + 1]? = some (some n) ∧ 0 < streamLimit m (l.orders.get k) ∧ 0 < streamFund m

/-- The total distortion gives a ratio on a stream of the result. -/
def GivenThd (l : Limits) (ms : List StreamMags) (m : StreamMags) : Prop :=
  m ∈ ms ∧ 0 < streamLimit m l.thd ∧ 0 < streamFund m

/-- The feeder streams are those of the two grid roles. -/
theorem isFeeder_iff (m : StreamMags) : isFeeder m = true ↔ FeederStream m := by
  simp [isFeeder, FeederStream]

/-- When a comparison is made, and what it yields. -/
theorem compareTo_eq_some (num fund limit : Nat) (c : Compared) :
    compareTo num fund limit = some c ↔ (0 < limit ∧ 0 < fund) ∧
      c = { ratio := ratioOf num fund limit, exceeds := exceedsLimit num fund limit, half := aboveHalf num fund limit } := by
  unfold compareTo
  split_ifs with h
  · rw [Option.some.injEq]
    exact ⟨fun hc => ⟨h, hc.symm⟩, fun hc => hc.2.symm⟩
  · exact ⟨fun hc => hc.elim, fun hc => absurd hc.1 h⟩

/-- The limits of an order by its place. -/
theorem limitPairAt_place (l : Limits) (k : Fin 39) : limitPairAt l (k.val + 2) = l.orders.get k := by
  unfold limitPairAt
  rw [Nat.add_sub_cancel, placeOf_val]

/-- An element of a list with a stand-in where there is none. -/
theorem getD_eq_some {α : Type} (xs : List (Option α)) (k : Nat) (a : α) :
    xs.getD k none = some a ↔ xs[k]? = some (some a) := by
  rw [List.getD_eq_getElem?_getD]
  cases xs[k]? <;> simp

/-- The comparison of an order on a stream. -/
theorem compareOrder_eq_some (l : Limits) (k : Fin 39) (m : StreamMags) (c : Compared) :
    compareOrder l (k.val + 2) m = some c ↔ ∃ n, m.nums[k.val + 1]? = some (some n) ∧
      (0 < streamLimit m (l.orders.get k) ∧ 0 < streamFund m) ∧
      c = { ratio := ratioOf n (streamFund m) (streamLimit m (l.orders.get k)),
            exceeds := exceedsLimit n (streamFund m) (streamLimit m (l.orders.get k)),
            half := aboveHalf n (streamFund m) (streamLimit m (l.orders.get k)) } := by
  have hmag : magAt m (k.val + 2) = m.nums.getD (k.val + 1) none := rfl
  unfold compareOrder
  rw [hmag, limitPairAt_place]
  cases hn : m.nums.getD (k.val + 1) none with
  | none =>
    refine ⟨fun h => absurd h.symm (Option.some_ne_none c), fun ⟨n, h, _⟩ => ?_⟩
    rw [← getD_eq_some, hn] at h
    exact absurd h.symm (Option.some_ne_none n)
  | some n =>
    have hget := (getD_eq_some _ _ _).mp hn
    constructor
    · exact fun h => ⟨n, hget, (compareTo_eq_some ..).mp h⟩
    · rintro ⟨n', hn', h⟩
      rw [hget, Option.some.injEq, Option.some.injEq] at hn'
      subst hn'
      exact (compareTo_eq_some ..).mpr h

/-- The comparison of a stream's total distortion. -/
theorem compareThd_eq_some (l : Limits) (m : StreamMags) (c : Compared) :
    compareThd l m = some c ↔ (0 < streamLimit m l.thd ∧ 0 < streamFund m) ∧
      c = { ratio := ratioOf (streamTotal m) (streamFund m) (streamLimit m l.thd),
            exceeds := exceedsLimit (streamTotal m) (streamFund m) (streamLimit m l.thd),
            half := aboveHalf (streamTotal m) (streamFund m) (streamLimit m l.thd) } := compareTo_eq_some ..

/-- The best comparison of the streams of a list. -/
theorem bestOf_map {α : Type} (f : α → Option Compared) (xs : List α) :
    (bestOf (xs.map f) = none ↔ ∀ x ∈ xs, ∀ c, f x ≠ some c) ∧
    ∀ b, bestOf (xs.map f) = some b →
      (∃ x ∈ xs, ∃ c, f x = some c ∧ b.ratio = c.ratio) ∧ (∀ x ∈ xs, ∀ c, f x = some c → c.ratio ≤ b.ratio) ∧
      (b.exceeds = true ↔ ∃ x ∈ xs, ∃ c, f x = some c ∧ c.exceeds = true) ∧
      (b.half = true ↔ ∃ x ∈ xs, ∃ c, f x = some c ∧ c.half = true) := by
  obtain ⟨hnone, hsome⟩ := bestOf_spec (xs.map f)
  have hex (p : Compared → Prop) : (∃ c, some c ∈ xs.map f ∧ p c) ↔ ∃ x ∈ xs, ∃ c, f x = some c ∧ p c := by
    constructor
    · rintro ⟨c, hc, hp⟩
      obtain ⟨x, hx, hfx⟩ := List.mem_map.mp hc
      exact ⟨x, hx, c, hfx, hp⟩
    · rintro ⟨x, hx, c, hfx, hp⟩
      exact ⟨c, List.mem_map.mpr ⟨x, hx, hfx⟩, hp⟩
  refine ⟨?_, fun b hb => ?_⟩
  · rw [hnone]
    constructor
    · intro h x hx c hc
      exact absurd (hc.symm.trans (h _ (List.mem_map.mpr ⟨x, hx, rfl⟩))) (Option.some_ne_none c)
    · intro h c hc
      obtain ⟨x, hx, rfl⟩ := List.mem_map.mp hc
      exact Option.eq_none_iff_forall_ne_some.mpr (h x hx)
  · obtain ⟨hone, hall, hexceeds, hhalf⟩ := hsome b hb
    refine ⟨(hex _).mp hone, fun x hx c hc => hall c (List.mem_map.mpr ⟨x, hx, hc⟩), ?_, ?_⟩
    · rw [hexceeds, hex]
    · rw [hhalf, hex]

/-- The window ratio of an order. -/
def orderBest (l : Limits) (ms : List StreamMags) (h : Nat) : Option Compared :=
  bestOf ((ms.filter isFeeder).map (compareOrder l h))

/-- The orders with a window ratio. -/
theorem mem_windowRatios (l : Limits) (ms : List StreamMags) (h : Nat) (c : Compared) :
    (h, c) ∈ windowRatios l ms ↔ ∃ k : Fin 39, h = k.val + 2 ∧ orderBest l ms h = some c := by
  rw [windowRatios, List.mem_filterMap]
  constructor
  · rintro ⟨h', hmem, heq⟩
    obtain ⟨j, hj, rfl⟩ := List.mem_map.mp hmem
    obtain ⟨c', hc', hpair⟩ := Option.map_eq_some_iff.mp heq
    obtain ⟨rfl, rfl⟩ := Prod.mk.inj hpair
    exact ⟨⟨j, List.mem_range.mp hj⟩, rfl, hc'⟩
  · rintro ⟨k, rfl, hc⟩
    exact ⟨k.val + 2, List.mem_map.mpr ⟨k.val, List.mem_range.mpr k.isLt, rfl⟩, Option.map_eq_some_iff.mpr ⟨c, hc, rfl⟩⟩

/-- The window ratio of an order: which streams give one, the highest, and whether any exceeds its limit or half of it. -/
theorem orderBest_rules (l : Limits) (ms : List StreamMags) (k : Fin 39) :
    (orderBest l ms (k.val + 2) = none ↔ ∀ m n, ¬ GivenOrder l ms m k n) ∧
    ∀ c, orderBest l ms (k.val + 2) = some c →
      (∃ m n, GivenOrder l ms m k n ∧ c.ratio = ratioOf n (streamFund m) (streamLimit m (l.orders.get k))) ∧
      (∀ m n, GivenOrder l ms m k n → ratioOf n (streamFund m) (streamLimit m (l.orders.get k)) ≤ c.ratio) ∧
      (c.exceeds = true ↔ ∃ m n, GivenOrder l ms m k n ∧ exceedsLimit n (streamFund m) (streamLimit m (l.orders.get k)) = true) ∧
      (c.half = true ↔ ∃ m n, GivenOrder l ms m k n ∧ aboveHalf n (streamFund m) (streamLimit m (l.orders.get k)) = true) := by
  obtain ⟨hnone, hsome⟩ := bestOf_map (compareOrder l (k.val + 2)) (ms.filter isFeeder)
  have hfeeder (m : StreamMags) : m ∈ ms.filter isFeeder ↔ m ∈ ms ∧ FeederStream m := by
    rw [List.mem_filter, isFeeder_iff]
  have hex (p : Compared → Prop) :
      (∃ m ∈ ms.filter isFeeder, ∃ c, compareOrder l (k.val + 2) m = some c ∧ p c) ↔
      ∃ m n, GivenOrder l ms m k n ∧ p
        { ratio := ratioOf n (streamFund m) (streamLimit m (l.orders.get k)),
          exceeds := exceedsLimit n (streamFund m) (streamLimit m (l.orders.get k)),
          half := aboveHalf n (streamFund m) (streamLimit m (l.orders.get k)) } := by
    constructor
    · rintro ⟨m, hm, c, hc, hp⟩
      obtain ⟨n, hn, hpos, rfl⟩ := (compareOrder_eq_some l k m c).mp hc
      obtain ⟨hmem, hf⟩ := (hfeeder m).mp hm
      exact ⟨m, n, ⟨hmem, hf, hn, hpos⟩, hp⟩
    · rintro ⟨m, n, ⟨hmem, hf, hn, hpos⟩, hp⟩
      exact ⟨m, (hfeeder m).mpr ⟨hmem, hf⟩, _, (compareOrder_eq_some l k m _).mpr ⟨n, hn, hpos, rfl⟩, hp⟩
  refine ⟨?_, fun c hc => ?_⟩
  · have hany := hex (fun _ => True)
    rw [orderBest, hnone]
    constructor
    · intro h m n hg
      obtain ⟨m', hm', c, hc, -⟩ := hany.mpr ⟨m, n, hg, trivial⟩
      exact h m' hm' c hc
    · intro h m hm c hc
      obtain ⟨m', n, hg, -⟩ := hany.mp ⟨m, hm, c, hc, trivial⟩
      exact h m' n hg
  · obtain ⟨hone, hall, hexceeds, hhalf⟩ := hsome c hc
    refine ⟨(hex (fun d => c.ratio = d.ratio)).mp hone, fun m n hg => ?_, hexceeds.trans (hex (fun d => d.exceeds = true)),
      hhalf.trans (hex (fun d => d.half = true))⟩
    obtain ⟨hmem, hf, hn, hpos⟩ := hg
    exact hall m ((hfeeder m).mpr ⟨hmem, hf⟩) _ ((compareOrder_eq_some l k m _).mpr ⟨n, hn, hpos, rfl⟩)

/-- The total distortion ratio of one kind of feeder stream. -/
theorem thdOf_rules (l : Limits) (ms : List StreamMags) (role : Role) :
    (thdOf l ms role = none ↔ ∀ m, GivenThd l ms m → m.role ≠ role) ∧
    (∀ c, thdOf l ms role = some c →
      (∃ m, GivenThd l ms m ∧ m.role = role ∧
        c.ratio = ratioOf (streamTotal m) (streamFund m) (streamLimit m l.thd)) ∧
      (∀ m, GivenThd l ms m → m.role = role → ratioOf (streamTotal m) (streamFund m) (streamLimit m l.thd) ≤ c.ratio) ∧
      (c.exceeds = true ↔ ∃ m, GivenThd l ms m ∧ m.role = role ∧
        exceedsLimit (streamTotal m) (streamFund m) (streamLimit m l.thd) = true)) := by
  obtain ⟨hnone, hsome⟩ := bestOf_map (compareThd l) (ms.filter (fun m => decide (m.role = role)))
  have hrole (m : StreamMags) : m ∈ ms.filter (fun m => decide (m.role = role)) ↔ m ∈ ms ∧ m.role = role := by
    rw [List.mem_filter, decide_eq_true_eq]
  refine ⟨?_, fun c hc => ?_⟩
  · rw [thdOf, hnone]
    constructor
    · rintro h m ⟨hmem, hpos⟩ hr
      exact h m ((hrole m).mpr ⟨hmem, hr⟩) _ ((compareThd_eq_some l m _).mpr ⟨hpos, rfl⟩)
    · intro h m hm c hc
      obtain ⟨hmem, hr⟩ := (hrole m).mp hm
      exact h m ⟨hmem, ((compareThd_eq_some l m c).mp hc).1⟩ hr
  · obtain ⟨⟨m, hm, d, hd, hratio⟩, hall, hexceeds, -⟩ := hsome c hc
    obtain ⟨hmem, hr⟩ := (hrole m).mp hm
    obtain ⟨hpos, hdeq⟩ := (compareThd_eq_some l m d).mp hd
    refine ⟨⟨m, ⟨hmem, hpos⟩, hr, by rw [hratio, hdeq]⟩, ?_, ?_⟩
    · rintro x ⟨hx, hxpos⟩ hxr
      exact hall x ((hrole x).mpr ⟨hx, hxr⟩) _ ((compareThd_eq_some l x _).mpr ⟨hxpos, rfl⟩)
    · rw [hexceeds]
      constructor
      · rintro ⟨x, hx, d', hd', he⟩
        obtain ⟨hxmem, hxr⟩ := (hrole x).mp hx
        obtain ⟨hxpos, rfl⟩ := (compareThd_eq_some l x d').mp hd'
        exact ⟨x, ⟨hxmem, hxpos⟩, hxr, he⟩
      · rintro ⟨x, ⟨hxmem, hxpos⟩, hxr, he⟩
        exact ⟨x, (hrole x).mpr ⟨hxmem, hxr⟩, _, (compareThd_eq_some l x _).mpr ⟨hxpos, rfl⟩, he⟩

/-- One kind of feeder stream exceeds the distortion limit where one of its streams does. -/
theorem exceeded_thdOf (l : Limits) (ms : List StreamMags) (role : Role) :
    exceeded (thdOf l ms role) = true ↔ ∃ m, GivenThd l ms m ∧ m.role = role ∧
      exceedsLimit (streamTotal m) (streamFund m) (streamLimit m l.thd) = true := by
  obtain ⟨hnone, hsome⟩ := thdOf_rules l ms role
  cases ht : thdOf l ms role with
  | none =>
    refine ⟨fun h => absurd h Bool.false_ne_true, fun ⟨m, hg, hr, _⟩ => absurd hr (hnone.mp ht m hg)⟩
  | some c =>
    obtain ⟨-, -, hexceeds⟩ := hsome c ht
    exact hexceeds

/-- Some order exceeds its limit where one of the feeder streams does. -/
theorem any_windowRatios_exceeds (l : Limits) (ms : List StreamMags) :
    (windowRatios l ms).any (fun p => p.2.exceeds) = true ↔ ∃ m k n, GivenOrder l ms m k n ∧
      exceedsLimit n (streamFund m) (streamLimit m (l.orders.get k)) = true := by
  rw [List.any_eq_true]
  constructor
  · rintro ⟨⟨h, c⟩, hmem, hc⟩
    obtain ⟨k, rfl, hbest⟩ := (mem_windowRatios ..).mp hmem
    obtain ⟨-, -, hexceeds, -⟩ := (orderBest_rules l ms k).2 c hbest
    obtain ⟨m, n, hg, he⟩ := hexceeds.mp hc
    exact ⟨m, k, n, hg, he⟩
  · rintro ⟨m, k, n, hg, he⟩
    obtain ⟨hnone, hsome⟩ := orderBest_rules l ms k
    cases hbest : orderBest l ms (k.val + 2) with
    | none => exact absurd hg (hnone.mp hbest m n)
    | some c =>
      obtain ⟨-, -, hexceeds, -⟩ := hsome c hbest
      exact ⟨(k.val + 2, c), (mem_windowRatios ..).mpr ⟨k, rfl, hbest⟩, hexceeds.mpr ⟨m, n, hg, he⟩⟩

/-- A window exceeds where an order or the distortion of a feeder stream does. -/
theorem verdictOf_exceeding (l : Limits) (ms : List StreamMags) :
    verdictOf l ms = .exceeding ↔
      (∃ m k n, GivenOrder l ms m k n ∧ exceedsLimit n (streamFund m) (streamLimit m (l.orders.get k)) = true) ∨
      ∃ m, GivenThd l ms m ∧ FeederStream m ∧ exceedsLimit (streamTotal m) (streamFund m) (streamLimit m l.thd) = true := by
  have hverdict : verdictOf l ms = .exceeding ↔ (windowRatios l ms).any (fun p => p.2.exceeds) = true ∨
      exceeded (thdOf l ms .gridV) = true ∨ exceeded (thdOf l ms .gridI) = true := by
    unfold verdictOf
    rw [← or_assoc, ← Bool.or_eq_true, ← Bool.or_eq_true]
    split_ifs with h
    · exact ⟨fun _ => h, fun _ => rfl⟩
    · exact ⟨fun hc => hc.elim, fun hc => absurd hc h⟩
  rw [hverdict, any_windowRatios_exceeds, exceeded_thdOf, exceeded_thdOf]
  refine or_congr_right ⟨?_, ?_⟩
  · rintro (⟨m, hg, hr, he⟩ | ⟨m, hg, hr, he⟩)
    · exact ⟨m, hg, .inl hr, he⟩
    · exact ⟨m, hg, .inr hr, he⟩
  · rintro ⟨m, hg, hr | hr, he⟩
    · exact .inl ⟨m, hg, hr, he⟩
    · exact .inr ⟨m, hg, hr, he⟩

/-- The window ratios stand in the order of their orders. -/
theorem windowRatios_sorted (l : Limits) (ms : List StreamMags) : ((windowRatios l ms).map (fun p => p.1)).Pairwise (· < ·) := by
  rw [List.pairwise_map, windowRatios, List.pairwise_filterMap, List.pairwise_map]
  refine List.pairwise_lt_range.imp ?_
  intro a b hab p hp q hq
  obtain ⟨c, -, rfl⟩ := Option.map_eq_some_iff.mp hp
  obtain ⟨d, -, rfl⟩ := Option.map_eq_some_iff.mp hq
  exact Nat.add_lt_add_right hab 2

/-- The comparisons of a window. -/
theorem comparison_rules (l : Limits) (ms : List StreamMags) :
    let fund (m : StreamMags) := (m.nums.getD 0 none).getD 0
    let limit (m : StreamMags) (p : LimitPair) := if m.role = .gridV then p.voltage else p.current
    let feeder (m : StreamMags) := m.role = .gridV ∨ m.role = .gridI
    let total (m : StreamMags) := ((m.nums.drop 1).map (fun n => n.getD 0)).sum
    let given (m : StreamMags) (k : Fin 39) (n : Nat) :=
      m ∈ ms ∧ feeder m ∧ m.nums[k.val + 1]? = some (some n) ∧ 0 < limit m (l.orders.get k) ∧ 0 < fund m
    let givenThd (m : StreamMags) := m ∈ ms ∧ 0 < limit m l.thd ∧ 0 < fund m
    let above (n f L : Nat) := L * L * f < n * 100000000
    (verdictOf l ms = .exceeding ↔ (∃ m k n, given m k n ∧ above n (fund m) (limit m (l.orders.get k))) ∨
      ∃ m, givenThd m ∧ feeder m ∧ above (total m) (fund m) (limit m l.thd)) ∧
    ((windowRatios l ms).map (fun p => p.1)).Pairwise (· < ·) ∧
    (∀ h, (∃ c, (h, c) ∈ windowRatios l ms) ↔ ∃ m k n, given m k n ∧ h = k.val + 2) ∧
    (∀ (k : Fin 39) c, (k.val + 2, c) ∈ windowRatios l ms →
      (∃ m n, given m k n ∧ c.ratio = ratioOf n (fund m) (limit m (l.orders.get k))) ∧
      (∀ m n, given m k n → ratioOf n (fund m) (limit m (l.orders.get k)) ≤ c.ratio) ∧
      (c.half = true ↔ ∃ m n, given m k n ∧
        limit m (l.orders.get k) * limit m (l.orders.get k) * fund m < 4 * (n * 100000000))) ∧
    (∀ role, role = Role.gridV ∨ role = Role.gridI →
      (thdOf l ms role = none ↔ ∀ m, givenThd m → m.role ≠ role) ∧
      (∀ c, thdOf l ms role = some c →
        (∃ m, givenThd m ∧ m.role = role ∧ c.ratio = ratioOf (total m) (fund m) (limit m l.thd)) ∧
        (∀ m, givenThd m → m.role = role → ratioOf (total m) (fund m) (limit m l.thd) ≤ c.ratio))) := by
  intro fund limit feeder total given givenThd above
  refine ⟨?_, windowRatios_sorted l ms, fun h => ?_, fun k c hc => ?_, fun role _ => ?_⟩
  · rw [verdictOf_exceeding]
    simp only [exceedsLimit, decide_eq_true_eq]
    exact Iff.rfl
  · constructor
    · rintro ⟨c, hc⟩
      obtain ⟨k, rfl, hbest⟩ := (mem_windowRatios ..).mp hc
      obtain ⟨⟨m, n, hg, -⟩, -⟩ := (orderBest_rules l ms k).2 c hbest
      exact ⟨m, k, n, hg, rfl⟩
    · rintro ⟨m, k, n, hg, rfl⟩
      cases hbest : orderBest l ms (k.val + 2) with
      | none => exact absurd hg ((orderBest_rules l ms k).1.mp hbest m n)
      | some c => exact ⟨c, (mem_windowRatios ..).mpr ⟨k, rfl, hbest⟩⟩
  · obtain ⟨k', hk', hbest⟩ := (mem_windowRatios ..).mp hc
    obtain ⟨hone, hall, -, hhalf⟩ := (orderBest_rules l ms k).2 c hbest
    simp only [aboveHalf, decide_eq_true_eq] at hhalf
    exact ⟨hone, hall, hhalf⟩
  · obtain ⟨hnone, hsome⟩ := thdOf_rules l ms role
    refine ⟨hnone, fun c hc => ?_⟩
    obtain ⟨hone, hall, -⟩ := hsome c hc
    exact ⟨hone, hall⟩

/-! ## The worst order and the lists (R97, R99, R108) -/

/-- The worst order is none exactly where no order has a ratio. -/
theorem worstOrder_eq_none (rs : List (Nat × Compared)) : worstOrder rs = none ↔ rs = [] := by
  cases rs with
  | nil => exact ⟨fun _ => rfl, fun _ => rfl⟩
  | cons p rest =>
    refine ⟨fun h => ?_, fun h => absurd h (List.cons_ne_nil p rest)⟩
    unfold worstOrder at h
    split at h
    · split_ifs at h
    · exact absurd h (Option.some_ne_none p)

/-- The worst order has the highest ratio, and is the lowest of those. -/
theorem worstOrder_eq_some (rs : List (Nat × Compared)) (hsorted : (rs.map (fun p => p.1)).Pairwise (· < ·))
    (w : Nat × Compared) (hw : worstOrder rs = some w) :
    w ∈ rs ∧ ∀ q ∈ rs, q.2.ratio < w.2.ratio ∨ (q.2.ratio = w.2.ratio ∧ w.1 ≤ q.1) := by
  induction rs generalizing w with
  | nil => exact absurd hw.symm (Option.some_ne_none w)
  | cons p rest ih =>
    rw [List.map_cons, List.pairwise_cons] at hsorted
    obtain ⟨hfirst, hrest⟩ := hsorted
    have hless (q : Nat × Compared) (hq : q ∈ rest) : p.1 < q.1 := hfirst _ (List.mem_map.mpr ⟨q, hq, rfl⟩)
    unfold worstOrder at hw
    cases hr : worstOrder rest with
    | none =>
      rw [hr] at hw
      cases hw
      have hnil := (worstOrder_eq_none rest).mp hr
      subst hnil
      exact ⟨List.mem_cons_self, fun q hq => by rw [List.mem_singleton.mp hq]; exact .inr ⟨rfl, le_refl _⟩⟩
    | some v =>
      rw [hr] at hw
      dsimp only at hw
      obtain ⟨hv, hall⟩ := ih hrest v hr
      split_ifs at hw with hlt
      · cases hw
        refine ⟨List.mem_cons_of_mem p hv, fun q hq => ?_⟩
        rcases List.mem_cons.mp hq with rfl | hq
        · exact .inl hlt
        · exact hall q hq
      · cases hw
        refine ⟨List.mem_cons_self, fun q hq => ?_⟩
        rcases List.mem_cons.mp hq with rfl | hq
        · exact .inr ⟨rfl, le_refl _⟩
        · have hpq := hless q hq
          rcases hall q hq with h | ⟨h, -⟩ <;> omega

/-- The Contributor List of a worst order. -/
theorem contributorsOf_rules (s : State) (ms : List StreamMags) (h : Nat) :
    let place (m : StreamMags) : Option Place :=
      match m.turbine, m.nums.getD (h - 1) none with
      | some t, some n =>
        if m.role = .convI ∧ (s.turbines.get t).present = true then some { turbine := t, current := scaledMag m n } else none
      | _, _ => none
    (contributorsOf s ms (some h)).Perm (ms.filterMap place) ∧
    (contributorsOf s ms (some h)).Pairwise (fun p q =>
      q.current < p.current ∨ (q.current = p.current ∧ p.turbine ≤ q.turbine)) ∧
    contributorsOf s ms none = [] := by
  intro place
  have hplace : placeFor s h = place := by
    funext m
    unfold placeFor magAt
    simp only [place]
    by_cases hr : m.role = .convI
    · rw [if_pos hr]
      cases m.turbine <;> cases m.nums.getD (h - 1) none <;> simp [hr]
    · rw [if_neg hr]
      cases m.turbine <;> cases m.nums.getD (h - 1) none <;> simp [hr]
  obtain ⟨hperm, hsorted⟩ := foldl_insert insertPlace_perm insertPlace_sorted (ms.filterMap (placeFor s h))
  refine ⟨?_, hsorted, rfl⟩
  rw [← hplace]
  exact hperm

/-- The summary, by its count. -/
theorem gridSummaryStep_rules (s : State) (rs : List (Nat × Compared)) :
    let n := s.active.settings.gridPostscale
    let counted (k : Nat) : State := { s with harm := { s.harm with summary := k } }
    (n = 0 → gridSummaryStep s rs = s) ∧
    (n ≠ 0 → s.harm.summary + 1 < n → gridSummaryStep s rs = counted (s.harm.summary + 1)) ∧
    (n ≠ 0 → n ≤ s.harm.summary + 1 → ∃ ps : List (Nat × Compared), ps.Perm (rs.filter (fun p => p.2.half)) ∧
      ps.Pairwise (fun p q => q.2.ratio < p.2.ratio ∨ (q.2.ratio = p.2.ratio ∧ p.1 ≤ q.1)) ∧
      gridSummaryStep s rs = raise (counted 0) .gridSummary (some 0) .none
        ((ps.take 6).map (fun p => [vNat p.1, vNat p.2.ratio])).flatten) := by
  intro n counted
  have hstep : gridSummaryStep s rs =
      if n = 0 then s
      else if s.harm.summary + 1 < n then counted (s.harm.summary + 1)
      else raise (counted 0) .gridSummary (some 0) .none (summaryValues rs) := rfl
  rw [hstep]
  refine ⟨fun h => if_pos h, fun h hlt => ?_, fun h hle => ?_⟩
  · rw [if_neg h, if_pos hlt]
  · obtain ⟨hperm, hsorted⟩ := foldl_insert insertRatio_perm insertRatio_sorted (rs.filter (fun p => p.2.half))
    refine ⟨_, hperm, hsorted, ?_⟩
    rw [if_neg h, if_neg (Nat.not_lt.mpr hle)]
    rfl

/-! ## Magnitudes (R61, R90, R98) -/

/-- The hysteresis of a result. -/
theorem hysteresisOf_rules {m : StreamMags} (hden : 0 < m.den) :
    let h := hysteresisOf m
    h * h * (10000 * m.den) ≤ 8 * (m.nums.getD 0 none).getD 0 ∧
      8 * (m.nums.getD 0 none).getD 0 < (h + 1) * (h + 1) * (10000 * m.den) :=
  isqrt_div_spec _ (by omega)

/-- The place of a feeder stream among the fundamentals. -/
theorem feederPlace_val {m : StreamMags} (h : m.role = .gridV ∨ m.role = .gridI) :
    (feederPlace m.role m.phase).val = (if m.role = .gridI then 3 else 0) + phaseCode m.phase := by
  rcases h with h | h <;> rw [h] <;> cases m.phase <;> rfl

/-- A place written by no element of a list keeps its value; one that every writer of gives the same value has it. -/
theorem foldl_put_get {α β : Type} {n : Nat} (p : α → Fin n) (f : α → β) (k : Fin n) (v : β) (xs : List α) (t : Tab β n)
    (hall : ∀ x ∈ xs, p x = k → f x = v) (hv : t.get k = v ∨ ∃ x ∈ xs, p x = k) :
    (xs.foldl (fun t x => put t (p x) (f x)) t).get k = v := by
  induction xs generalizing t with
  | nil => exact hv.resolve_right (fun ⟨_, hx, _⟩ => List.not_mem_nil hx)
  | cons x xs ih =>
    rw [List.foldl_cons]
    refine ih _ (fun y hy => hall y (List.mem_cons_of_mem x hy)) ?_
    rw [get_put]
    by_cases hx : k = p x
    · rw [if_pos hx]
      exact .inl (hall x List.mem_cons_self hx.symm)
    · rw [if_neg hx]
      refine hv.imp id ?_
      rintro ⟨y, hy, hyk⟩
      rcases List.mem_cons.mp hy with rfl | hy
      · exact absurd hyk.symm hx
      · exact ⟨y, hy, hyk⟩

/-- The fundamentals of a result. -/
theorem feederFundamentals_rules (ms : List StreamMags) :
    let feeder (m : StreamMags) := m.role = .gridV ∨ m.role = .gridI
    let place (m : StreamMags) := (if m.role = .gridI then 3 else 0) + phaseCode m.phase
    (∀ m ∈ ms, feeder m → (∀ x ∈ ms, feeder x → place x = place m → x = m) →
      ∀ k : Fin 6, k.val = place m → (feederFundamentals ms).get k = (m.nums.getD 0 none).map (scaledMag m)) ∧
    (∀ k : Fin 6, (∀ m ∈ ms, feeder m → place m ≠ k.val) → (feederFundamentals ms).get k = none) := by
  intro feeder place
  have hmem (m : StreamMags) : m ∈ ms.filter isFeeder ↔ m ∈ ms ∧ feeder m := by
    rw [List.mem_filter, isFeeder_iff]
    exact Iff.rfl
  have hplace {m : StreamMags} (hm : feeder m) : (feederPlace m.role m.phase).val = place m := feederPlace_val hm
  refine ⟨fun m hm hf hone k hk => ?_, fun k hnone => ?_⟩
  · refine foldl_put_get (fun m => feederPlace m.role m.phase) (fun m => (magAt m 1).map (scaledMag m)) k _ _ _ ?_ (.inr ?_)
    · intro x hx hxk
      obtain ⟨hxm, hxf⟩ := (hmem x).mp hx
      rw [hone x hxm hxf (by rw [← hplace hxf, hxk, hk])]
      rfl
    · exact ⟨m, (hmem m).mpr ⟨hm, hf⟩, Fin.ext ((hplace hf).trans hk.symm)⟩
  · refine foldl_put_get (fun m => feederPlace m.role m.phase) (fun m => (magAt m 1).map (scaledMag m)) k _ _ _ ?_
      (.inl (get_replicate none k))
    intro x hx hxk
    obtain ⟨hxm, hxf⟩ := (hmem x).mp hx
    exact absurd (by rw [← hplace hxf, hxk]) (hnone x hxm hxf)

/-- The magnitude of an order that a result covers. -/
theorem resultOrders_getD {h : Nat} (h1 : 1 ≤ h) (h40 : h ≤ 40) (f : Nat → Option Nat) :
    (resultOrders.map f).getD (h - 1) none = f h := by
  have hlt : h - 1 < 40 := by omega
  rw [List.getD_eq_getElem?_getD, List.getElem?_map, resultOrders, List.getElem?_map, List.getElem?_range hlt]
  rw [Option.map_some, Option.map_some, Option.getD_some, Nat.sub_add_cancel h1]

/-- The orders that are absent. -/
theorem orderNum_eq_none (meanFund : Nat) (rate : RateCode) (opening : Time) (xs : List Sample) (h : Nat) :
    orderNum meanFund rate opening xs h = none ↔ 45000 * rateHz rate ≤ h * meanFund * 100 := by
  unfold orderNum orderPresent
  split_ifs with hp
  · rw [decide_eq_true_eq] at hp
    exact ⟨fun hc => hc.elim, fun hc => absurd hp (Nat.not_lt.mpr hc)⟩
  · rw [decide_eq_true_eq] at hp
    exact ⟨fun _ => Nat.not_lt.mp hp, fun _ => rfl⟩

/-- The streams of a result and their absent orders. -/
theorem mags_rules (s : State) (r : HarmRecord) (x : SecStream) {h : Nat} (h1 : 1 ≤ h) (h40 : h ≤ 40) :
    ((primaryMags s r).nums.getD (h - 1) none = none ↔ 45000 * rateHz r.rate ≤ h * r.meanFund * 100) ∧
    ((secondaryMags s r x).nums.getD (h - 1) none = none ↔ 45000 * rateHz x.rate ≤ h * r.meanFund * 100) ∧
    (primaryMags s r).role = .gridV ∧ (secondaryMags s r x).role = x.role ∧ (secondaryMags s r x).phase = x.phase ∧
    (secondaryMags s r x).turbine = x.turbine := by
  refine ⟨?_, ?_, rfl, rfl, rfl, rfl⟩
  · rw [primaryMags, resultOrders_getD h1 h40, orderNum_eq_none]
  · rw [secondaryMags, resultOrders_getD h1 h40, orderNum_eq_none]

end Sys2Proof.Machine
end

section
/-! PROOF. The harmonic result at its delivery, and the grid state that it moves (R62, R94, R97 to R104, R108). -/

namespace Sys2Proof.Machine

/-! ## The grid record after a window (R101 to R104) -/

/-- The first request that a state would choose. -/
theorem selectPlace_setGrid {s : State} {g : GridRec} (h : g.requests = s.harm.grid.requests) :
    selectPlace (setGrid s g) = selectPlace s := by
  have hcandidate : candidate (setGrid s g) = candidate s := by
    funext t
    unfold candidate curtailRequested
    rw [show (setGrid s g).harm.grid.requests = s.harm.grid.requests from h]
    rfl
  unfold selectPlace
  rw [hcandidate]
  rfl

/-- An exceeding window outside CONDITION: EXCEEDING, or CONDITION with its first request. -/
theorem gridStep_exceeding {s : State} (h : s.harm.grid.state ≠ .condition) (openMs : Nat) :
    let g := s.harm.grid
    let marked : GridRec := { g with
      exceedRun := min (g.exceedRun + 1) 255, cleanRun := 0, onset := if g.state = .normal then some openMs else g.onset }
    (gridStep s .exceeding openMs).harm.grid =
      if s.active.settings.gridPersist ≤ min (g.exceedRun + 1) 255 then { marked with
        state := .condition, escalation := 0, armed := false, requests := g.requests ++ (selectPlace s).toList }
      else { marked with state := .exceeding } := by
  intro g marked
  have hentered (st : GridState) : (enterCondition (setGrid s { marked with state := st })).harm.grid = { marked with
      state := .condition, escalation := 0, armed := false, requests := g.requests ++ (selectPlace s).toList } := by
    rw [enterCondition_grid, selectPlace_setGrid (s := s) (g := { marked with state := st }) rfl]
    rfl
  have hruns (st : GridState) (hst : s.harm.grid.state = st) : (withVerdictRuns s.harm.grid .exceeding).state = st := hst
  cases hst : s.harm.grid.state with
  | condition => exact absurd hst h
  | normal =>
    have hstep : gridStep s .exceeding openMs =
        if s.active.settings.gridPersist ≤ min (g.exceedRun + 1) 255
        then enterCondition (setGrid s { marked with state := .exceeding }) else setGrid s { marked with state := .exceeding } := by
      have hmarked : marked = { withVerdictRuns g .exceeding with onset := some openMs } := by
        simp only [marked, g, withVerdictRuns, hst, if_true]
      rw [hmarked]
      unfold gridStep
      dsimp only
      rw [hruns _ hst]
      rfl
    rw [hstep]
    split_ifs
    · exact hentered .exceeding
    · rfl
  | exceeding =>
    have hstep : gridStep s .exceeding openMs =
        if s.active.settings.gridPersist ≤ min (g.exceedRun + 1) 255
        then enterCondition (setGrid s { marked with state := .exceeding }) else setGrid s { marked with state := .exceeding } := by
      have hmarked : { marked with state := .exceeding } = withVerdictRuns g .exceeding := by
        simp only [marked, g, withVerdictRuns, hst, reduceCtorEq, if_false]
      rw [hmarked]
      unfold gridStep
      dsimp only
      rw [hruns _ hst]
      rfl
    rw [hstep]
    split_ifs
    · exact hentered .exceeding
    · rfl

/-- An exceeding window in CONDITION: the escalation count, or an escalation tried. -/
theorem gridStep_exceeding_of_condition {s : State} (h : s.harm.grid.state = .condition) (openMs : Nat) :
    let g := s.harm.grid
    let runs : GridRec := { g with exceedRun := min (g.exceedRun + 1) 255, cleanRun := 0 }
    (gridStep s .exceeding openMs).harm.grid =
      if s.active.settings.escalation ≤ min (g.escalation + 1) 255 then { runs with
        escalation := 0,
        requests := if g.requests.length < s.active.settings.cmax then g.requests ++ (selectPlace s).toList else g.requests }
      else { runs with escalation := min (g.escalation + 1) 255 } := by
  intro g runs
  have hstep : gridStep s .exceeding openMs = exceedInCondition (setGrid s runs) := by
    unfold gridStep
    dsimp only
    rw [show (withVerdictRuns s.harm.grid .exceeding).state = .condition from h]
    rfl
  have hexceed : exceedInCondition (setGrid s runs) =
      if s.active.settings.escalation ≤ min (g.escalation + 1) 255 then escalate (setGrid s runs)
      else setGrid s { runs with escalation := min (g.escalation + 1) 255 } := rfl
  rw [hstep, hexceed]
  split
  · rw [escalate_grid, selectPlace_setGrid (s := s) (g := runs) rfl]
    rfl
  · rfl

/-- A clean window outside CONDITION: NORMAL. -/
theorem gridStep_clean {s : State} (h : s.harm.grid.state ≠ .condition) (openMs : Nat) :
    let g := s.harm.grid
    (gridStep s .clean openMs).harm.grid = { g with
      cleanRun := min (g.cleanRun + 1) 255, exceedRun := 0, state := .normal,
      onset := if g.state = .exceeding then none else g.onset } := by
  intro g
  unfold gridStep
  cases hst : s.harm.grid.state with
  | condition => exact absurd hst h
  | normal => simp [withVerdictRuns, setGrid, g, hst]
  | exceeding => simp [withVerdictRuns, setGrid, g, hst]

/-- A clean window in CONDITION: the release, where it is due. -/
theorem gridStep_clean_of_condition {s : State} (h : s.harm.grid.state = .condition) (openMs : Nat) :
    let g := s.harm.grid
    let st := s.active.settings
    let runs : GridRec := { g with cleanRun := min (g.cleanRun + 1) 255, exceedRun := 0 }
    (gridStep s .clean openMs).harm.grid =
      if g.armed = true ∨ (st.response = .following ∧ st.release ≤ min (g.cleanRun + 1) 255) then
        { runs with state := .normal, onset := none, escalation := 0, armed := false, requests := [] }
      else runs := by
  intro g st runs
  have hstep : gridStep s .clean openMs = cleanInCondition (setGrid s runs) := by
    unfold gridStep
    dsimp only
    rw [show (withVerdictRuns s.harm.grid .clean).state = .condition from h]
    rfl
  have hclean : cleanInCondition (setGrid s runs) =
      if g.armed = true then releaseGrid (setGrid s runs) .clearGrid
      else if st.response = .following ∧ st.release ≤ min (g.cleanRun + 1) 255 then releaseGrid (setGrid s runs) .cleanRun
      else setGrid s runs := rfl
  rw [hstep, hclean]
  by_cases harmed : g.armed = true
  · rw [if_pos harmed, if_pos (.inl harmed), releaseGrid_grid]
    rfl
  · by_cases hdue : st.response = .following ∧ st.release ≤ min (g.cleanRun + 1) 255
    · rw [if_neg harmed, if_pos hdue, if_pos (.inr hdue), releaseGrid_grid]
      rfl
    · rw [if_neg harmed, if_neg hdue, if_neg (not_or.mpr ⟨harmed, hdue⟩)]
      rfl

/-- What an exceeding window makes of the grid record. -/
theorem gridStep_of_exceeding (s : State) (openMs : Nat) :
    let g := s.harm.grid
    let st := s.active.settings
    let after := (gridStep s .exceeding openMs).harm.grid
    after.exceedRun = min (g.exceedRun + 1) 255 ∧ after.cleanRun = 0 ∧
    after.onset = (if g.state = .normal then some openMs else g.onset) ∧
    (g.state ≠ .condition → after.exceedRun < st.gridPersist → after.state = .exceeding ∧ after.requests = g.requests) ∧
    (g.state ≠ .condition → st.gridPersist ≤ after.exceedRun →
      after.state = .condition ∧ after.escalation = 0 ∧ after.armed = false ∧
      after.requests = g.requests ++ (selectPlace s).toList) ∧
    (g.state = .condition → after.state = .condition ∧
      (min (g.escalation + 1) 255 < st.escalation →
        after.escalation = min (g.escalation + 1) 255 ∧ after.requests = g.requests) ∧
      (st.escalation ≤ min (g.escalation + 1) 255 → after.escalation = 0 ∧
        after.requests = (if g.requests.length < st.cmax then g.requests ++ (selectPlace s).toList else g.requests))) := by
  intro g st after
  have hafter : after = (gridStep s .exceeding openMs).harm.grid := rfl
  by_cases hc : g.state = .condition
  · rw [gridStep_exceeding_of_condition hc] at hafter
    have honset : (if g.state = .normal then some openMs else g.onset) = g.onset := if_neg (by rw [hc]; exact GridState.noConfusion)
    rw [honset]
    by_cases he : st.escalation ≤ min (g.escalation + 1) 255
    · rw [if_pos he] at hafter
      rw [hafter]
      exact ⟨rfl, rfl, rfl, fun h => absurd hc h, fun h => absurd hc h,
        fun _ => ⟨hc, fun h => absurd he (Nat.not_le.mpr h), fun _ => ⟨rfl, rfl⟩⟩⟩
    · rw [if_neg he] at hafter
      rw [hafter]
      exact ⟨rfl, rfl, rfl, fun h => absurd hc h, fun h => absurd hc h,
        fun _ => ⟨hc, fun _ => ⟨rfl, rfl⟩, fun h => absurd h he⟩⟩
  · rw [gridStep_exceeding hc] at hafter
    by_cases hp : st.gridPersist ≤ min (g.exceedRun + 1) 255
    · rw [if_pos hp] at hafter
      rw [hafter]
      exact ⟨rfl, rfl, rfl, fun _ h => absurd hp (Nat.not_le.mpr h), fun _ _ => ⟨rfl, rfl, rfl, rfl⟩, fun h => absurd h hc⟩
    · rw [if_neg hp] at hafter
      rw [hafter]
      exact ⟨rfl, rfl, rfl, fun _ _ => ⟨rfl, rfl⟩, fun _ h => absurd h hp, fun h => absurd h hc⟩

/-- What a clean window makes of the grid record. -/
theorem gridStep_of_clean (s : State) (openMs : Nat) :
    let g := s.harm.grid
    let st := s.active.settings
    let after := (gridStep s .clean openMs).harm.grid
    after.cleanRun = min (g.cleanRun + 1) 255 ∧ after.exceedRun = 0 ∧
    (g.state ≠ .condition → after.state = .normal ∧ after.requests = g.requests) ∧
    (g.state = .exceeding → after.onset = none) ∧
    (g.state = .condition → g.armed = true ∨ (st.response = .following ∧ st.release ≤ after.cleanRun) →
      after.state = .normal ∧ after.onset = none ∧ after.requests = [] ∧ after.armed = false) ∧
    (g.state = .condition → g.armed = false → (st.response = .latched ∨ after.cleanRun < st.release) →
      after.state = .condition ∧ after.onset = g.onset ∧ after.requests = g.requests) := by
  intro g st after
  have hafter : after = (gridStep s .clean openMs).harm.grid := rfl
  by_cases hc : g.state = .condition
  · rw [gridStep_clean_of_condition hc] at hafter
    have hnotExceeding : g.state ≠ .exceeding := by rw [hc]; exact GridState.noConfusion
    by_cases hdue : g.armed = true ∨ (st.response = .following ∧ st.release ≤ min (g.cleanRun + 1) 255)
    · rw [if_pos hdue] at hafter
      rw [hafter]
      refine ⟨rfl, rfl, fun h => absurd hc h, fun h => absurd h hnotExceeding, fun _ _ => ⟨rfl, rfl, rfl, rfl⟩, ?_⟩
      intro _ harmed hlate
      rcases hdue with h | ⟨hfollowing, hle⟩
      · rw [harmed] at h
        exact absurd h Bool.false_ne_true
      · rcases hlate with hlatched | hlt
        · rw [hfollowing] at hlatched
          exact ResponseMode.noConfusion hlatched
        · exact absurd hle (Nat.not_le.mpr hlt)
    · rw [if_neg hdue] at hafter
      rw [hafter]
      exact ⟨rfl, rfl, fun h => absurd hc h, fun h => absurd h hnotExceeding, fun _ h => absurd h hdue, fun _ _ _ => ⟨hc, rfl, rfl⟩⟩
  · rw [gridStep_clean hc] at hafter
    rw [hafter]
    exact ⟨rfl, rfl, fun _ => ⟨rfl, rfl⟩, fun h => if_pos h, fun h => absurd h hc, fun h => absurd h hc⟩

/-! ## The result (R62, R94, R98) -/

/-- The analysis of a harmonic record complete in the ACTIVE part: the result is delivered and the engine goes on. -/
theorem exec_analysisComplete_harm {s : State} {r : HarmRecord} (hs : s.standing = .active)
    (ha : s.engine.analysing = some (.harm r)) : exec .analysisComplete s = .next (settle (engineIdle (deliverHarm s r))) := by
  rw [exec_of_event (u := analysisDone s) (b := pathActive s) rfl (pathActive_of hs)]
  unfold analysisDone
  rw [ha]

/-- A stale harmonic result is discarded and counted. -/
theorem delivery_of_stale_harm {s : State} {r : HarmRecord} (hs : s.standing = .active)
    (ha : s.engine.analysing = some (.harm r)) (hid : harmIdentity s r = false) :
    exec .analysisComplete s = .next (settle (engineLook { s with
      engine := { s.engine with
        analysing := none,
        harmCounts := { s.engine.harmCounts with
          staleAtDelivery := min (s.engine.harmCounts.staleAtDelivery + 1) 4294967295 } },
      harm := { s.harm with discarded := min (s.harm.discarded + 1) 4294967295 } })) := by
  rw [exec_analysisComplete_harm hs ha, deliverHarm, if_neg (ne_true_of_false hid)]
  rfl

/-- The summary's count writes its own count and findings only, and leaves the engine to be set IDLE before or after. -/
theorem gridSummaryStep_keeps (s : State) (rs : List (Nat × Compared)) :
    let u := gridSummaryStep s rs
    idled u = gridSummaryStep (idled s) rs ∧ u.streams = s.streams ∧ u.speeds = s.speeds ∧ u.items = s.items ∧
      u.active = s.active ∧ u.engine = s.engine ∧ u.harm = { s.harm with summary := u.harm.summary } := by
  intro u
  obtain ⟨hzero, hcount, hsummary⟩ := gridSummaryStep_rules s rs
  by_cases h0 : s.active.settings.gridPostscale = 0
  · have hidle : gridSummaryStep (idled s) rs = idled s := (gridSummaryStep_rules (idled s) rs).1 h0
    rw [hidle, show u = s from hzero h0]
    exact ⟨rfl, rfl, rfl, rfl, rfl, rfl, rfl⟩
  · by_cases hlt : s.harm.summary + 1 < s.active.settings.gridPostscale
    · have hidle := (gridSummaryStep_rules (idled s) rs).2.1 h0 hlt
      rw [hidle, show u = _ from hcount h0 hlt]
      exact ⟨rfl, rfl, rfl, rfl, rfl, rfl, rfl⟩
    · have hraised (x : State) (hx : ¬ x.active.settings.gridPostscale = 0)
          (hxl : ¬ x.harm.summary + 1 < x.active.settings.gridPostscale) : gridSummaryStep x rs =
            raise (setHarm x { x.harm with summary := 0 }) .gridSummary (some 0) .none (summaryValues rs) := by
        unfold gridSummaryStep
        dsimp only
        rw [if_neg hx, if_neg hxl]
      rw [hraised (idled s) h0 hlt, show u = _ from hraised s h0 hlt]
      exact ⟨rfl, rfl, rfl, rfl, rfl, rfl, rfl⟩

/-- A result's window stored, with its Contributor List, before the grid state moves. -/
def resultStored (s : State) (primary : StreamMags) (rest : List StreamMags) (meanFund : Nat) : State :=
  let h := storeResult s.harm s.active.limits (primary :: rest) primary meanFund
  setHarm s { h with contributors := contributorsOf s (primary :: rest) h.grid.worst }

/-- A result's use: stored, then the grid state and the summary. -/
theorem useMagnitudes_eq (s : State) (primary : StreamMags) (rest : List StreamMags) (meanFund openMs : Nat) :
    useMagnitudes s primary rest meanFund openMs = gridSummaryStep
      (gridStep (resultStored s primary rest meanFund) (verdictOf s.active.limits (primary :: rest)) openMs)
      (windowRatios s.active.limits (primary :: rest)) := rfl

/-- What the grid state's step leaves of a stored result. -/
theorem gridStep_resultStored (s : State) (primary : StreamMags) (rest : List StreamMags) (meanFund openMs : Nat) (v : Verdict) :
    let ms := primary :: rest
    let worst := worstOrder (windowRatios s.active.limits ms)
    let g := (gridStep (resultStored s primary rest meanFund) v openMs).harm.grid
    g.verdict = some (verdictOf s.active.limits ms) ∧ g.worst = worst.map (fun p => p.1) ∧
      g.worstRatio = worst.map (fun p => p.2.ratio) ∧ g.meanFund = some meanFund ∧
      g.thdV = (thdOf s.active.limits ms .gridV).map (fun c => c.ratio) ∧
      g.thdI = (thdOf s.active.limits ms .gridI).map (fun c => c.ratio) ∧ g.fundamentals = feederFundamentals ms := by
  intro ms worst g
  have hfields := gridStep_fields (resultStored s primary rest meanFund) v openMs
  simp only [resultFields, Prod.mk.injEq] at hfields
  obtain ⟨⟨hverdict, hworst, hratio, hthdV, hthdI, hmean⟩, hfund, -⟩ := hfields
  exact ⟨hverdict, hworst, hratio, hmean, hthdV, hthdI, hfund⟩

/-- The place chosen from the Contributor List of a stored result. -/
theorem selectPlace_resultStored (s : State) (primary : StreamMags) (rest : List StreamMags) (meanFund : Nat) :
    let places := contributorsOf s (primary :: rest)
      ((worstOrder (windowRatios s.active.limits (primary :: rest))).map (fun p => p.1))
    selectPlace (resultStored s primary rest meanFund) =
      (places.find? (fun p => candidate s p.turbine)).map (fun p => p.turbine) := rfl

/-- The state behind a used result: what it leaves, what it stores, and the grid record that the grid state's step makes. -/
theorem useMagnitudes_stores (s : State) (primary : StreamMags) (rest : List StreamMags) (meanFund openMs : Nat) :
    let ms := primary :: rest
    let v := verdictOf s.active.limits ms
    let worst := worstOrder (windowRatios s.active.limits ms)
    let u := useMagnitudes s primary rest meanFund openMs
    (u.engine = s.engine ∧ u.streams = s.streams ∧ u.speeds = s.speeds ∧ u.items = s.items ∧ u.active = s.active) ∧
    (u.harm.contributors = contributorsOf s ms (worst.map (fun p => p.1)) ∧
      u.harm.analysed = min (s.harm.analysed + 1) 4294967295 ∧
      u.harm.exceedings = (if v = .exceeding then min (s.harm.exceedings + 1) 4294967295 else s.harm.exceedings) ∧
      u.harm.former = s.harm.former ∧ u.harm.detector = { s.harm.detector with h := hysteresisOf primary }) ∧
    u.harm.grid = (gridStep (resultStored s primary rest meanFund) v openMs).harm.grid ∧
    ∃ x, idled u = gridSummaryStep x (windowRatios s.active.limits ms) ∧ x.active = s.active ∧
      x.harm.summary = s.harm.summary := by
  intro ms v worst u
  obtain ⟨stored, hstored⟩ : ∃ stored, stored = resultStored s primary rest meanFund := ⟨_, rfl⟩
  obtain ⟨x, hx⟩ : ∃ x, x = gridStep stored v openMs := ⟨_, rfl⟩
  have hu : u = gridSummaryStep x (windowRatios s.active.limits ms) := by
    rw [hx, hstored]
    exact useMagnitudes_eq ..
  obtain ⟨hidle, hstreams, hspeeds, hitems, hactive, hengine, hharm⟩ := gridSummaryStep_keeps x (windowRatios s.active.limits ms)
  rw [← hu] at hidle hstreams hspeeds hitems hactive hengine hharm
  obtain ⟨hxstreams, hxspeeds, hxitems, hxactive, hxengine, hxharm⟩ := (hx ▸ gridStep_gridOnly stored v openMs : GridOnly stored x).keeps
  have hrest : u.harm = { stored.harm with grid := x.harm.grid, summary := u.harm.summary } := by
    rw [hharm, hxharm]
  refine ⟨⟨?_, ?_, ?_, ?_, ?_⟩, ?_, ?_, idled x, hidle, ?_, ?_⟩
  · rw [hengine, hxengine, hstored]
    rfl
  · rw [hstreams, hxstreams, hstored]
    rfl
  · rw [hspeeds, hxspeeds, hstored]
    rfl
  · rw [hitems, hxitems, hstored]
    rfl
  · rw [hactive, hxactive, hstored]
    rfl
  · rw [hrest, hstored]
    exact ⟨rfl, rfl, rfl, rfl, rfl⟩
  · rw [hrest, ← hstored, hx]
  · change x.active = s.active
    rw [hxactive, hstored]
    rfl
  · change x.harm.summary = s.harm.summary
    rw [hxharm, hstored]
    rfl

/-- A harmonic result that passes its check. -/
theorem deliverHarm_of_identity {s : State} {r : HarmRecord} (hid : harmIdentity s r = true) :
    let struck : State := { s with engine := { s.engine with omitted := bumpBy s.engine.omitted (struckCount s r) } }
    deliverHarm s r = useMagnitudes struck (primaryMags s r) ((keptSecondaries s r).map (secondaryMags s r)) r.meanFund
      (msOf r.opening) := by
  intro struck
  unfold deliverHarm
  rw [if_pos hid]
  rfl

/-- The result at its delivery, with the streams of the result as they are. -/
theorem delivery_of_mags {s : State} {r : HarmRecord} (hs : s.standing = .active)
    (ha : s.engine.analysing = some (.harm r)) (hid : harmIdentity s r = true) (primary : StreamMags) (rest : List StreamMags)
    (hprimary : primary = primaryMags s r) (hsecondary : rest = (keptSecondaries s r).map (secondaryMags s r)) :
    let ms := primary :: rest
    let v := verdictOf s.active.limits ms
    let worst := worstOrder (windowRatios s.active.limits ms)
    let places := contributorsOf s ms (worst.map (fun p => p.1))
    let chosen := (places.find? (fun p => candidate s p.turbine)).map (fun p => p.turbine)
    let g := s.harm.grid
    let st := s.active.settings
    ∃ u, exec .analysisComplete s = .next (settle (engineLook u)) ∧
      u.engine = { s.engine with
        analysing := none,
        omitted := min (s.engine.omitted + (r.secondaries.length - (keptSecondaries s r).length)) 4294967295 } ∧
      u.streams = s.streams ∧ u.speeds = s.speeds ∧ u.items = s.items ∧ u.active = s.active ∧
      u.harm.contributors = places ∧ u.harm.analysed = min (s.harm.analysed + 1) 4294967295 ∧
      u.harm.exceedings = (if v = .exceeding then min (s.harm.exceedings + 1) 4294967295 else s.harm.exceedings) ∧
      u.harm.former = s.harm.former ∧ u.harm.grid.verdict = some v ∧ u.harm.grid.worst = worst.map (fun p => p.1) ∧
      u.harm.grid.worstRatio = worst.map (fun p => p.2.ratio) ∧ u.harm.grid.meanFund = some r.meanFund ∧
      u.harm.grid.thdV = (thdOf s.active.limits ms .gridV).map (fun c => c.ratio) ∧
      u.harm.grid.thdI = (thdOf s.active.limits ms .gridI).map (fun c => c.ratio) ∧
      u.harm.grid.fundamentals = feederFundamentals ms ∧
      u.harm.detector = { s.harm.detector with h := hysteresisOf primary } ∧
      (∃ x, u = gridSummaryStep x (windowRatios s.active.limits ms) ∧ x.active = s.active ∧ x.harm.summary = s.harm.summary) ∧
      (v = .exceeding →
        u.harm.grid.exceedRun = min (g.exceedRun + 1) 255 ∧ u.harm.grid.cleanRun = 0 ∧
        u.harm.grid.onset = (if g.state = .normal then some (msOf r.opening) else g.onset) ∧
        (g.state ≠ .condition → u.harm.grid.exceedRun < st.gridPersist →
          u.harm.grid.state = .exceeding ∧ u.harm.grid.requests = g.requests) ∧
        (g.state ≠ .condition → st.gridPersist ≤ u.harm.grid.exceedRun →
          u.harm.grid.state = .condition ∧ u.harm.grid.escalation = 0 ∧ u.harm.grid.armed = false ∧
          u.harm.grid.requests = g.requests ++ chosen.toList) ∧
        (g.state = .condition → u.harm.grid.state = .condition ∧
          (min (g.escalation + 1) 255 < st.escalation →
            u.harm.grid.escalation = min (g.escalation + 1) 255 ∧ u.harm.grid.requests = g.requests) ∧
          (st.escalation ≤ min (g.escalation + 1) 255 → u.harm.grid.escalation = 0 ∧
            u.harm.grid.requests = (if g.requests.length < st.cmax then g.requests ++ chosen.toList else g.requests)))) ∧
      (v = .clean →
        u.harm.grid.cleanRun = min (g.cleanRun + 1) 255 ∧ u.harm.grid.exceedRun = 0 ∧
        (g.state ≠ .condition → u.harm.grid.state = .normal ∧ u.harm.grid.requests = g.requests) ∧
        (g.state = .exceeding → u.harm.grid.onset = none) ∧
        (g.state = .condition → g.armed = true ∨ (st.response = .following ∧ st.release ≤ u.harm.grid.cleanRun) →
          u.harm.grid.state = .normal ∧ u.harm.grid.onset = none ∧ u.harm.grid.requests = [] ∧ u.harm.grid.armed = false) ∧
        (g.state = .condition → g.armed = false → (st.response = .latched ∨ u.harm.grid.cleanRun < st.release) →
          u.harm.grid.state = .condition ∧ u.harm.grid.onset = g.onset ∧ u.harm.grid.requests = g.requests)) := by
  intro ms v worst places chosen g st
  obtain ⟨struck, hstruck⟩ : ∃ struck : State, struck =
    { s with engine := { s.engine with omitted := bumpBy s.engine.omitted (struckCount s r) } } := ⟨_, rfl⟩
  have hdeliver : deliverHarm s r = useMagnitudes struck primary rest r.meanFund (msOf r.opening) := by
    rw [deliverHarm_of_identity hid, hstruck, hprimary, hsecondary]
  have hstores := useMagnitudes_stores struck primary rest r.meanFund (msOf r.opening)
  have hresult := gridStep_resultStored struck primary rest r.meanFund (msOf r.opening) (verdictOf struck.active.limits ms)
  have hexceeding := gridStep_of_exceeding (resultStored struck primary rest r.meanFund) (msOf r.opening)
  have hclean := gridStep_of_clean (resultStored struck primary rest r.meanFund) (msOf r.opening)
  rw [selectPlace_resultStored] at hexceeding
  obtain ⟨⟨hengine, hstreams, hspeeds, hitems, hactive⟩, ⟨hplaces, hanalysed, hexceedings, hformer, hdetector⟩, hgrid, hsummary⟩ :=
    hstores
  obtain ⟨u, hu⟩ : ∃ u, u = useMagnitudes struck primary rest r.meanFund (msOf r.opening) := ⟨_, rfl⟩
  rw [← hu] at hdeliver hengine hstreams hspeeds hitems hactive hplaces hanalysed hexceedings hformer hdetector hgrid hsummary
  rw [← hgrid] at hresult
  obtain ⟨hverdict, hworst, hratio, hmean, hthdV, hthdI, hfund⟩ := hresult
  have hanalysis : exec .analysisComplete s = .next (settle (engineLook (idled u))) := by
    rw [exec_analysisComplete_harm hs ha, hdeliver]
    rfl
  have hidled : (idled u).engine = { s.engine with
      analysing := none,
      omitted := min (s.engine.omitted + (r.secondaries.length - (keptSecondaries s r).length)) 4294967295 } := by
    change { u.engine with analysing := none } = _
    rw [hengine, hstruck]
    rfl
  subst hstruck
  refine ⟨idled u, hanalysis, hidled, hstreams, hspeeds, hitems, hactive, hplaces, hanalysed, hexceedings, hformer, hverdict,
    hworst, hratio, hmean, hthdV, hthdI, hfund, hdetector, hsummary, fun hv => ?_, fun hv => ?_⟩
  · change verdictOf s.active.limits ms = .exceeding at hv
    rw [hv] at hgrid
    rw [← hgrid] at hexceeding
    exact hexceeding
  · change verdictOf s.active.limits ms = .clean at hv
    rw [hv] at hgrid
    rw [← hgrid] at hclean
    exact hclean

/-- Settles O40: the results at their delivery, the choice of the engine, and what a harmonic result is made of. -/
theorem resultsAreDeliveredOrDiscarded : Obligations.ResultsAreDeliveredOrDiscarded := by
  unfold Obligations.ResultsAreDeliveredOrDiscarded
  exact ⟨vibIdentity_iff, fun s r hs ha hid => delivery_of_stale_vib hs ha hid,
    fun s r v e hs ha hid htest hv he => delivery_of_graded hs ha hid htest hv he,
    fun s r hs ha hid => delivery_of_stale_harm hs ha hid,
    fun s r hs ha hid => delivery_of_mags hs ha hid (primaryMags s r) _ rfl rfl,
    fun s ha => engineLook_starts ha, fun s ha hvib hharm => engineLook_discards ha hvib hharm, worstGrade_spec,
    fun s r v e hs ha hid htest hv he => delivery_of_test hs ha hid htest hv he,
    fun n f L hf hL => ratioOf_rules hf hL, comparison_rules,
    fun rs hrs => ⟨worstOrder_eq_none rs, worstOrder_eq_some rs hrs⟩, contributorsOf_rules,
    fun m n hden => nearestSqrt_spec (n * 4 ^ m.scale) m.den hden, fun m hden => hysteresisOf_rules hden,
    feederFundamentals_rules, fun s r x h h1 h40 => mags_rules s r x h1 h40, gridSummaryStep_rules⟩

end Sys2Proof.Machine
end

section
/-! PROOF. The commit: the check of the staged Stream Table, the groups, the changeover of slots and the look at a waiting
commit (R3, R5, R186, R188). -/

namespace Sys2Proof.Machine

/-! ## The lowest slot (R186) -/

/-- The slots stand in ascending order. -/
theorem allSlots_sorted : allSlots.Pairwise (· < ·) := List.pairwise_lt_finRange 192

/-- A search of the slots finds the lowest. -/
theorem lowest_of_find_allSlots {p : SlotId → Bool} {i : SlotId} (h : allSlots.find? p = some i) :
    p i = true ∧ ∀ j, j < i → ¬ p j = true := by
  obtain ⟨hp, as, bs, hsplit, hbefore⟩ := List.find?_eq_some_iff_append.mp h
  refine ⟨hp, fun j hj => ?_⟩
  have hsorted : (as ++ i :: bs).Pairwise (· < ·) := hsplit ▸ allSlots_sorted
  have hmem : j ∈ as ++ i :: bs := hsplit ▸ mem_allSlots j
  rcases List.mem_append.mp hmem with has | hrest
  · have := hbefore j has
    simpa using this
  · rcases List.mem_cons.mp hrest with rfl | hbs
    · exact absurd hj (lt_irrefl j)
    · obtain ⟨hfirst, -⟩ := List.pairwise_cons.mp (List.pairwise_append.mp hsorted).2.1
      exact absurd hj (not_lt.mpr (le_of_lt (hfirst j hbs)))

/-- A search of the slots finds a slot exactly where it is the lowest. -/
theorem find_allSlots_eq_some (p : SlotId → Bool) (i : SlotId) :
    allSlots.find? p = some i ↔ p i = true ∧ ∀ j, j < i → ¬ p j = true := by
  refine ⟨lowest_of_find_allSlots, fun ⟨hi, hbelow⟩ => ?_⟩
  cases hfind : allSlots.find? p with
  | none => exact absurd hi (List.find?_eq_none.mp hfind i (mem_allSlots i))
  | some k =>
    obtain ⟨hk, hkbelow⟩ := lowest_of_find_allSlots hfind
    rcases lt_trichotomy k i with h | h | h
    · exact absurd hk (hbelow k h)
    · rw [h]
    · exact absurd hi (hkbelow i h)

/-- A search of the slots that finds none. -/
theorem find_allSlots_eq_none (p : SlotId → Bool) : allSlots.find? p = none ↔ ∀ i, ¬ p i = true := by
  rw [List.find?_eq_none]
  exact ⟨fun h i => h i (mem_allSlots i), fun h i _ => h i⟩

/-! ## The check of the staged Stream Table (R3, R186) -/

/-- The entries below a slot. -/
theorem mem_stagedBelow (s : State) (i : SlotId) (x : StreamEntry) :
    x ∈ stagedBelow s i ↔ ∃ j, j < i ∧ s.staged.streams.get j = some x := by
  simp [stagedBelow, stagedAt, List.mem_filterMap]

/-- A staged key that stands in a lower slot. -/
theorem repeatsKey_iff (s : State) (i : SlotId) : repeatsKey s i = true ↔ keyRepeated s i := by
  unfold repeatsKey keyRepeated stagedAt
  cases he : s.staged.streams.get i with
  | none => simp
  | some e =>
    simp only [List.any_eq_true, mem_stagedBelow, sameKey, Bool.and_eq_true, decide_eq_true_eq]
    constructor
    · rintro ⟨x, ⟨j, hj, hx⟩, hsource, hchannel⟩
      exact ⟨e, j, x, rfl, hj, hx, hsource.symm, hchannel.symm⟩
    · rintro ⟨e', j, x, he', hj, hx, hsource, hchannel⟩
      cases he'
      exact ⟨x, ⟨j, hj, hx⟩, hsource.symm, hchannel.symm⟩

/-- How many of the places of a list give an element that passes. -/
theorem length_filter_filterMap {α β : Type} (f : α → Option β) (p : β → Bool) (xs : List α) :
    ((xs.filterMap f).filter p).length = (xs.filter (fun a => (f a).any p)).length := by
  induction xs with
  | nil => rfl
  | cons a xs ih =>
    cases hf : f a with
    | none => simp [hf, ih]
    | some b => cases hp : p b <;> simp [hf, hp, ih]

/-- A list without repetition has `k` elements that pass exactly where `k` different ones of it do. -/
theorem le_length_filter_iff {α : Type} [DecidableEq α] {xs : List α} (hxs : xs.Nodup) (p : α → Bool) (k : Nat) :
    k ≤ (xs.filter p).length ↔ ∃ js : List α, js.Nodup ∧ js.length = k ∧ ∀ j ∈ js, j ∈ xs ∧ p j = true := by
  constructor
  · intro h
    refine ⟨(xs.filter p).take k, (hxs.filter p).sublist (List.take_sublist ..), List.length_take_of_le h, fun j hj => ?_⟩
    exact List.mem_filter.mp (List.mem_of_mem_take hj)
  · rintro ⟨js, hnodup, rfl, hall⟩
    exact (hnodup.subperm (fun j hj => List.mem_filter.mpr (hall j hj))).length_le

/-- Four VIB entries of an entry's turbine stand below its slot. -/
theorem four_vib_below_iff (s : State) (i : SlotId) (e : StreamEntry) :
    4 ≤ ((stagedBelow s i).filter (sameVibTurbine e)).length ↔
      e.role = .vib ∧ ∃ js : List SlotId, js.Nodup ∧ js.length = 4 ∧
        ∀ j ∈ js, j < i ∧ ∃ x, s.staged.streams.get j = some x ∧ x.role = .vib ∧ x.source = e.source := by
  have hpass (j : SlotId) : (stagedAt s j).any (sameVibTurbine e) = true ↔
      ∃ x, s.staged.streams.get j = some x ∧ e.role = .vib ∧ x.role = .vib ∧ x.source = e.source := by
    unfold stagedAt
    cases s.staged.streams.get j with
    | none => simp
    | some x =>
      simp only [Option.any_some, sameVibTurbine, Bool.and_eq_true, decide_eq_true_eq, Option.some.injEq, exists_eq_left']
      exact ⟨fun ⟨⟨he, hx⟩, hsource⟩ => ⟨he, hx, hsource.symm⟩, fun ⟨he, hx, hsource⟩ => ⟨⟨he, hx⟩, hsource.symm⟩⟩
  have hnodup : (allSlots.filter (fun j => decide (j < i))).Nodup := (allSlots_sorted.imp ne_of_lt).filter _
  rw [stagedBelow, length_filter_filterMap, le_length_filter_iff hnodup]
  simp only [List.mem_filter, mem_allSlots, true_and, decide_eq_true_eq, hpass]
  constructor
  · rintro ⟨js, hjs, hlen, hall⟩
    obtain ⟨j, hj⟩ : ∃ j, j ∈ js := List.exists_mem_of_length_pos (by omega)
    obtain ⟨-, x, -, hrole, -⟩ := hall j hj
    refine ⟨hrole, js, hjs, hlen, fun k hk => ?_⟩
    obtain ⟨hlt, y, hy, -, hyrole, hysource⟩ := hall k hk
    exact ⟨hlt, y, hy, hyrole, hysource⟩
  · rintro ⟨hrole, js, hjs, hlen, hall⟩
    refine ⟨js, hjs, hlen, fun k hk => ?_⟩
    obtain ⟨hlt, y, hy, hyrole, hysource⟩ := hall k hk
    exact ⟨hlt, y, hy, hrole, hyrole, hysource⟩

/-- The roles that a source has once. -/
theorem oncePerSource_iff (r : Role) : oncePerSource r = true ↔ r = .tach ∨ r = .opstat ∨ r = .convI := by
  cases r <;> simp [oncePerSource]

/-- The roles of the feeder. -/
theorem feederRole_iff (r : Role) : feederRole r = true ↔ r = .gridV ∨ r = .gridI := by
  cases r <;> simp [feederRole]

/-- A staged entry that breaks a role limit. -/
theorem repeatsRole_iff (s : State) (i : SlotId) : repeatsRole s i = true ↔ roleRepeated s i := by
  unfold repeatsRole roleRepeated
  rw [show stagedAt s i = s.staged.streams.get i from rfl]
  cases he : s.staged.streams.get i with
  | none => simp
  | some e =>
    have hlimits : (stagedBelow s i).any (fun x => sameOnceRole e x || sameFeeder e x) = true ↔
        ∃ j x, j < i ∧ s.staged.streams.get j = some x ∧ x.role = e.role ∧
          (((e.role = .tach ∨ e.role = .opstat ∨ e.role = .convI) ∧ x.source = e.source) ∨
           ((e.role = .gridV ∨ e.role = .gridI) ∧ x.phase = e.phase)) := by
      simp only [List.any_eq_true, mem_stagedBelow, sameOnceRole, sameFeeder, Bool.or_eq_true, Bool.and_eq_true,
        decide_eq_true_eq, oncePerSource_iff, feederRole_iff]
      constructor
      · rintro ⟨x, ⟨j, hj, hx⟩, ⟨⟨hrole, honce⟩, hsource⟩ | ⟨⟨hrole, hfeeder⟩, hphase⟩⟩
        · exact ⟨j, x, hj, hx, hrole.symm, .inl ⟨honce, hsource.symm⟩⟩
        · exact ⟨j, x, hj, hx, hrole.symm, .inr ⟨hfeeder, hphase.symm⟩⟩
      · rintro ⟨j, x, hj, hx, hrole, ⟨honce, hsource⟩ | ⟨hfeeder, hphase⟩⟩
        · exact ⟨x, ⟨j, hj, hx⟩, .inl ⟨⟨hrole.symm, honce⟩, hsource.symm⟩⟩
        · exact ⟨x, ⟨j, hj, hx⟩, .inr ⟨⟨hrole.symm, hfeeder⟩, hphase.symm⟩⟩
    dsimp only
    rw [Bool.or_eq_true, decide_eq_true_eq, hlimits, four_vib_below_iff]
    simp

/-- The refusal of a COMMIT by its check: the lowest slot with a repeated key, else the lowest that breaks a role limit. -/
theorem commitRefusal_rules (s : State) :
    (∀ i : SlotId, commitRefusal s = some (.duplicateKey, i.val) ↔ keyRepeated s i ∧ ∀ j, j < i → ¬ keyRepeated s j) ∧
    (∀ i : SlotId, commitRefusal s = some (.duplicateRole, i.val) ↔
      (∀ j, ¬ keyRepeated s j) ∧ roleRepeated s i ∧ ∀ j, j < i → ¬ roleRepeated s j) ∧
    (commitRefusal s = none ↔ ∀ j, ¬ keyRepeated s j ∧ ¬ roleRepeated s j) := by
  have hkey (i : SlotId) : allSlots.find? (repeatsKey s) = some i ↔ keyRepeated s i ∧ ∀ j, j < i → ¬ keyRepeated s j := by
    simp only [find_allSlots_eq_some, repeatsKey_iff]
  have hrole (i : SlotId) : allSlots.find? (repeatsRole s) = some i ↔ roleRepeated s i ∧ ∀ j, j < i → ¬ roleRepeated s j := by
    simp only [find_allSlots_eq_some, repeatsRole_iff]
  have hnokey : allSlots.find? (repeatsKey s) = none ↔ ∀ j, ¬ keyRepeated s j := by
    simp only [find_allSlots_eq_none, repeatsKey_iff]
  have hnorole : allSlots.find? (repeatsRole s) = none ↔ ∀ j, ¬ roleRepeated s j := by
    simp only [find_allSlots_eq_none, repeatsRole_iff]
  simp only [forall_and, ← hkey, ← hrole, ← hnokey, ← hnorole]
  unfold commitRefusal
  cases allSlots.find? (repeatsKey s) with
  | some k => simp [Fin.val_inj]
  | none => cases allSlots.find? (repeatsRole s) <;> simp [Fin.val_inj]

/-! ## Changed slots and their groups (R5, R188) -/

/-- When a slot counts as changed. -/
theorem slotChanged_iff (s : State) (i : SlotId) :
    let x := s.streams.slots.get i
    slotChanged s i = true ↔ s.staged.streams.get i ≠ x.entry ∨ (x.state = .faulty ∧ s.staged.streams.get i ≠ none) := by
  simp [slotChanged, slotDiffers, stagedAt, Option.isSome_iff_ne_none]

/-- The changed slots. -/
theorem mem_changedSlots (s : State) (i : SlotId) : i ∈ changedSlots s ↔ slotChanged s i = true := by
  simp [changedSlots]

/-- The changed slots stand in ascending order. -/
theorem changedSlots_sorted (s : State) : (changedSlots s).Pairwise (· < ·) := allSlots_sorted.filter _

/-- Two entries share a key, a source in a role that a source has once, a feeder role and phase, or a turbine as VIB. -/
def SharesBond (a b : StreamEntry) : Prop :=
  (a.source = b.source ∧ a.channel = b.channel) ∨
  (a.role = b.role ∧ (a.role = .tach ∨ a.role = .opstat ∨ a.role = .convI) ∧ a.source = b.source) ∨
  (a.role = b.role ∧ (a.role = .gridV ∨ a.role = .gridI) ∧ a.phase = b.phase) ∨
  (a.role = .vib ∧ b.role = .vib ∧ a.source = b.source)

/-- When an old and a new entry share a bond. -/
theorem bondBetween_iff (a? b? : Option StreamEntry) :
    bondBetween a? b? = true ↔ ∃ a b, a? = some a ∧ b? = some b ∧ SharesBond a b := by
  cases a? with
  | none => simp [bondBetween]
  | some a =>
    cases b? with
    | none => simp [bondBetween]
    | some b =>
      simp [bondBetween, SharesBond, sameKey, sameOnceRole, sameFeeder, sameVibTurbine, oncePerSource_iff, feederRole_iff, or_assoc,
        and_assoc]

/-- The groups of the changed slots. -/
theorem groups_rules (s : State) :
    let shares (a b : StreamEntry) : Prop :=
      (a.source = b.source ∧ a.channel = b.channel) ∨
      (a.role = b.role ∧ (a.role = .tach ∨ a.role = .opstat ∨ a.role = .convI) ∧ a.source = b.source) ∨
      (a.role = b.role ∧ (a.role = .gridV ∨ a.role = .gridI) ∧ a.phase = b.phase) ∨
      (a.role = .vib ∧ b.role = .vib ∧ a.source = b.source)
    let half (i j : SlotId) : Prop := ∃ a b, (s.streams.slots.get i).entry = some a ∧ s.staged.streams.get j = some b ∧
      shares a b
    let changed (i : SlotId) : Prop := slotChanged s i = true
    let groups := groupsOf s (changedSlots s)
    (∀ i, changed i ↔ ∃ g ∈ groups, i ∈ g) ∧ groups.flatten.Nodup ∧
    (∀ i j, changed i → changed j →
      ((∃ g ∈ groups, i ∈ g ∧ j ∈ g) ↔
        ∀ p : SlotId → Prop, (∀ a b, changed a → changed b → half a b ∨ half b a → p a → p b) → p i → p j)) ∧
    (∀ g ∈ groups, g.Pairwise (· < ·)) ∧ groups.Pairwise (fun g h => ∃ j ∈ h, ∀ i ∈ g, i < j) := by
  intro shares half changed groups
  obtain ⟨hcovers, hnodup, hlinked, hsorted, hrising⟩ := groupsOf_spec s (changedSlots s) (changedSlots_sorted s)
  have hbonded (a b : SlotId) : bonded s a b = true ↔ half a b ∨ half b a := by
    rw [bonded, Bool.or_eq_true, bondBetween_iff, bondBetween_iff]
    exact Iff.rfl
  simp only [mem_changedSlots, hbonded] at hcovers hlinked
  refine ⟨hcovers, hnodup, fun i j hi hj => ?_, hsorted, hrising⟩
  rw [hlinked i j hi hj]
  refine forall_congr' fun p => imp_congr_left ⟨fun h a b ha hb hab => h a ha b hb hab, fun h a ha b hb hab => h a b ha hb hab⟩

/-! ## The changeover of slots (R5, R67, R90) -/

/-- The old stream of a changing slot. -/
theorem leaveOld_rules (s : State) (i : SlotId) :
    let x := s.streams.slots.get i
    (∀ e, x.entry = some e → x.state = .live →
      leaveOld s i = tellEnded s i e (if s.staged.streams.get i = none then .dropped else .replaced)) ∧
    (x.entry = none ∨ x.state ≠ .live → leaveOld s i = s) := by
  intro x
  have hleave : leaveOld s i = match x.entry with
      | some e => if x.state = .live then tellEnded s i e (changeCause (s.staged.streams.get i)) else s
      | none => s := rfl
  rw [hleave]
  refine ⟨fun e he hlive => ?_, fun h => ?_⟩
  · rw [he]
    dsimp only
    rw [if_pos hlive]
    cases s.staged.streams.get i <;> rfl
  · cases he : x.entry with
    | none => rfl
    | some e => exact if_neg (h.resolve_left (by rw [he]; exact Option.some_ne_none e))

/-- A slot given its staged copy. -/
theorem takeStaged_rules (s : State) (i : SlotId) :
    let x := s.streams.slots.get i
    (s.staged.streams.get i = none → takeStaged s i = setVib (setSlot s i { Slot.reset with inst := x.inst }) i none) ∧
    (∀ e, s.staged.streams.get i = some e →
      let u := setVib (setSlot s i { Slot.reset with state := .idle, entry := some e, inst := (x.inst + 1) % 65536 }) i
        (if e.role = .vib then some (newVibRec (setOf s e)) else none)
      takeStaged s i = if e.role = .gridV ∧ e.phase = .a
        then { u with harm := { u.harm with detector := { u.harm.detector with h := 0 } } } else u) := by
  intro x
  unfold takeStaged stagedAt
  refine ⟨fun h => ?_, fun e h => ?_⟩
  · rw [h]
    rfl
  · intro u
    rw [h]
    exact if_congr (isReference_iff e) rfl rfl

/-- The grades that a changeover forms again are those of the turbines that an old or a new VIB entry names. -/
theorem changeOver_rules (s : State) (g : List SlotId) :
    ∃ ts : List Tid, changeOver s g = ts.foldl formGrades (g.foldl takeStaged (g.foldl leaveOld s)) ∧
      ∀ t, t ∈ ts ↔ ∃ j ∈ g, ∃ e, (entryAt s j = some e ∨ s.staged.streams.get j = some e) ∧ e.role = .vib ∧
        e.source = tnum t := by
  refine ⟨turbinesTouched s g, rfl, fun t => ?_⟩
  simp only [turbinesTouched, stagedAt, List.mem_append, List.mem_filterMap, vibTurbine_eq_some]
  constructor
  · rintro (⟨j, hj, e, he, hvib⟩ | ⟨j, hj, e, he, hvib⟩)
    · exact ⟨j, hj, e, .inl he, hvib⟩
    · exact ⟨j, hj, e, .inr he, hvib⟩
  · rintro ⟨j, hj, e, he | he, hvib⟩
    · exact .inl ⟨j, hj, e, he, hvib⟩
    · exact .inr ⟨j, hj, e, he, hvib⟩

/-- A changeover leaves the slots that are not in it. -/
theorem changeOver_slot_of_not_mem {g : List SlotId} {i : SlotId} (hi : i ∉ g) (s : State) :
    (changeOver s g).streams.slots.get i = s.streams.slots.get i := by
  have htake (u : State) : (g.foldl takeStaged u).streams.slots.get i = u.streams.slots.get i := by
    induction g generalizing u with
    | nil => rfl
    | cons j g ih =>
      have hij : i ≠ j := fun h => hi (h ▸ List.mem_cons_self)
      have hig : i ∉ g := fun h => hi (List.mem_cons_of_mem j h)
      rw [List.foldl_cons, ih hig, takeStaged_streams, get_put, if_neg hij]
  unfold changeOver
  rw [foldl_streams formGrades_streams, htake, foldl_streams leaveOld_streams]

/-! ## The look at a waiting commit (R188) -/

/-- When a slot has a window. -/
theorem slotHasWindow_iff (s : State) (i : SlotId) : slotHasWindow s i = true ↔ windowAt s i ≠ none ∨
    ((∃ e, entryAt s i = some e ∧ e.role = .gridV ∧ e.phase = .a) ∧ ∃ w, s.harm.former = .opened w) := by
  have hgrid : refersGrid (entryAt s i) = true ↔ ∃ e, entryAt s i = some e ∧ e.role = .gridV ∧ e.phase = .a := by
    unfold refersGrid
    cases entryAt s i <;> simp [isReference_iff]
  have hopen : harmWindowOpen s = true ↔ ∃ w, s.harm.former = .opened w := by
    unfold harmWindowOpen
    cases s.harm.former <;> simp
  rw [slotHasWindow, Bool.or_eq_true, Bool.and_eq_true, Option.isSome_iff_ne_none, hgrid, hopen]

/-- The first free group and the others are of the waiting groups. -/
theorem firstFree_mem {s : State} {gs : List (List SlotId)} {g : List SlotId} {rest : List (List SlotId)}
    (h : firstFree s gs = some (g, rest)) : g ∈ gs ∧ ∀ k ∈ rest, k ∈ gs := by
  induction gs generalizing g rest with
  | nil => simp [firstFree] at h
  | cons x gs ih =>
    unfold firstFree at h
    split at h
    · cases hr : firstFree s gs with
      | none => simp [hr] at h
      | some y =>
        obtain ⟨k, more⟩ := y
        rw [hr] at h
        obtain ⟨rfl, rfl⟩ := Prod.mk.inj (Option.some.inj h)
        obtain ⟨hk, hmore⟩ := ih hr
        exact ⟨List.mem_cons_of_mem x hk, List.forall_mem_cons.mpr
          ⟨List.mem_cons_self, fun y hy => List.mem_cons_of_mem x (hmore y hy)⟩⟩
    · obtain ⟨rfl, rfl⟩ := Prod.mk.inj (Option.some.inj h)
      exact ⟨List.mem_cons_self, fun y hy => List.mem_cons_of_mem _ hy⟩

/-- A waiting commit with a free group changes it over and looks again. -/
theorem settleLoop_of_free {s : State} {p : PendingCommit} {g : List SlotId} {rest : List (List SlotId)}
    (hc : s.cmd = .commit p) (hf : firstFree s p.groups = some (g, rest)) (k : Nat) :
    settleLoop (k + 1) s = settleLoop k (changeOver { s with cmd := .commit { p with groups := rest } } g) := by
  simp only [settleLoop, hc, hf]

/-- A waiting commit without a free group waits. -/
theorem settleLoop_of_none {s : State} {p : PendingCommit} (hc : s.cmd = .commit p) (hf : firstFree s p.groups = none)
    (k : Nat) : settleLoop (k + 1) s = s := by
  simp only [settleLoop, hc, hf]

/-- Without a commit nothing changes over. -/
theorem settleLoop_of_not_commit {s : State} (h : ∀ p, s.cmd ≠ .commit p) (k : Nat) : settleLoop k s = s := by
  cases k with
  | zero => rfl
  | succ k =>
    cases hc : s.cmd with
    | commit p => exact absurd hc (h p)
    | ready => simp only [settleLoop, hc]
    | save o b => simp only [settleLoop, hc]
    | restart g => simp only [settleLoop, hc]

/-- The changeovers of waiting groups leave the tables, the Staging Area and the slots of no waiting group. -/
theorem settleLoop_keeps (k : Nat) (s : State) :
    (settleLoop k s).active = s.active ∧ (settleLoop k s).staged = s.staged ∧
      ∀ i, (∀ g ∈ waitingGroups s, i ∉ g) → (settleLoop k s).streams.slots.get i = s.streams.slots.get i := by
  induction k generalizing s with
  | zero => exact ⟨rfl, rfl, fun _ _ => rfl⟩
  | succ k ih =>
    by_cases hcommit : ∃ p, s.cmd = .commit p
    · obtain ⟨p, hc⟩ := hcommit
      cases hf : firstFree s p.groups with
      | none =>
        rw [settleLoop_of_none hc hf]
        exact ⟨rfl, rfl, fun _ _ => rfl⟩
      | some x =>
        obtain ⟨g, rest⟩ := x
        obtain ⟨hg, hrest⟩ := firstFree_mem hf
        rw [settleLoop_of_free hc hf]
        obtain ⟨waiting, hw⟩ : ∃ waiting : State, waiting = { s with cmd := .commit { p with groups := rest } } := ⟨_, rfl⟩
        rw [← hw]
        obtain ⟨hactive, hstaged, hslots⟩ := ih (changeOver waiting g)
        have hbeside := (changeOver_moves waiting g).beside
        have hgroups : waitingGroups (changeOver waiting g) = rest := by
          unfold waitingGroups
          rw [changeOver_cmd, hw]
        refine ⟨?_, ?_, fun i hi => ?_⟩
        · rw [hactive, hbeside.active, hw]
        · rw [hstaged, hbeside.staged, hw]
        · unfold waitingGroups at hi
          rw [hc] at hi
          rw [hslots i (by rw [hgroups]; exact fun k hk => hi k (hrest k hk)), changeOver_slot_of_not_mem (hi g hg), hw]
    · rw [settleLoop_of_not_commit (not_exists.mp hcommit)]
      exact ⟨rfl, rfl, fun _ _ => rfl⟩

/-- The end of a step leaves the tables, the Staging Area and the slots of no waiting group. -/
theorem settle_keeps (s : State) : (settle s).active = s.active ∧ (settle s).staged = s.staged ∧
    ∀ i, (∀ g ∈ waitingGroups s, i ∉ g) → (settle s).streams.slots.get i = s.streams.slots.get i := by
  have hend (u : State) : (endCommit u).active = u.active ∧ (endCommit u).staged = u.staged ∧ (endCommit u).streams = u.streams := by
    unfold endCommit
    split
    · split
      · exact ⟨rfl, rfl, rfl⟩
      · exact ⟨rfl, rfl, rfl⟩
    all_goals exact ⟨rfl, rfl, rfl⟩
  obtain ⟨hactive, hstaged, hslots⟩ := settleLoop_keeps (waitingGroups s).length s
  obtain ⟨heactive, hestaged, hestreams⟩ := hend (settleLoop (waitingGroups s).length s)
  refine ⟨heactive.trans hactive, hestaged.trans hstaged, fun i hi => ?_⟩
  change (endCommit (settleLoop (waitingGroups s).length s)).streams.slots.get i = _
  rw [hestreams, hslots i hi]

/-- A group with a window. -/
theorem any_slotHasWindow (s : State) (g : List SlotId) :
    g.any (slotHasWindow s) = true ↔ ∃ i ∈ g, slotHasWindow s i = true := List.any_eq_true

/-- What the end of a step does with a waiting commit. -/
theorem settle_commit_rules {s : State} {p : PendingCommit} (hcmd : s.cmd = .commit p) :
    (p.groups = [] → settle s = formAttn (replyDone { s with cmd := .ready } p.origin 23
      (u8 p.changed ++ u8 0 ++ u8 0 ++ u16 s.streams.gen ++ u16 s.active.bandGen ++ u16 s.active.limitGen ++
       u16 s.active.curveGen))) ∧
    (p.groups ≠ [] → (∀ g ∈ p.groups, ∃ i ∈ g, slotHasWindow s i = true) → settle s = formAttn s) ∧
    (∀ pre g post, p.groups = pre ++ g :: post → (∀ h ∈ pre, ∃ i ∈ h, slotHasWindow s i = true) →
      (∀ i ∈ g, slotHasWindow s i = false) →
      settle s = settle (changeOver { s with cmd := .commit { p with groups := pre ++ post } } g)) := by
  have hwaiting : waitingGroups s = p.groups := by
    unfold waitingGroups
    rw [hcmd]
  refine ⟨fun hnil => ?_, fun hne hall => ?_, fun pre g post hsplit hpre hg => ?_⟩
  · have hend : endCommit s = commitReply { s with cmd := .ready } p.origin p.changed 0 false := by
      unfold endCommit
      rw [hcmd]
      exact if_pos (by rw [hnil]; rfl)
    have hsettle : settleCommit s = endCommit s := by
      unfold settleCommit
      rw [hwaiting, hnil]
      rfl
    rw [settle, hsettle, hend]
    simp only [commitReply, generationBytes, ← List.append_assoc]
    rfl
  · refine congrArg formAttn (settleCommit_of_commitWaits fun q hq => ?_)
    rw [hcmd] at hq
    cases hq
    exact ⟨hne, fun g hg => (any_slotHasWindow s g).mpr (hall g hg)⟩
  · obtain ⟨next, hnext⟩ : ∃ next, next = changeOver { s with cmd := .commit { p with groups := pre ++ post } } g := ⟨_, rfl⟩
    have hfree : firstFree s p.groups = some (g, pre ++ post) := by
      rw [hsplit]
      refine firstFree_first (fun h hh => (any_slotHasWindow s h).mpr (hpre h hh)) ?_
      rw [List.any_eq_false]
      exact fun i hi => ne_true_of_false (hg i hi)
    have hgroups : waitingGroups next = pre ++ post := by
      unfold waitingGroups
      rw [hnext, changeOver_cmd]
    have hlength : (waitingGroups s).length = (waitingGroups next).length + 1 := by
      rw [hwaiting, hgroups, hsplit, List.length_append, List.length_append, List.length_cons]
      omega
    rw [← hnext, settle, settle, settleCommit, settleCommit, hlength, settleLoop_of_free hcmd hfree, ← hnext]

end Sys2Proof.Machine
end

section
/-! PROOF. The staged tables made active, and COMMIT in its two modes (R66, R81, R107, R111, R119, R124, R167, R186 to R188). -/

namespace Sys2Proof.Machine

/-! ## Streams of changed band sets (R66, R81) -/

/-- A stream reset for a changed set. -/
theorem resetForSet_rules {s : State} {i : SlotId} {e : StreamEntry} {r : VibRec} (he : entryAt s i = some e)
    (hr : s.vib.recs.get i = some r) :
    let fresh (x : VibRec) : VibRec := { x with
      bands := (setOf s e).bands.map (fun _ => .fresh), grade := .unknown, skip := (setOf s e).skip, post := 0 }
    resetForSet false s i = { s with vib := { s.vib with recs := put s.vib.recs i (some (fresh r)) } } ∧
    resetForSet true s i = updVib (cancelTest .commit (abandonWindow .commit s i) i) i fresh := by
  intro fresh
  have hreset (immediate : Bool) (u : State) (hu : u = if immediate then cancelTest .commit (abandonWindow .commit s i) i else s)
      (hstreams : u.streams = s.streams) (hactive : u.active = s.active) : resetForSet immediate s i = updVib u i fresh := by
    have heu : entryAt u i = some e := by
      unfold entryAt at he ⊢
      rw [hstreams, he]
    have hset : setOf u e = setOf s e := by
      unfold setOf
      rw [hactive]
    unfold resetForSet
    dsimp only
    rw [← hu, heu]
    dsimp only
    rw [hset]
  refine ⟨?_, hreset true _ rfl ?_ ?_⟩
  · rw [hreset false s rfl rfl rfl, updVib_of hr]
    rfl
  · rw [cancelTest_streams, abandonWindow_streams]
  · rw [(cancelTest_moves ..).beside.active, (abandonWindow_moves ..).beside.active]

/-- A turbine's grades formed again. -/
theorem formGrades_rules (s : State) (t : Tid) :
    let v := formGrades s t
    v.vib.recs = s.vib.recs ∧ v.streams = s.streams ∧
    (∀ x, v.vib.grades.get x =
      if x = t then worstGrade ((vibSlots s t).map (streamGrade s)) else s.vib.grades.get x) := by
  intro v
  obtain ⟨items, f, q, linked, hv, -, -⟩ := formGrades_spec s t
  have hgrades : v.vib.grades = put s.vib.grades t (worstGrade ((vibSlots s t).map (streamGrade s))) :=
    congrArg (fun u : State => u.vib.grades) hv
  have hrecs : v.vib.recs = s.vib.recs := by
    change (formGrades s t).vib.recs = _
    rw [hv]
    rfl
  refine ⟨hrecs, formGrades_streams s t, fun x => ?_⟩
  rw [hgrades, get_put]

/-- A withdrawal, and a hold request told. -/
theorem hold_rules (s : State) (t : Tid) (before : Bool) :
    let hold := decide ((s.ice.get t).state = .iced) && s.active.settings.holdOnIce
    let kept := s.harm.grid.requests.filter (fun x => x ≠ t)
    (t ∈ s.harm.grid.requests → withdraw s t =
      computeAdvice { s with harm := { s.harm with grid := { s.harm.grid with requests := kept } } } t) ∧
    (t ∉ s.harm.grid.requests → withdraw s t = s) ∧
    (before = hold → tellHold before s t = s) ∧
    (before = false → hold = true → tellHold before s t = withdraw (computeAdvice s t) t) ∧
    (before = true → hold = false → tellHold before s t = computeAdvice s t) :=
  ⟨fun h => if_pos h, fun h => if_neg h, tellHold_cases before s t⟩

/-! ## The tables made active (R187) -/

/-- The slots whose streams a commit resets. -/
theorem mem_slotsReset (s : State) (changed : List SlotId) (i : SlotId) :
    i ∈ slotsReset s (allSets.filter (setDiffers s)) changed ↔
      (∃ e, (s.streams.slots.get i).entry = some e ∧ e.role = .vib ∧
        ∃ b : SetId, b.val = e.bandSet ∧ s.staged.bands.get b ≠ s.active.bands.get b) ∧ i ∉ changed := by
  have hnames : namesSet s (allSets.filter (setDiffers s)) i = true ↔ ∃ e, (s.streams.slots.get i).entry = some e ∧
      e.role = .vib ∧ ∃ b : SetId, b.val = e.bandSet ∧ s.staged.bands.get b ≠ s.active.bands.get b := by
    unfold namesSet entryAt
    cases (s.streams.slots.get i).entry with
    | none => simp
    | some e => simp [setDiffers, and_comm]
  simp [slotsReset, hnames]

/-- The generation of the Stream Table behind a commit of some slots. -/
theorem raisedGen_isEmpty (changed : List SlotId) (g : Nat) :
    raisedGen (!changed.isEmpty) g = if changed = [] then g else (g + 1) % 65536 := by
  cases changed <;> rfl

/-- What a commit does behind its tables, in the order in which the model does it. -/
theorem applyTables_rules (s : State) (immediate : Bool) (changed : List SlotId) :
    let old := s.active
    let new := s.staged
    let next (differs : Bool) (g : Nat) : Nat := if differs = true then (g + 1) % 65536 else g
    let named (i : SlotId) : Prop := ∃ e, (s.streams.slots.get i).entry = some e ∧ e.role = .vib ∧
      ∃ b : SetId, b.val = e.bandSet ∧ new.bands.get b ≠ old.bands.get b
    let s1 : State := { s with
      active := {
        bands := new.bands, bandGen := next (decide (new.bands ≠ old.bands)) old.bandGen,
        limits := new.limits, limitGen := next (decide (new.limits ≠ old.limits)) old.limitGen,
        curves := new.curves, curveGen := next (decide (new.curves ≠ old.curves)) old.curveGen,
        settings := new.settings },
      streams := { s.streams with gen := if changed = [] then s.streams.gen else (s.streams.gen + 1) % 65536 } }
    ∃ slots : List SlotId, slots.Pairwise (· < ·) ∧ (∀ i, i ∈ slots ↔ named i ∧ i ∉ changed) ∧
      (let s2 := (slots.filterMap (fun i => vibTurbine (s.streams.slots.get i).entry)).foldl formGrades
        (slots.foldl (resetForSet immediate) s1)
       let g := s2.harm.grid
       let s3 : State := if new.limits = old.limits then s2 else { s2 with harm := { s2.harm with grid := { g with
         exceedRun := 0, cleanRun := 0, escalation := 0, verdict := none, worst := none, worstRatio := none,
         thdV := none, thdI := none } } }
       let s4 : State := if new.curves = old.curves then s3 else allTurbines.foldl (discardBlock .curve) s3
       let s5 := (s4.harm.grid.requests.drop new.settings.cmax).reverse.foldl withdraw s4
       let s6 : State := { s5 with
         ice := mapTab (fun r => { r with evidence := min r.evidence new.settings.confirm }) s5.ice }
       let s7 := allTurbines.foldl (fun x t =>
         tellHold (decide ((x.ice.get t).state = .iced) && old.settings.holdOnIce) x t) s6
       applyTables s immediate changed =
         if old.settings.reduction = new.settings.reduction then s7 else allTurbines.foldl computeAdvice s7) := by
  intro old new next named s1
  refine ⟨slotsReset s (allSets.filter (setDiffers s)) changed, allSlots_sorted.filter _, mem_slotsReset s changed, ?_⟩
  intro s2 g s3 s4 s5 s6 s7
  obtain ⟨slots, hslots⟩ : ∃ slots, slots = slotsReset s (allSets.filter (setDiffers s)) changed := ⟨_, rfl⟩
  have hbands : bandsChanged s1 immediate slots = s2 := by
    rw [hslots]
    rfl
  have hfirst : ({ s with
      active := activeOfStaged s,
      streams := { s.streams with gen := raisedGen (!changed.isEmpty) s.streams.gen } } : State) = s1 := by
    rw [raisedGen_isEmpty]
    rfl
  have happly : applyTables s immediate changed = settingsChanged s4 old.settings := by
    unfold applyTables
    dsimp only
    rw [hfirst, ← hslots, hbands]
    rfl
  have h2 : s2.active = s1.active := hbands ▸ (bandsChanged_moves s1 immediate slots).beside.active
  have h3 : s3.active = s2.active := by
    simp only [s3]
    split_ifs <;> rfl
  have h4 : s4.active = s3.active := by
    simp only [s4]
    split_ifs
    · rfl
    · exact (curvesChanged_moves s3).beside.active
  have hsettings : s4.active.settings = new.settings := by
    rw [h4, h3, h2]
  have htrim : trimRequests s4 = s5 := by
    unfold trimRequests
    rw [hsettings]
  have h5 : s5.active.settings = new.settings := by
    rw [← htrim, (trimRequests_moves s4).beside.active, hsettings]
  have hclamp : clampEvidence s5 = s6 := by
    unfold clampEvidence
    rw [h5]
  have hhold : allTurbines.foldl (holdSettingAt old.settings) s6 = s7 := rfl
  have h7 : s7.active.settings = new.settings := by
    have hheld := (Moves.foldl (f := holdSettingAt old.settings) (fun x t => tellHold_moves _ x t) allTurbines s6).beside.active
    rw [← hhold, hheld]
    exact h5
  rw [happly]
  unfold settingsChanged
  dsimp only
  rw [htrim, hclamp, hhold, h7]
  rfl

end Sys2Proof.Machine
end

section
/-! PROOF. COMMIT: the tables made active, and the two modes (R186 to R188). -/

namespace Sys2Proof.Machine

/-! ## What the tables made active leave (R187) -/

/-- The state with the staged tables and settings active, before the blocks are told. -/
def tablesActive (s : State) (changed : List SlotId) : State :=
  { s with
    active := activeOfStaged s,
    streams := { s.streams with gen := raisedGen (!changed.isEmpty) s.streams.gen } }

/-- Behind the tables the blocks are told. -/
theorem applyTables_moves (s : State) (immediate : Bool) (changed : List SlotId) :
    Moves (tablesActive s changed) (applyTables s immediate changed) := by
  have hbands := bandsChanged_moves (tablesActive s changed) immediate
    (slotsReset s (allSets.filter (setDiffers s)) changed)
  have hlimits := fun x => Moves.ite (c := s.staged.limits = s.active.limits) (.refl x) (limitsChanged_moves x)
  have hcurves := fun x => Moves.ite (c := s.staged.curves = s.active.curves) (.refl x) (curvesChanged_moves x)
  have hsettings := fun x => settingsChanged_moves x s.active.settings
  unfold applyTables
  exact ((hbands.trans (hlimits _)).trans (hcurves _)).trans (hsettings _)

/-- A stream reset for a changed set leaves the Stream Table. -/
theorem resetForSet_streams (immediate : Bool) (s : State) (i : SlotId) : (resetForSet immediate s i).streams = s.streams := by
  have hfirst : (if immediate then cancelTest .commit (abandonWindow .commit s i) i else s).streams = s.streams := by
    split
    · rw [cancelTest_streams, abandonWindow_streams]
    · rfl
  unfold resetForSet
  dsimp only
  split
  · rw [updVib_streams, hfirst]
  · exact hfirst

/-- What the new settings do leaves the Stream Table. -/
theorem settingsChanged_streams (s : State) (old : Settings) : (settingsChanged s old).streams = s.streams := by
  have htrimmed : (trimRequests s).streams = s.streams := foldl_streams withdraw_streams _ s
  have hheld : (allTurbines.foldl (holdSettingAt old) (clampEvidence (trimRequests s))).streams = s.streams :=
    (foldl_streams (f := holdSettingAt old) (fun x t => tellHold_streams _ x t) allTurbines _).trans htrimmed
  unfold settingsChanged
  dsimp only
  split
  · exact hheld
  · exact (foldl_streams computeAdvice_streams allTurbines _).trans hheld

/-- The tables made active write the generation of the Stream Table and leave its slots. -/
theorem applyTables_streams (s : State) (immediate : Bool) (changed : List SlotId) :
    (applyTables s immediate changed).streams = { s.streams with gen := raisedGen (!changed.isEmpty) s.streams.gen } := by
  have hbands (u : State) (slots : List SlotId) : (bandsChanged u immediate slots).streams = u.streams :=
    (foldl_streams formGrades_streams _ _).trans (foldl_streams (resetForSet_streams immediate) slots u)
  have hlimits (u : State) : (if s.staged.limits = s.active.limits then u else limitsChanged u).streams = u.streams := by
    split <;> rfl
  have hcurves (u : State) : (if s.staged.curves = s.active.curves then u else curvesChanged u).streams = u.streams := by
    split
    · rfl
    · exact foldl_streams (discardBlock_streams .curve) allTurbines u
  unfold applyTables
  dsimp only
  rw [settingsChanged_streams, hcurves, hlimits, hbands]

/-- Slots that change over one after another, each once: the slots named have taken their staged copies, the others stand. -/
theorem foldl_changeOver_streams {l : List SlotId} (hl : l.Nodup) (s : State) :
    (l.foldl (fun x i => changeOver x [i]) s).streams.gen = s.streams.gen ∧
      ∀ i, (l.foldl (fun x i => changeOver x [i]) s).streams.slots.get i =
        if i ∈ l then slotTaking (s.streams.slots.get i) (s.staged.streams.get i) else s.streams.slots.get i := by
  induction l generalizing s with
  | nil => exact ⟨rfl, fun i => (if_neg List.not_mem_nil).symm⟩
  | cons j l ih =>
    obtain ⟨hj, hnodup⟩ := List.nodup_cons.mp hl
    obtain ⟨hgen, hslots⟩ := ih hnodup (changeOver s [j])
    obtain ⟨hgen1, hslots1⟩ := changeOver_streams (List.nodup_singleton j) s
    rw [List.foldl_cons]
    refine ⟨hgen.trans hgen1, fun i => ?_⟩
    rw [hslots i, hslots1 i, (changeOver_moves s [j]).beside.staged]
    by_cases hij : i = j
    · subst hij
      simp [hj, stagedAt]
    · simp [hij]

/-! ## COMMIT (R186, R187, R188) -/

/-- The timeouts that COMMIT takes. -/
theorem commitTicks_of_ok {timeout : Nat} (h : timeout = 0 ∨ (10 ≤ timeout ∧ timeout ≤ 600)) :
    ∃ ticks, commitTicks timeout = some ticks := by
  unfold commitTicks
  split_ifs with h0 h1
  · exact ⟨_, rfl⟩
  · exact ⟨_, rfl⟩
  · exact absurd h (not_or.mpr ⟨h0, h1⟩)

/-- COMMIT with its parameters in range. -/
theorem doCommit_of_ok {mode timeout ticks : Nat} (hmode : mode ≤ 1) (hticks : commitTicks timeout = some ticks) (o : Origin)
    (s : State) : doCommit o mode timeout s = commitChecked o (decide (mode = 0)) ticks s := by
  unfold doCommit
  rw [if_neg (Nat.not_lt.mpr hmode), hticks]

/-- A COMMIT whose check refuses. -/
theorem commit_refused {o : Origin} {s : State} {mode timeout : Nat} {why : Reason} {detail : Nat} (hacc : accepts s o)
    (hmode : mode ≤ 1) (htimeout : timeout = 0 ∨ (10 ≤ timeout ∧ timeout ≤ 600))
    (h : commitRefusal s = some (why, detail)) : answersRefused (.commit o mode timeout) s o 23 why detail := by
  obtain ⟨ticks, hticks⟩ := commitTicks_of_ok htimeout
  refine answersRefused_of (body := doCommit o mode timeout) hacc rfl ?_
  rw [doCommit_of_ok hmode hticks, commitChecked, h]
  rfl

/-- A COMMIT with a parameter out of range. -/
theorem commit_badParameter {o : Origin} {s : State} (hacc : accepts s o) (mode timeout : Nat) :
    (1 < mode → answersRefused (.commit o mode timeout) s o 23 .badParameter 1) ∧
    (mode ≤ 1 → timeout ≠ 0 → timeout < 10 ∨ 600 < timeout →
      answersRefused (.commit o mode timeout) s o 23 .badParameter 2) := by
  refine ⟨fun h => answersRefused_of (body := doCommit o mode timeout) hacc rfl (if_pos h), fun h h0 hout =>
    answersRefused_of (body := doCommit o mode timeout) hacc rfl ?_⟩
  have hnone : commitTicks timeout = none := by
    unfold commitTicks
    rw [if_neg h0, if_neg (by omega)]
  unfold doCommit
  rw [if_neg (Nat.not_lt.mpr h), hnone]
  rfl

/-- The generation that a changed table gets. -/
theorem raisedGen_decide (p : Prop) [Decidable p] (g : Nat) :
    raisedGen (decide (¬ p)) g = if p then g else (g + 1) % 65536 := by
  unfold raisedGen
  by_cases h : p <;> simp [h]

/-- The state that COMMIT IMMEDIATE makes, before its reply. -/
def committed (s : State) : State :=
  (changedSlots s).foldl (fun x i => changeOver x [i]) (applyTables s true (changedSlots s))

/-- COMMIT IMMEDIATE past its check. -/
theorem commit_immediate {o : Origin} {s : State} {timeout : Nat} (hacc : accepts s o)
    (htimeout : timeout = 0 ∨ (10 ≤ timeout ∧ timeout ≤ 600)) (h : commitRefusal s = none) :
    answersDone (.commit o 0 timeout) s o 23 (committed s) (u8 (changedSlots s).length ++ u8 0 ++ u8 0 ++
      u16 (committed s).streams.gen ++ u16 (committed s).active.bandGen ++ u16 (committed s).active.limitGen ++
      u16 (committed s).active.curveGen) := by
  obtain ⟨ticks, hticks⟩ := commitTicks_of_ok htimeout
  refine answersDone_of (body := doCommit o 0 timeout) hacc rfl ?_
  have hnow : doCommit o 0 timeout s = commitNow s o := by
    rw [doCommit_of_ok (Nat.zero_le 1) hticks, commitChecked, h]
    rfl
  rw [hnow]
  unfold commitNow commitReply generationBytes
  simp only [← List.append_assoc]
  rfl

/-- What COMMIT IMMEDIATE makes of the tables and the slots. -/
theorem committed_fields (s : State) :
    (committed s).active = activeOfStaged s ∧ (committed s).staged = s.staged ∧ (committed s).cmd = s.cmd ∧
      (committed s).clock = s.clock ∧ (committed s).image = s.image ∧ (committed s).store = s.store ∧
      (committed s).streams.gen = (if changedSlots s = [] then s.streams.gen else (s.streams.gen + 1) % 65536) ∧
      ∀ i, (committed s).streams.slots.get i =
        if slotChanged s i = true then slotTaking (s.streams.slots.get i) (s.staged.streams.get i)
        else s.streams.slots.get i := by
  have happlied := applyTables_moves s true (changedSlots s)
  have hbeside := (happlied.trans
    (Moves.foldl (f := fun x i => changeOver x [i]) (fun x i => changeOver_moves x [i]) (changedSlots s) _)).beside
  obtain ⟨hgen, hslots⟩ := foldl_changeOver_streams ((changedSlots_sorted s).imp ne_of_lt) (applyTables s true (changedSlots s))
  rw [applyTables_streams, raisedGen_isEmpty] at hgen
  rw [applyTables_streams, happlied.beside.staged] at hslots
  simp only [mem_changedSlots] at hslots
  exact ⟨hbeside.active, hbeside.staged, hbeside.cmd, hbeside.clock, hbeside.image, hbeside.store, hgen, hslots⟩

/-- No slot is changed. -/
theorem changedSlots_eq_nil (s : State) : changedSlots s = [] ↔ ∀ i, slotChanged s i = false := by
  simp [changedSlots, List.filter_eq_nil_iff]

/-- COMMIT IMMEDIATE past its check, with the state it makes. -/
theorem commit_immediate_rules {o : Origin} {s : State} {timeout : Nat} (hacc : accepts s o)
    (htimeout : timeout = 0 ∨ (10 ≤ timeout ∧ timeout ≤ 600)) (h : commitRefusal s = none) :
    ∃ t, answersDone (.commit o 0 timeout) s o 23 t (u8 (changedSlots s).length ++ u8 0 ++ u8 0 ++ u16 t.streams.gen ++
        u16 t.active.bandGen ++ u16 t.active.limitGen ++ u16 t.active.curveGen) ∧
      t = (changedSlots s).foldl (fun x i => changeOver x [i]) (applyTables s true (changedSlots s)) ∧
      ((∀ i, slotChanged s i = false) → t.streams.gen = s.streams.gen) ∧
      ((∃ i, slotChanged s i = true) → t.streams.gen = (s.streams.gen + 1) % 65536) ∧
      (∀ i, i ∈ changedSlots s ↔ slotChanged s i = true) ∧
      t.active.bands = s.staged.bands ∧ t.active.limits = s.staged.limits ∧ t.active.curves = s.staged.curves ∧
      t.active.settings = s.staged.settings ∧
      t.active.bandGen = (if s.staged.bands = s.active.bands then s.active.bandGen else (s.active.bandGen + 1) % 65536) ∧
      t.active.limitGen = (if s.staged.limits = s.active.limits then s.active.limitGen else (s.active.limitGen + 1) % 65536) ∧
      t.active.curveGen = (if s.staged.curves = s.active.curves then s.active.curveGen else (s.active.curveGen + 1) % 65536) ∧
      (∀ i, t.streams.slots.get i =
        if slotChanged s i = true then slotTaking (s.streams.slots.get i) (s.staged.streams.get i)
        else s.streams.slots.get i) ∧
      t.staged = s.staged ∧ t.cmd = .ready ∧ t.clock = s.clock ∧ t.image = s.image ∧ t.store = s.store := by
  obtain ⟨hactive, hstaged, hcmd, hclock, himage, hstore, hgen, hslots⟩ := committed_fields s
  obtain ⟨-, -, -, hready⟩ := id hacc
  refine ⟨committed s, commit_immediate hacc htimeout h, rfl, fun hnone => ?_, fun ⟨i, hi⟩ => ?_, mem_changedSlots s, ?_⟩
  · rw [hgen, if_pos ((changedSlots_eq_nil s).mpr hnone)]
  · rw [hgen, if_neg fun hnil => ?_]
    exact ne_true_of_false ((changedSlots_eq_nil s).mp hnil i) hi
  · rw [hactive]
    exact ⟨rfl, rfl, rfl, rfl, raisedGen_decide .., raisedGen_decide .., raisedGen_decide .., hslots, hstaged,
      hcmd.trans hready, hclock, himage, hstore⟩

/-- COMMIT AT_BOUNDARY past its check. -/
theorem commit_atBoundary_rules {o : Origin} {s : State} {timeout ticks : Nat} (hacc : accepts s o)
    (hticks : commitTicks timeout = some ticks) (h : commitRefusal s = none) :
    ∃ t, exec (.commit o 1 timeout) s = .next t ∧
      t = settle { applyTables s false (changedSlots s) with
        cmd := .commit { origin := o, ticks := ticks, groups := groupsOf s (changedSlots s), changed := (changedSlots s).length } } ∧
      t.active.bands = s.staged.bands ∧ t.active.limits = s.staged.limits ∧ t.active.curves = s.staged.curves ∧
      t.active.settings = s.staged.settings ∧ t.staged = s.staged ∧
      (∀ i, slotChanged s i = false → t.streams.slots.get i = s.streams.slots.get i) ∧
      (∀ p, t.cmd = .commit p → ∀ g ∈ p.groups, g.any (slotHasWindow t) = true) := by
  have hexec : exec (.commit o 1 timeout) s = .next (settle (commitWaiting s o ticks)) := by
    rw [exec_of_accepts (body := doCommit o 1 timeout) hacc rfl, doCommit_of_ok (le_refl 1) hticks, commitChecked, h]
    rfl
  obtain ⟨hactive, hstaged, hslots⟩ := settle_keeps (commitWaiting s o ticks)
  have hbeside := (applyTables_moves s false (changedSlots s)).beside
  have htables : (settle (commitWaiting s o ticks)).active = activeOfStaged s := hactive.trans hbeside.active
  obtain ⟨hcovers, -⟩ := groupsOf_spec s (changedSlots s) (changedSlots_sorted s)
  refine ⟨settle (commitWaiting s o ticks), hexec, rfl, ?_, ?_, ?_, ?_, hstaged.trans hbeside.staged, fun i hi => ?_,
    fun p hp => (settle_commitWaits _ p hp).2⟩
  · rw [htables]
    rfl
  · rw [htables]
    rfl
  · rw [htables]
    rfl
  · rw [htables]
    rfl
  · have hwaiting : ∀ g ∈ waitingGroups (commitWaiting s o ticks), i ∉ g := fun g hg hig =>
      ne_true_of_false hi ((mem_changedSlots s i).mp ((hcovers i).mpr ⟨g, hg, hig⟩))
    rw [hslots i hwaiting]
    change (applyTables s false (changedSlots s)).streams.slots.get i = _
    rw [applyTables_streams]

/-- Settles O26: COMMIT in its two modes, its check, the tables made active, the groups and their changeover. -/
theorem commitImmediateTakesTheStage : Obligations.CommitImmediateTakesTheStage := by
  unfold Obligations.CommitImmediateTakesTheStage
  exact ⟨fun o s timeout hacc htimeout h => commit_immediate_rules hacc htimeout h,
    fun o s mode timeout why detail hacc hmode htimeout h => commit_refused hacc hmode htimeout h,
    fun o s timeout ticks hacc hticks h => commit_atBoundary_rules hacc hticks h, commitRefusal_rules,
    fun o s mode timeout hacc => commit_badParameter hacc mode timeout, applyTables_rules,
    fun s i e r he hr => resetForSet_rules he hr, formGrades_rules, hold_rules,
    fun s i => ⟨slotChanged_iff s i, (leaveOld_rules s i).1, (leaveOld_rules s i).2, (takeStaged_rules s i).1,
      (takeStaged_rules s i).2, changeOver_rules s⟩,
    groups_rules, slotHasWindow_iff, fun s p hcmd => settle_commit_rules hcmd⟩

end Sys2Proof.Machine
end
